-- ==== Sys2Proof/Word.lean ====
section
/-!
DEFINITION. Sys2Proof/Word.lean: the words of the machine.
-/
namespace Sys2Proof

/-- One byte. -/
abbrev Byte := BitVec 8
/-- One 32-bit BAR0 register (R122). -/
abbrev Word := BitVec 32
/-- A 64-bit tick count (R7). -/
abbrev Tick := BitVec 64
/-- A sparse table indexed by number: pairs in rising order of number, none with the value an unlisted number has. -/
abbrev Tab (β : Type) := List (Nat × β)
/-- A complex value of the signal processing: real and imaginary part. -/
abbrev Cpx := Rat × Rat

end Sys2Proof
end

