-- ==== Sys2Proof/Machine/Parts/Mailbox.lean ====
section
/-!
DEFINITION. Sys2Proof/Machine/Parts/Mailbox.lean: the parts of the state that spec/04 gives the mailbox, the gates, the
events and the PCIe endpoint, and what the block sends out.
-/
namespace Sys2Proof.Machine

/-- The shared status codes of Table 6 (00), R22. -/
inductive Status where
  | ok | accepted | busyDeferred | eUnknownCmd | eBadParam | eRange | eState | ePermission | eStale | eDate
  | eIntegrity | eSignature | eRollback | ePoint | eScalar | failedInFlight | abortedByReset | lateAtTick | eInternal
deriving DecidableEq, Repr

/-- What the block drives out of itself, in the order it does so. Host memory, the optical engine, the far end and the
clients lie outside the block; what reaches them is recorded here. -/
inductive Out where
  /-- An MSI-X message of a vector (R131, R126, R670). -/
  | msix (vector : Nat)
  /-- Bytes written to host memory by DMA (R131, R145). -/
  | hostWrite (addr : Nat) (data : List Byte)
  /-- A word answered to a PCIe read of BAR0. -/
  | readWord (offset : Nat) (value : Word)
  /-- An Unsupported Request completion (read) or error report (write) (R122, R180). -/
  | unsupported (offset : Nat) (isWrite : Bool)
  /-- An error message of the PCIe endpoint (R157): 0 ERR_COR, 1 ERR_NONFATAL, 2 ERR_FATAL. -/
  | errorMessage (kind : Nat)
  /-- Configuration Request Retry Status to a configuration request before BAR0 is ready (R91). -/
  | configRetry
  /-- The data bytes of an SPI read frame (R159). -/
  | spiData (data : List Byte)
  /-- A frame on the optics control port (R237, R358): select line, its start in units of 320 ns, the bytes that the device sends, and how
  many bytes the frame has. -/
  | opcFrame (line start : Nat) (mosi : List Byte) (bytes : Nat)
  /-- A client packet leaving by an interface (its first lane): channel, packet number, bytes. -/
  | clientPacket (iface channel packet : Nat) (bytes : List Byte)
  /-- What the PCS lanes of an interface carry in a tick: their symbols of 10 bits (R431). -/
  | pcsLanes (iface : Nat) (lanes : List (List Nat))
  /-- An interface begins or ends to send the local-fault sequence, in a tick (R382); it ends at a block boundary of the PCS. -/
  | localFault (iface : Nat) (on : Bool) (tick : Tick)
  /-- An encapsulated packet mapped into a group's stream. -/
  | groupPacket (group channel packet : Nat) (bytes : List Byte)
  /-- The codes that the four DACs of a line port take for the frame of a tick, from the clock on at which its slot 0 leaves (R278). -/
  | dacFrame (port tick clock : Nat) (codes : List (List Byte))
  /-- The overhead of the ALF frame of a tick sent by a line port (R334, R339). -/
  | alfOverhead (port : Nat) (tick : Tick) (bytes : List Byte)
  /-- A GCC-M or GCC-U packet sent by a line port. -/
  | gccPacket (port : Nat) (isM : Bool) (bytes : List Byte)
  /-- An ESMC PDU sent by an interface (R589). -/
  | esmc (iface : Nat) (bytes : List Byte)
  /-- A pulse of `width` ns on a pulse output (R599), so many ps after the boundary of a tick. -/
  | pulse (output tick ps width : Nat)
  /-- A record handed to the host by the boot loader or a pin event that has no register: a note by number. -/
  | note (code value : Nat)
deriving DecidableEq, Repr

/-- State of a session, `SESSION_CTRL`.state (Table 9). -/
inductive SessionState where
  | closed | opened | closing | ringError
deriving DecidableEq, Repr

/-- What a session may do (R141, R142): its number, its permission level, and whether it reads the performance counters. -/
structure Rights where
  sid : Nat := 0
  perm : Nat := 0
  perfRead : Bool := false
deriving DecidableEq, Repr

/-- How far a batch has come (R145): the next result's offset, items that succeeded and failed, and the first failure. -/
structure BatchRun where
  /-- What the session might do when the batch started (R141). -/
  rights : Rights := {}
  off : Nat := 0
  good : Nat := 0
  bad : Nat := 0
  first : Option (Nat × Status) := none
  /-- The PM latch that the items read, with its tick and second (R389). -/
  latch : Nat := 0
  latchTick : Nat := 0
  latchTai : Nat := 0
deriving DecidableEq, Repr

/-- How far a taken command has come: not started, deferred with BUSY_DEFERRED posted (R138), started with neither ACCEPTED nor a
final response posted (`quiet`; `running` for a batch, with its progress and the item list it read), started with ACCEPTED posted,
or ended with a final response that waits for the end of an activation pause (R111). -/
inductive TakenPhase where
  | waiting | deferred | quiet | started
  | running (run : BatchRun) (input : List (BitVec 8))
  | ended (st : Status) (fields : List (Nat × Nat × Nat))
deriving DecidableEq, Repr

/-- The record of a taken command that has no final response yet (R152). `id` numbers commands in the order taken. -/
structure Taken where
  id : Nat
  entry : List Byte
  phase : TakenPhase
deriving DecidableEq, Repr

/-- A response or event waiting in the response hold (R131). -/
structure Held where
  isEvent : Bool
  bytes : List Byte
deriving DecidableEq, Repr

/-- One mailbox session (R127 to R134). `mem` holds the on-die command ring and data buffer by byte offset in the
57,344 bytes; `ring` the on-die response ring by slot; `lost` counts events lost since the last events_lost entry. -/
structure Session where
  state : SessionState := .closed
  enable : Bool := false
  onDie : Bool := false
  rspIrq : Bool := false
  eventIrq : Bool := false
  cfgIgnored : Bool := false
  ringErrorBit : Bool := false
  eventPosted : Bool := false
  rspPosted : Bool := false
  cmdBase : Nat := 0
  rspBase : Nat := 0
  cmdProducer : Nat := 0
  cmdConsumer : Nat := 0
  rspProducer : Nat := 0
  rspConsumer : Nat := 0
  mem : Tab Byte := []
  ring : Tab (List Byte) := []
  hold : List Held := []
  taken : List Taken := []
  lost : Nat := 0
deriving DecidableEq, Repr

/-- An event in the event log (R151): its entry (tick filled in when placed), and the sessions still to take a copy. -/
structure LogEvent where
  entry : List Byte
  receivers : List Nat
deriving DecidableEq, Repr

/-- Names a taken command whose final response is still owed: session and record number. -/
structure CmdRef where
  session : Nat
  id : Nat
deriving DecidableEq, Repr

/-- The global registers of BAR0 (R122 to R126), the event log (R149 to R151) and the service of commands. -/
structure Bar where
  tickHi : Word := 0
  snapTick : Tick := 0
  snapTickHi : Word := 0
  gateTick : Tick := 0
  gateTickHi : Word := 0
  freeze : Bool := false
  frozen : Bool := false
  snapshotPending : Bool := false
  ringSession : Nat := 0
  ringPage : Nat := 0
  spiFraming : Bool := false
  spiBusError : Bool := false
  alarms : Word := 0
  alarmMask : Word := 0
  log : List LogEvent := []
  eventSeq : Word := 1
  nextId : Nat := 0
  /-- Consecutive load updates that read 85 or less (R138). -/
  lowLoadRun : Nat := 0
  /-- The image window of R101, by byte offset. -/
  imageWindow : Tab Byte := []
deriving DecidableEq, Repr

/-- The PCIe features that configuration space holds beside the enables (Table 31 of 04): the negotiated link speed in units of
0.1 GT/s and width, and the maximum payload and read request sizes in force. -/
structure PcieCfg where
  speed : Nat := 0
  width : Nat := 0
  maxPayload : Nat := 128
  maxRead : Nat := 512
deriving DecidableEq, Repr

/-- Advanced Error Reporting, with the error bits of Device Status and the reporting enables of Device Control (Table 31 of 04). Layout
and reset values are those of the PCI Express Base Specification 3.0 (PRESUMED, log entry 174). -/
structure Aer where
  uncorStatus : Word := 0
  uncorMask : Word := 0
  uncorSeverity : Word := 0x00462030
  corStatus : Word := 0
  corMask : Word := 0x0000E000
  /-- The First Error Pointer, and the header of the request that it belongs to. -/
  firstError : Nat := 0
  headerLog : List Byte := []
  /-- Bits 0 to 3: correctable, non-fatal, fatal, Unsupported Request: seen, and enabled to be reported. -/
  deviceStatus : Word := 0
  reports : Word := 0
deriving DecidableEq, Repr

/-- The PCIe endpoint (R157, R670). `msixTab` holds the MSI-X table by word; `pba` the pending bits. -/
structure Pcie where
  linkUp : Bool := false
  bar0Ready : Bool := false
  busMaster : Bool := false
  msixEnable : Bool := false
  funcMask : Bool := false
  d3hot : Bool := false
  cfg : PcieCfg := {}
  aer : Aer := {}
  msixTab : Tab Word := []
  pba : List Nat := []
deriving DecidableEq, Repr

/-- The sluice gates (R153 to R156). A set lists the channels or groups whose gate is RELEASED; every other gate is
stopped, as reset leaves them. The request lists hold the gates whose change waits for the next boundary. -/
structure Gates where
  chC2l : List Nat := []
  chL2c : List Nat := []
  grpC2l : List Nat := []
  grpL2c : List Nat := []
  stopChC2l : List Nat := []
  stopChL2c : List Nat := []
  stopGrpC2l : List Nat := []
  stopGrpL2c : List Nat := []
  relChC2l : List Nat := []
  relChL2c : List Nat := []
  relGrpC2l : List Nat := []
  relGrpL2c : List Nat := []
  stopAll : Bool := false
  pending : Bool := false
deriving DecidableEq, Repr

end Sys2Proof.Machine
end

