-- ==== Sys2Proof/Machine/Parts/Power.lean ====
section
/-!
DEFINITION. Sys2Proof/Machine/Parts/Power.lean: the parts of the state that spec/02, spec/03 and spec/05 give the supply,
the resets, the boot, the non-volatile memory and the clocks.
-/
namespace Sys2Proof.Machine

/-- The ordering code fused into the part (R1, Table 1 of 00). -/
inductive OrderingCode where
  | ca | ea | cn
deriving DecidableEq, Repr

/-- What is fused at manufacture: the ordering code, and the four image-key digests (R83; an unlisted one is unprogrammed). -/
structure Fuse where
  code : OrderingCode := .ca
  keyDigest : Tab (List Byte) := []
deriving DecidableEq, Repr

/-- What the device is doing about power (Tables 6 and 8 of 02). `off` holds while VIN lies below the lockout. -/
inductive PowerPhase where
  | off | sequencing | railHold | waitStart | booting | active | minimal | sealedStandby
deriving DecidableEq, Repr

/-- The levels of the strap balls (R47). -/
structure Straps where
  xodly : Nat := 0
  boot : Nat := 0
  hostif : Bool := false
  test : Bool := false
deriving DecidableEq, Repr

/-- Supply, rails, resets and thermal state (02). Rails are numbered 0 to 7 in the order of Table 5. -/
structure Power where
  phase : PowerPhase := .off
  /-- VIN lies above the lockout. -/
  vinGood : Bool := false
  pwrgd : Bool := false
  /-- V18_OUT in regulation (R44). -/
  v18Out : Bool := false
  railsUp : List Nat := []
  /-- ALARM_N driven low by the sequencer after a failed rail start (R55). -/
  sequencerAlarm : Bool := false
  straps : Straps := {}
  /-- tXO in milliseconds in use, and whether it has ended. -/
  txoMs : Nat := 0
  txoDone : Bool := false
  xoGood : Bool := false
  /-- `SEAL_N` is high. -/
  sealHigh : Bool := true
  /-- Tarnish offset of each rail in steps of 5 mV (R51). -/
  railSteps : Tab Int := []
  /-- Rails with rail_fault raised, and the run of consecutive samples on the other side (R52, R666). -/
  railFault : List Nat := []
  railRun : Tab Nat := []
  vinLow : Bool := false
  vinRun : Nat := 0
  /-- Sealed standby was entered by SEAL_N (R62). -/
  sealedByBall : Bool := false
  /-- Cause bits gathered for the boot in progress (Table 14). -/
  causes : Nat := 0
  /-- Bandgap disagreement run and whether bandgap B is in use (R614). -/
  bandgapRun : Nat := 0
  bandgapB : Bool := false
  /-- Port whose reset is in progress, and the tick r of it (R65). -/
  portReset : Option Nat := none
  portResetTick : Nat := 0
  /-- Line ports whose reset has ended while firmware did not serve: their epoch and calibration are owed (R65). -/
  epochOwed : List Nat := []
  /-- The state before a loss of XO_IN and the tick of its declaration, when the pll_coast event is owed; no tick for a loss at boot
  (R668). -/
  coastOwed : Option (Nat × Option Nat) := none
  /-- The previous thermal level, the site and the tick of the entry when the event of level 3 is owed to firmware (R72, R666). -/
  thermalOwed : Option (Nat × Nat × Nat) := none
  /-- Level 3 stands, and the die was last seen at or above `throttle1_c` (R71). The heat outlasts every reset (DESIGN CHOICE, log
  entry 171). -/
  dieHot : Bool := false
deriving DecidableEq, Repr

/-- The sealed domain (R67, R86): what lives from VIN down to 3.0 V. Root keys and tamper state are in `Vault`. -/
structure Sealed where
  alive : Bool := false
  /-- VIN has risen from below 3.0 V since the last power-up. -/
  freshVin : Bool := false
  failCount : Nat := 0
  lastFailed : Option Nat := none
deriving DecidableEq, Repr

/-- Marks of a slot in the boot directory (R86, R105, R107). -/
inductive SlotMark where
  | invalid | unconfirmed | confirmed
deriving DecidableEq, Repr

/-- The contents of the boot directory (R78). -/
structure Dir where
  seq : Nat := 0
  preferred : Nat := 0
  markA : SlotMark := .confirmed
  markB : SlotMark := .confirmed
  trialA : Bool := false
  trialB : Bool := false
deriving DecidableEq, Repr

/-- One copy of the boot directory as the NOR holds it: its contents and its check word (R78). -/
structure DirCopy where
  dir : Dir
  check : Nat
deriving DecidableEq, Repr

/-- The SPI NOR (Table 1 of 03): the two directory copies (none: erased) and the image blocks by their NOR address; an unlisted
block is erased (all ones). The records of the NVM region stand in fields of their own. -/
structure Nor where
  copy0 : Option DirCopy := none
  copy1 : Option DirCopy := none
  blocks : Tab (List Byte) := []
deriving DecidableEq, Repr

/-- What serves the mailbox. -/
inductive Service where
  | nobody | rom | firmware
deriving DecidableEq, Repr


end Sys2Proof.Machine
end

