-- ==== Sys2Proof/Machine/Parts/Boot.lean ====
section
/-!
DEFINITION. Sys2Proof/Machine/Parts/Boot.lean: the parts of the state that spec/03 gives the boot, image update and
activation, and that spec/05 gives the clocks.
-/
namespace Sys2Proof.Machine

/-- A slot check in progress (R105): the slot and the command it answers. -/
structure VerifyJob where
  slot : Nat
  cmd : CmdRef
deriving DecidableEq, Repr

/-- A hitless activation in progress (Table 14): the new slot, the slot that ran before, the command, and whether the
pause of step 3 has started; `reverted` once the new firmware has failed and a later boot has to answer the command (R110). -/
structure Activation where
  slot : Nat
  previous : Nat
  cmd : CmdRef
  paused : Bool
  reverted : Bool := false
deriving DecidableEq, Repr

/-- Boot, update and recovery (03). `stage`, `reason`, `resultA`, `resultB`, `failBlock` and `failSlot` are the fields of
BOOT_STATUS and BOOT_REASON of the same names. -/
structure Boot where
  service : Service := .nobody
  stage : Nat := 0
  reason : Nat := 0
  resultA : Nat := 0
  resultB : Nat := 0
  failBlock : Nat := 0
  failSlot : Nat := 0
  /-- Strap recovery (R99). -/
  recovery : Bool := false
  running : Option Nat := none
  /-- The slot being started is the one the attempt preferred. -/
  ranPreferred : Bool := false
  /-- The start in progress is a direct reload after a miller watchdog expiry (R89). -/
  directReload : Bool := false
  bootWatchdog : Bool := false
  millerWatchdog : Bool := false
  holding : Bool := false
  download : Option (Nat × Nat) := none
  staged : Option Nat := none
  verify : List VerifyJob := []
  act : Option Activation := none
  /-- SY_BOOT_RETRY has been answered, and its warm reset follows (R116). -/
  retry : Bool := false
deriving DecidableEq, Repr

/-- What a ramping domain moves toward (R175). -/
inductive Ramp where
  | idle | starting | stopping | switching
deriving DecidableEq, Repr

/-- One clock domain: its divider ratio (0: stopped) and its ramp (R175, R176). -/
structure Domain where
  ratio : Nat := 0
  ramp : Ramp := .idle
deriving DecidableEq, Repr

/-- The clocks (05). `domains` is indexed 0 to 63. -/
structure Clocks where
  domains : Tab Domain := []
  houseLocked : Bool := false
  timingLocked : Bool := false
  datapathLocked : Bool := false
  cleanedValid : Bool := false
  /-- D01 runs from the house PLL (step 4 of Table 3), no longer from D00. -/
  d01House : Bool := false
  /-- Tick 0 has begun (R183). -/
  ticking : Bool := false
  /-- The last tick that can hold a part of the slew of a loss of `XO_IN` (R173). -/
  slewUntil : Nat := 0
  /-- What the present tick of the coasting loops adds to the time counter (R173, R594). -/
  coastUnits : Nat := 0
  /-- DRAM channels put into self-refresh (R181). -/
  selfRefresh : List Nat := []
deriving DecidableEq, Repr

end Sys2Proof.Machine
end

