-- ==== Sys2Proof/Machine/Parts/Conv.lean ====
section
/-!
DEFINITION. Sys2Proof/Machine/Parts/Conv.lean: the converters, their calibration and the capture buffers (spec/06).
-/
namespace Sys2Proof.Machine

/-- Samples of the four channels XI, XQ, YI and YQ, as ADC codes: from a reference sample on, and those before it with the latest
first. -/
structure Samples where
  codes : List (List Byte) := []
  before : List (List Byte) := []
deriving DecidableEq, Repr

/-- A transmitted frame (R277, R278): its tick and mode, its bytes, the period of error injection with the coded bits counted before it,
the generations of the pre-emphasis and pre-distortion tables, the skew settings in fs, the DAC level in 1/16 LSB, and the scale of each
channel (R290). Where the direction left service before the frame was out, the tick from whose boundary the DACs are at zero (R210). -/
structure TxFrame where
  tick : Nat
  mode : Nat
  bytes : List Byte
  period : Nat := 0
  count : Nat := 0
  emphasis : Tab Byte := []
  distortion : Tab Byte := []
  skew : List Int := []
  rms : Nat := 0
  scales : List Rat := []
  cut : Option Nat := none
deriving DecidableEq, Repr

/-- Where a rotation step stands (Table 7 of 06): shadowing a phase since the step began, waiting for the firmware solve,
or comparing against the target since a tick. `again` waits for the next boundary to begin at step 1. -/
inductive RotPhase where
  | idle | again | shadow (phase : Nat) | solve | confirm
deriving DecidableEq, Repr

/-- A rotation step of one core: the tick of its step 1, of the end of shadowing and of the start of the confirm
compare, and the site temperature at step 1 (1/16 degree C). -/
structure Rotation where
  phase : RotPhase := .idle
  start : Nat := 0
  shadowEnd : Nat := 0
  confirmStart : Nat := 0
  temp : Int := 0
deriving DecidableEq, Repr

/-- One converter core. Cores 0 to 7 are the ADC cores, 8 to 11 the DAC cores (Table 5 of 06). `holders` lists the
element that holds each phase (ADC) or each active unary group's place (DAC); empty stands for the factory order, element
k at place k. `ages` lists the elements calibrated since boot, latest last; the others are older, in number order. -/
structure Core where
  spare : Option Nat := none
  spareLost : Bool := false
  holders : List Nat := []
  ages : List Nat := []
  retired : List Nat := []
  /-- The values in use were loaded or measured (R67, R199). -/
  valid : Bool := false
  stamp : Int := 0
  rot : Rotation := {}
  lastWrite : Nat := 0
  /-- The tick of the latest spare swap (R206). -/
  swapAt : Option Nat := none
  /-- The tick at which the latest rotation step of a period began (R200). -/
  begunAt : Option Nat := none
deriving DecidableEq, Repr

/-- A foreground calibration (R207 to R209). -/
structure FgJob where
  full : Bool
  rx : Bool
  tx : Bool
  cmd : Option CmdRef
  /-- Runs at a boot, so step 2 makes the measurements of R215. -/
  atBoot : Bool
  /-- Tick m of Table 8, once the sequencer has begun. -/
  start : Option Nat := none
  /-- The steps of Table 8 that the ADC and the DAC sequence have reached (R208). -/
  rxStep : Nat := 1
  txStep : Nat := 1
  rxDone : Bool := false
  txDone : Bool := false
  coresFull : Nat := 0
  newlyRetired : Nat := 0
  longestUs : Nat := 0
deriving DecidableEq, Repr

/-- A diagnostic measurement in progress (R214). -/
structure DiagJob where
  cmd : CmdRef
  channel : Nat
  source : Nat
  samples : Nat
  tick : Nat
deriving DecidableEq, Repr

/-- How a capture unit is armed (Table 12 of 06). -/
structure CapCfg where
  point : Nat
  mask : Nat
  trigger : Nat
  decim : Nat
  length : Nat
  tick : Nat
deriving DecidableEq, Repr

/-- A capture held in a bank (R219). -/
structure CapBank where
  seq : Nat
  firstTick : Nat
  dieId : Nat
  epoch : Nat
  size : Nat
  data : List Byte
deriving DecidableEq, Repr

/-- A capture that fills a bank: bank, tick of sample 0, port epoch, configuration, swaps and gain steps so far (R219), for point 1
the offset residuals tick by tick, the latest first, and for point 2 the frames transmitted since. -/
structure CapRun where
  bank : Nat
  firstTick : Nat
  dieId : Nat
  epoch : Nat
  cfg : CapCfg
  swaps : Nat := 0
  gains : Nat := 0
  marks : List (Nat × List (List Int)) := []
  frames : List TxFrame := []
deriving DecidableEq, Repr

/-- The capture unit of a line port (R216 to R221). -/
structure Capture where
  armed : Option CapCfg := none
  /-- A trigger waits for the next boundary. -/
  triggered : Bool := false
  /-- The bank that a capture taken from the queue starts into (R218). -/
  nextBank : Option Nat := none
  running : Option CapRun := none
  queued : Bool := false
  bank0 : Option CapBank := none
  bank1 : Option CapBank := none
  seq : Word := 0
deriving DecidableEq, Repr

/-- The converters of one line port. Learned deltas, fine trims and targets stand by element (log entry 101);
an unlisted one is 0. -/
structure Conv where
  cores : Tab Core := []
  deltas : Tab Int := []
  trims : Tab Int := []
  targets : Tab Int := []
  /-- Cell-level parameters of Table 3 by core × 8 + row. -/
  params : Tab Int := []
  fg : Option FgJob := none
  /-- Directions in service (R210). -/
  rxIn : Bool := false
  txIn : Bool := false
  /-- Cores whose records firmware still owes NVM (R211). -/
  recordsOwed : List Nat := []
  /-- ADC inputs stand on the internal calibration source, DAC outputs on the internal load (step 2 of Table 8). -/
  rxInternal : Bool := false
  txInternal : Bool := false
  diags : List DiagJob := []
  /-- Channels whose input stays disconnected until test_mode returns to 0 (R214). -/
  disconnected : List Nat := []
  /-- A channel failed the boot measurement, so the port stays out of service (R215). -/
  selftestFailed : Bool := false
  /-- test_mode has been set since the failed measurement. -/
  testedSince : Bool := false
  cap : Capture := {}
deriving DecidableEq, Repr

end Sys2Proof.Machine
end

