-- ==== Sys2Proof/Machine/Parts/Millrace.lean ====
section
/-!
DEFINITION. Sys2Proof/Machine/Parts/Millrace.lean: the receive millrace (spec/07), the transmit chain and mode changes
(spec/08), and the tables that SY_COMMIT swaps.
-/
namespace Sys2Proof.Machine

/-- A table kept in two generations (R254, R287, R288). Bytes are held as their difference from the pattern of a table
that was never written, so an unlisted byte has that pattern's value. -/
structure GenTable where
  active : Tab Byte := []
  staging : Tab Byte := []
  staged : Bool := false
deriving DecidableEq, Repr

/-- A SY_COMMIT that waits for its tick (R147, R148): the tick, the tables named, the command. -/
structure Commit where
  tick : Nat
  mask : Nat
  cmd : CmdRef
deriving DecidableEq, Repr

/-- A coordinated TIA step (R236): when its write ends in units of 320 ns, whether the TIA gain is raised, and the internal steps k. -/
structure Tia where
  ends : Nat
  up : Bool
  k : Nat
deriving DecidableEq, Repr

/-- The gain law of one pair (R233, R235): stepping, the error over the last tick in 0.01 dB, how many consecutive ticks
the pair has been held at a limit, whether `gain_limit` was raised for this entry, and a TIA step in progress. -/
structure GainPair where
  stepping : Bool := false
  error : Int := 0
  limitRun : Nat := 0
  limitRaised : Bool := false
  tia : Option Tia := none
deriving DecidableEq, Repr

/-- The dispersion search (R245): the candidates left (the head is held now), whether they are the fine ones, the best
so far with its score, and the tick at which the head was set. -/
structure CdSearch where
  cands : List Int := []
  fine : Bool := false
  best : Option (Int × Nat) := none
  since : Nat := 0
deriving DecidableEq, Repr

/-- The sums behind the second values of the quality measures (R264). `count` is the number of now values taken in the
second; the signal sums run over `sigCount` of them, those with lock. -/
structure QualSum where
  count : Nat := 0
  sigCount : Nat := 0
  noise : Int := 0
  snr : Tab Nat := []
  snrMin : Tab Nat := []
  residual : Int := 0
  dgdMax : Nat := 0
  polMax : Nat := 0
  cfo : Int := 0
  last : Nat := 0
deriving DecidableEq, Repr

/-- A snapshot request (Table 13 of 07): point, sail, the boundary its reference follows. -/
structure SnapReq where
  point : Nat
  sail : Nat
  target : Nat
deriving DecidableEq, Repr

/-- A set of adaptive taps (R248): the number of its free value, and the bulk setting under which it was computed. -/
structure TapSet where
  draw : Nat
  bulk : Int
deriving DecidableEq, Repr

/-- What the receive chain applies to samples taken from a datapath clock on: the offset residuals of the ADC cores in the order of their
phases, the skew settings in fs and the bulk setting. -/
structure RxSet where
  clock : Nat
  residuals : List (List Int)
  skew : List Int
  bulk : Int
deriving DecidableEq, Repr

/-- A received frame (R229): its number, its stamp, the clock at which the ADCs took the sample that carries slot 0, the time at which
slot 0 entered the equaliser in units of 10^-20 s, its mode, its SNR, the static table generation and the carrier offset it is received
under, its samples, what applied to them, the resampler's position and ratio at every 1,024th output sample, the taps of each sail by
the block from which they stood (the latest first), the quadrant of each sail, and how many of its codewords have entered the hopper or never
will. -/
structure RxFrame where
  number : Nat
  stamp : Nat
  taken : Nat
  enter : Nat := 0
  mode : Nat
  snr : Nat := 0
  static : Tab Byte := []
  carrier : Int := 0
  samples : Samples := {}
  sets : List RxSet := []
  segs : List (Nat × Nat) := []
  taps : Tab (List (Nat × Option TapSet)) := []
  quads : List Nat := []
  entered : Nat := 0
deriving DecidableEq, Repr

/-- The snapshot unit of a port (R266 to R268): two banks, the snapshot running (request, bank, once it has started the tick of its
reference and the frame that gives it), the one queued, and the sequence number. -/
structure Snap where
  running : Option (SnapReq × Nat × Option (Nat × RxFrame)) := none
  queued : Option SnapReq := none
  bank0 : Option CapBank := none
  bank1 : Option CapBank := none
  seq : Word := 0
deriving DecidableEq, Repr

/-- The millrace of a line port. -/
structure Millrace where
  x : GainPair := {}
  y : GainPair := {}
  /-- Resampler phase accumulator, 44 fraction bits (R239). -/
  phase : Nat := 0
  /-- The tick at which the present acquisition phase began. -/
  start : Nat := 0
  /-- Phase 2 runs the fine search only (R259, R291). -/
  fineOnly : Bool := false
  search : CdSearch := {}
  /-- The coarse carrier offset that phase 4 removed, in kHz. -/
  carrier : Int := 0
  /-- Acquisition after feathering: the next start runs the fine search only (R259). -/
  fineNext : Bool := false
  /-- How often the port has been locked, so that what follows lock can tell one lock from the next. -/
  locks : Nat := 0
  /-- Consecutive timing updates settled and in lock range. -/
  settled : Nat := 0
  found : Bool := false
  trained : Nat := 0
  confirmed : Nat := 0
  /-- Consecutive frames with lol_raw in state 8. -/
  bad : Nat := 0
  /-- The tick by which lock must be regained (R261). -/
  regain : Option Nat := none
  /-- Acquisition restarts at the next boundary: none, or whether with the fine search only. -/
  reacquire : Option Bool := none
  /-- `lock_acquired` waits for the first locked frame. -/
  lockOwed : Bool := false
  /-- The settings that samples of the last frames were taken under, the latest last (R241, R244). -/
  sets : List RxSet := []
  /-- The last frames received, the latest first, and their count. -/
  rxFrames : List RxFrame := []
  frameCount : Nat := 0
  /-- The tick of the latest timing update, and how many fell in it (R240). -/
  loopTick : Nat := 0
  loopCount : Nat := 0
  /-- The resampler's position in 2^-44 input samples at its latest update, from the start of the present frame (R239). -/
  position : Nat := 0
  /-- The quadrant of each sail (R256). -/
  quads : List Nat := []
  /-- Frame starts in the present tick, and whether one of them set lol_raw. -/
  frames : Nat := 0
  frameLol : Bool := false
  /-- The tick before held no frame start. -/
  lastEmpty : Bool := false
  /-- The clock of the boundary at which state 8 was last entered (R308). -/
  lockedAt : Nat := 0
  /-- Adaptive taps in use and shadow bank, by sail (R251), and the sails whose taps are stale. -/
  taps : Tab (Option TapSet) := []
  shadow : Tab (Option TapSet) := []
  stale : List Nat := []
  /-- The running mean of the decision error power of each sail and its latest value (R251, R252). -/
  errs : Tab (Nat × Nat) := []
  /-- The boundaries of the last ticks at which a gain setting or the bulk setting changed (R234, R246). -/
  changes : List Nat := []
  /-- The residual that a retune adds, and the tick at whose boundary (R246). -/
  retune : Option (Int × Nat) := none
  qual : QualSum := {}
  snap : Snap := {}
deriving DecidableEq, Repr

/-- A mode change pending on a port (Table 6 of 08): the new mode, tick a, the command that asked for it (none: follow,
R293), whether force was set, and how many members were removed. -/
structure ModeChange where
  mode : Nat
  start : Nat
  cmd : Option CmdRef
  force : Bool
  membersLost : Nat := 0
deriving DecidableEq, Repr

/-- The far end's announcement as received (R291): mode, the last countdown, how many consecutive announcing frames,
whether it is accepted, and the number of the frame after countdown 0. -/
structure RxAnnounce where
  mode : Nat
  countdown : Nat
  run : Nat
  accepted : Bool := false
  switchFrame : Nat := 0
deriving DecidableEq, Repr

/-- The transmit side of a line port (08). -/
structure Tx where
  change : Option ModeChange := none
  announce : Option RxAnnounce := none
  /-- The frames of the present tick and of the three ticks before it, the latest first (R278). -/
  frames : List TxFrame := []
  /-- The tick of the last frame before a port reset at which a mode change goes on: it is still sent (R295). -/
  parting : Option Nat := none
  /-- Clipped samples by channel in the present second, in the last, and in the one before it (R290, R388). -/
  clips : List Nat := []
  clipLast : List Nat := []
  clipPrev : List Nat := []
deriving DecidableEq, Repr

end Sys2Proof.Machine
end

