-- ==== Sys2Proof/Machine/Parts/Fec.lean ====
section
/-!
DEFINITION. Sys2Proof/Machine/Parts/Fec.lean: the codewords, cogs and wheels of a line port's decoder (spec/09).
-/
namespace Sys2Proof.Machine

/-- Where a codeword stands (R309, R313, R314). A cog is numbered 12 × wheel + place. -/
inductive CwPlace where
  /-- In a batch-start buffer. -/
  | start (cog : Nat)
  /-- In a wheel's queue. -/
  | queue (wheel : Nat)
  /-- In a prefetch buffer; `loaded` once its load has ended. -/
  | prefetch (cog : Nat) (loaded : Bool)
  /-- In a decode buffer that still loads (low-latency mode). -/
  | loading (cog : Nat)
  /-- In decode since a clock count. -/
  | decode (cog : Nat) (since : Nat)
  /-- Stopped. -/
  | stopped
deriving DecidableEq, Repr

/-- How a codeword stopped (R307, R322). -/
inductive CwStatus where
  | clean | corrected | cap | late
deriving DecidableEq, Repr

/-- A codeword in the hopper. Clock counts are datapath clocks since the boundary of tick 0. `low` is the FEC mode in
which it entered; `frame`, `stamp`, `mode` and `enter` are those of its received frame, `index` its place in it, and `last` marks the last
codeword of its frame; `hit` that an FEC mode change has overtaken it (R324); `llrs` are its input LLRs, and `layers` how many layers were
complete when it stopped (R306). -/
structure Codeword where
  id : Nat
  entry : Nat
  low : Bool
  stamp : Nat
  index : Nat
  last : Bool
  place : CwPlace
  frame : Nat := 0
  mode : Nat := 0
  enter : Nat := 0
  llrs : List Int := []
  cog : Nat := 0
  cap : Nat
  hit : Bool := false
  status : CwStatus := .late
  iters : Nat := 0
  layers : Nat := 0
  /-- The bits that a cog in fault hands over wrong (R325). -/
  faults : List Nat := []
  /-- The clock by which its load has ended (R309). -/
  loadBy : Nat := 0
deriving DecidableEq, Repr

/-- The decoder and encoder of a line port. -/
structure Fec where
  /-- Codewords not yet released, in arrival order. -/
  cws : List Codeword := []
  nextId : Nat := 0
  /-- The wheel that is dealt to next (R313). -/
  dealNext : Nat := 0
  /-- Cogs out of service (R325, R326), and those whose retirement waits for a boundary, with its tick. -/
  retired : List Nat := []
  retiring : Tab Nat := []
  /-- Charges of each cog in the present second (R325). -/
  charges : Tab Nat := []
  /-- The tributaries carry all-ones until this boundary after an FEC mode change (R324). -/
  hitUntil : Option Nat := none
  /-- Tick of the first late release in the present second. -/
  firstLate : Option Nat := none
  /-- The effective cap of codewords that entered in standard mode, as the present batch boundary set it (R310, R324). -/
  stdCap : Nat := 12
  /-- Coded bits since the last injected error (R305). -/
  injectCount : Nat := 0
  /-- Codewords released uncorrected in the present tick and in the one before (`bei`, Table 2 of 10). -/
  beiNow : Nat := 0
  beiLast : Nat := 0
  /-- The clock since which a cog that has found no work is idle (R314). -/
  idle : Tab Nat := []
  /-- The cogs that look for work at a clock: what all of them take in it is settled together (R319). -/
  work : List Nat := []
  workAt : Nat := 0
  /-- The frame being released: its number, its codewords uncorrected, and whether an FEC mode change skips it (R322; Table 7 of 11). -/
  frameNow : Nat := 0
  frameBad : Nat := 0
  frameSkip : Bool := false
deriving DecidableEq, Repr

end Sys2Proof.Machine
end

