-- ==== Sys2Proof/Machine/Parts/Line.lean ====
section
/-!
DEFINITION. Sys2Proof/Machine/Parts/Line.lean: the line frame's receive side, the GCC channels, feathering (spec/10), the
defects (spec/11), and the groups and channels (spec/12).
-/
namespace Sys2Proof.Machine

/-- A received field under acceptance (R341): the value seen last and how often in a row. -/
structure RxRun where
  value : Nat := 0
  run : Nat := 0
deriving DecidableEq, Repr

/-- The per-slot fields under acceptance: slot_bdi, psl and gd, whether a psl and a gd have been accepted, and the runs of dAIS evidence
(R371). -/
structure SlotRx where
  bdi : RxRun := {}
  psl : RxRun := {}
  gd : RxRun := {}
  pslOk : Bool := false
  gdOk : Bool := false
  aisIn : Nat := 0
  aisOut : Nat := 0
  /-- The number of the frame that was judged last for dAIS. -/
  aisFrame : Nat := 0
  /-- The gd value on its way to acceptance, the number of the block 0 in whose frame it was first seen, how many overheads just before
  that frame were rejected, and how many just before the present one. -/
  cand : Nat := 0
  first : Nat := 0
  gap : Nat := 0
  lost : Nat := 0
deriving DecidableEq, Repr

/-- The GCC transmit side of a line port (R350): the queues of packets with their check words, and the bytes still to go of
the packet on the wire. `sendingM` is 0 for none, 1 for the head of the control queue, 2 for that of the general queue;
`sendingU` that the head of the GCC-U queue is on the wire. A packet leaves its queue when its last byte is sent. -/
structure GccTx where
  control : List (List Byte) := []
  general : List (List Byte) := []
  u : List (List Byte) := []
  wireM : List Byte := []
  wireU : List Byte := []
  sendingM : Nat := 0
  sendingU : Bool := false
deriving DecidableEq, Repr

/-- A received GCC packet in a buffer, without its CRC (R352, R364). -/
structure GccRecord where
  bytes : List Byte
  linkLocal : Bool
  tick : Nat
  /-- A packet for another node that came while firmware was away: firmware has still to forward it (R111, R349). -/
  waits : Bool := false
deriving DecidableEq, Repr

/-- Why a feathered port wakes (R359, R360). -/
inductive WakeCause where
  | wake | abort
deriving DecidableEq, Repr

/-- Feathering of a line port (R353 to R363). `start` is the tick at whose boundary the present state was entered, or that
contains the command which entered it; `written` that the records are written and the ramp has begun, or in WAKING that
calibration has been asked for; `wakeFrames` and `abortWords` what R357 still sends; `refuse` the answer being sent
(sequence, reason). `rxCode` and `rxSeq` are the accepted feather field, `rx` its run; `other` counts consecutive block 0s
whose code is neither REQUEST nor AGREE. -/
structure Feather where
  start : Nat := 0
  seq : Nat := 0
  written : Bool := false
  wakeFrames : Nat := 0
  abortWords : Nat := 0
  refuse : Option (Nat × Nat) := none
  rxCode : Nat := 0
  rxSeq : Nat := 0
  rxReason : Nat := 0
  rx : RxRun := {}
  other : Nat := 0
  /-- A local wake waits for the next boundary (REQUESTING, AGREED or STOPPING), or for the start of the wake. -/
  wake : Option WakeCause := none
  /-- Consecutive valid words of code WAKE or WAKE_ABORT, the tick of the last valid word, `beacon_lost` raised since,
  the tick of the last word sent, and the tone is on. -/
  beaconRun : Nat := 0
  beaconLast : Nat := 0
  beaconLost : Bool := false
  wordTick : Nat := 0
  tone : Bool := false
  /-- The tick of the last read of a word, which comes once per word. -/
  wordRead : Option Nat := none
  /-- The commands of op 0 and of op 1 that are owed a final response. -/
  request : Option CmdRef := none
  wakers : List CmdRef := []
  /-- Boundaries of STOPPING at which firmware served without a break: the 50 ms of R356 and Table 10. -/
  served : Nat := 0
deriving DecidableEq, Repr

/-- Runs of evidence for the defects of a port (Table 3 of 11). `window` lists frames with uncorrected codewords, by
frame number and count, of the frames judged so far (`frames`). -/
structure DefectRuns where
  losIn : Nat := 0
  losOut : Nat := 0
  lolIn : Nat := 0
  lolOut : Nat := 0
  lofIn : Nat := 0
  lofOut : Nat := 0
  lomfIn : Nat := 0
  lomfOut : Nat := 0
  frames : Nat := 0
  window : Tab Nat := []
  clean : Nat := 0
deriving DecidableEq, Repr

/-- A released codeword in the deframer (R321, R322, R335): its received frame's number, stamp, mode and start, its place in it, its
systematic bytes, the clock of its release, and its FEC mode. Of an overhead codeword: whether it was accepted, once it is parsed, and of
block 0 the frame's mfas, by acceptance or by the reference (R340). -/
structure HeldCw where
  frame : Nat
  stamp : Nat
  mode : Nat
  enter : Nat
  index : Nat
  bytes : List Byte
  release : Nat
  low : Bool := false
  ok : Option Bool := none
  mfas : Option Nat := none
deriving DecidableEq, Repr

/-- The content of a received frame as it passes the tributary sluice (R336, R379): number, stamp, mode and start of the frame, its mfas
where known, the blocks whose overhead was accepted, and its codewords so far: index, bytes, slots replaced. -/
structure Content where
  frame : Nat
  stamp : Nat
  mode : Nat
  enter : Nat
  mfas : Option Nat
  good : List Nat := []
  cws : List (Nat × List Byte × List Nat) := []
deriving DecidableEq, Repr

/-- A GCC channel's receive framing (R347): the bytes since the last flag (none: hunting for one), and the packets that have ended, each
with whether its framing held. -/
structure GccIn where
  cur : Option (List Byte) := none
  done : List (List Byte × Bool) := []
deriving DecidableEq, Repr

/-- The receive overhead, GCC, feathering and defects of a line port. -/
structure Line where
  ql : RxRun := {}
  bdi : RxRun := {}
  /-- TTI: bytes of the sequence in progress (none: not complete), the last complete sequence and its run. -/
  ttiBuf : Option (List Byte) := none
  ttiLast : List Byte := []
  ttiRun : Nat := 0
  /-- A TTI has been accepted. -/
  ttiOk : Bool := false
  slots : Tab SlotRx := []
  /-- The reference mfas, the frames elapsed since, and the lock it was taken in (R340). -/
  mfasRef : Option Nat := none
  mfasFrames : Nat := 0
  mfasLock : Nat := 0
  /-- The number of the frame whose block 0 overhead was read last. -/
  parsed : Nat := 0
  gcc : GccTx := {}
  gccMIn : GccIn := {}
  gccUIn : GccIn := {}
  gccMBuf : List GccRecord := []
  gccUBuf : List GccRecord := []
  feather : Feather := {}
  runs : DefectRuns := {}
  /-- Released codewords in the deframer, in the order of their release, and the last frames past the sluice, the latest first. -/
  held : List HeldCw := []
  contents : List Content := []
  /-- Of the last blocks: mfas, block, and the clock at which the block's first payload byte left the sluice (R406). -/
  arrivals : List (Nat × Nat × Nat) := []
  /-- In low-latency mode: frames, the latest first, with the slots that their own overhead put under replacement and took from it, which
  is for the next frame (R321). -/
  lags : List (Nat × List Nat × List Nat) := []
  /-- The receive direction is out of service: defect states are frozen (R375). -/
  frozen : Bool := true
  /-- Port defects reported at any instant of the present tick (R387). -/
  tickReported : Nat := 0
  /-- Slots with dAIS or dPLM reported at any instant of the present tick: bits 5 and 7 by slot. -/
  slotTick : Tab Nat := []
  /-- Slots that some replace source has acted on in the present tick. -/
  replacedTick : List Nat := []
  /-- At the end of the tick before: dLOS, dLOL, dLOF or dLOMF was declared, and the slots that were replaced. The frame of the present
  tick carries them back (R380). -/
  backDefect : Bool := false
  backSlots : List Nat := []
deriving DecidableEq, Repr

/-- A re-size in progress (Table 2 of 12): boundary r, the new set, its cause (Table 4 of 12), and the commands whose final
response waits for it. -/
structure Resize where
  start : Nat
  newSet : List Nat
  cause : Nat
  cmds : List CmdRef := []
deriving DecidableEq, Repr

/-- A packet in flight: its number (its descriptor), client channel, bytes from the destination address through the FCS
or as the cipher stage left them, the tick of its client ingress (or of its delivery), and whether a cipher header begins
it. -/
structure Pkt where
  id : Nat
  chan : Nat
  bytes : List Byte
  tick : Nat
  crypt : Bool := false
  /-- Direction: 0 client to line, 1 line to client. -/
  dir : Nat := 0
  /-- Class that its flow entry gives, 0 for the channel's (R475), whether it asks for encryption, and its SA. -/
  cls : Nat := 0
  encrypt : Bool := false
  sa : Nat := 0
  /-- Ingress place and time stamp in ps (R452), and the timestamp record once the packet is recognised as a PTP message. -/
  place : Nat := 0
  stamp : Nat := 0
  record : List Byte := []
deriving DecidableEq, Repr

/-- The scheduler of a group or of an Ethernet interface (R417): deficit by channel, the channels that have had their quantum in the round
in progress, and the bytes of a packet that the next ticks still carry. -/
structure Sched where
  deficit : Tab Nat := []
  round : List Nat := []
  carry : Nat := 0
deriving DecidableEq, Repr

/-- Where bytes of a group stream stand in a frame (R402): the set the frame is demapped with, and of each line port the frame's mode and
start. -/
structure StreamPlace where
  set : List Nat
  modes : List Nat
  enters : List Nat
deriving DecidableEq, Repr

/-- A stretch of a group stream within one frame: the place of its first byte in the frame's group stream, and its length. -/
structure Seg where
  start : Nat
  len : Nat
  place : StreamPlace
deriving DecidableEq, Repr

/-- Bytes of a group stream without a break, not yet delineated; `closed` by a break after them (R404). -/
structure Chunk where
  bytes : List Byte := []
  segs : List Seg := []
  closed : Bool := false
deriving DecidableEq, Repr

/-- A group (12). Members are numbered 128 × port + slot. -/
structure Group where
  /-- The boundary at which the group was created (R427). -/
  born : Nat := 0
  cfg : List Nat := []
  tx : List Nat := []
  rx : List Nat := []
  held : List Nat := []
  resize : Option Resize := none
  /-- Consecutive ticks for which each port has failed (R408). -/
  fail0 : Nat := 0
  fail1 : Nat := 0
  /-- Consecutive ticks for which a member outside the set has been fit to return (R409). -/
  fit : Tab Nat := []
  /-- Host changes that wait for the next boundary (R410): members to hold, to release, and their commands. -/
  toHold : List Nat := []
  toRelease : List Nat := []
  cmds : List CmdRef := []
  /-- The set with which the stream is demapped at present, in the order of the accepted member indices, and the changes of it that wait for
  their frame: its mfas, the set, whether the change is hitless, and the tick of the change (R402, R412). -/
  demapSet : List Nat := []
  switches : List (Nat × List Nat × Bool × Nat) := []
  /-- The next byte of every member to be demapped: the frame's mfas and the byte (R402, R407). -/
  rxPos : Option (Nat × Nat) := none
  /-- The demapped stream that waits for delineation, and the bytes passed over since the last unit. -/
  rxq : List Chunk := []
  skipped : Nat := 0
  /-- The bytes of its frame share in the present frame, and the rest of the unit begun in it (R402, R403). -/
  share : List Byte := []
  tail : List Byte := []
  /-- The differential delay measured last (R406). -/
  skewNow : Option Nat := none
  /-- Runs of dGSKEW evidence. -/
  skewIn : Nat := 0
  skewOut : Nat := 0
  /-- dGSKEW was reported, and client-to-line or line-to-client action held, at some instant of the present tick. -/
  tickReported : Bool := false
  tickL2c : Bool := false
  tickC2l : Bool := false
  /-- The mapper (R417). -/
  map : Sched := {}
  /-- Delineation: valid headers in a row while hunting, whether gained, bad headers in a row (R404). -/
  hunt : Nat := 0
  locked : Bool := false
  bad : Nat := 0
deriving DecidableEq, Repr

/-- A client channel's running state (12): credit towards the line and towards the
client in 1/1,024 byte, whether it is shed and with which cause, the cause of
the latest break of the present second, that of the breaks of the second before, ticks shed or broken in the episode,
and a break noted in the present tick (R417, R422, R424). -/
structure Channel where
  credit : Nat := 0
  creditOut : Nat := 0
  shed : Option Nat := none
  broken : Option Nat := none
  lastBroken : Option Nat := none
  episode : Nat := 0
  brokenTick : Bool := false
  /-- Line-to-client and client-to-line action held at some instant of the present tick. -/
  tickL2c : Bool := false
  tickC2l : Bool := false
deriving DecidableEq, Repr

/-- A 66-bit block of a client interface's PCS (R431): whether its synchronisation header says data, and its eight bytes. -/
structure PcsBlock where
  data : Bool
  payload : List Byte
deriving DecidableEq, Repr

/-- A flow of an interface's transmit PCS (R431): the scrambler's last 58 bits, the latest first, and the pairs of codewords sent. -/
structure PcsFlow where
  last : List Bool := []
  pairs : Nat := 0
deriving DecidableEq, Repr

/-- The client ingress fault of an interface (R384): declared, and ticks without the report in a row; and its egress. -/
structure Cif where
  declared : Bool := false
  clear : Nat := 0
  egress : Sched := {}
  /-- The interface sends the local-fault sequence (R382). -/
  lf : Bool := false
  /-- At the last boundary a lane of the interface was out of state 4 (R443). -/
  lockOut : Bool := false
  /-- The blocks that wait for the transmit PCS, and its flows: one at 400GBASE-R, two at 800GBASE-R (R431). -/
  blocks : List PcsBlock := []
  flows : List PcsFlow := []
deriving DecidableEq, Repr

end Sys2Proof.Machine
end

