-- ==== Sys2Proof/Evidence.lean ====
section
/-!
DEFINITION. Sys2Proof/Evidence.lean: the types of the operands of commands: what the outside world shows the block.
-/
namespace Sys2Proof

/-- What a batch command meets while it is served (R145): the item list that DMA read, and how many items firmware runs before it
looks for other work. -/
structure BatchIn where
  bytes : List Byte := []
  slice : Nat := 4096
deriving DecidableEq, Repr

/-- A write of one register word (R10): the word, and the bits of a W1C register that hardware sets in the clock cycle of the write. -/
structure RegWrite where
  value : Word
  sets : Word := 0
deriving DecidableEq, Repr

/-- A write frame over the SPI target (R10, R159): its bytes, and for each of its words in order the bits of a W1C register that
hardware sets in the clock cycle in which the word is written. -/
structure SpiWrite where
  bytes : List Byte
  sets : List Word := []
deriving DecidableEq, Repr

/-- What a write of configuration space leaves in the error registers (R157): the status bits that it clears in Device Status and
Advanced Error Reporting, the masks and severity, and the four reporting enables of Device Control. -/
structure PcieErrorWrite where
  clearDevice : Word := 0
  clearUncor : Word := 0
  clearCor : Word := 0
  uncorMask : Word := 0
  uncorSeverity : Word := 0x00462030
  corMask : Word := 0x0000E000
  reports : Word := 0
deriving DecidableEq, Repr

/-- A write of the PCI Express configuration space's device fields (R157): Bus Master Enable, the Max_Payload_Size and the
Max_Read_Request_Size in bytes, and the error registers. -/
structure PcieDeviceWrite where
  busMaster : Bool
  maxPayload : Nat := 128
  maxRead : Nat := 128
  errors : PcieErrorWrite := {}
deriving DecidableEq, Repr

/-- What a tamper sensor measures (Table 10 of 16). A mesh net: open, shorted, its resistance in 1/1,000 of that at manufacture. A fall of VIN:
mV, the µs that it took, the lowest mV in the µs after it. An overvoltage of VIN: mV, ns. A rail of Table 5 (02), by row: mV, ns. A
period of XO_IN, or of the datapath clock, in fs. A temperature in 1/16 degree C. Photocurrent above the factory threshold, and the µs that
it has lasted. -/
inductive TamperSign where
  | mesh (net : Fin 4) (opened shorted : Bool) (permille : Nat)
  | vinFall (mv us low after : Nat)
  | vinOver (mv ns : Nat)
  | rail (row : Fin 8) (mv ns : Nat)
  | period (datapath : Bool) (fs : Nat)
  | temperature (t : Int)
  | light (excess : Int) (us : Nat)
deriving DecidableEq, Repr

/-- What starts a warm reset (R64): WARMRST_N low for so many nanoseconds, or the attribute. -/
inductive WarmSource where
  | ball (lowNs : Nat)
  | request
deriving DecidableEq, Repr

/-- What firmware that reports ready has found: cipher cogs (8 × wheel + cog) and decoder cogs (96 × port + cog) that fail their
test (R523, R326), and DRAM channels that fail training (R461). -/
structure BootIn where
  cipher : List (Fin 96) := []
  decoder : List (Fin 192) := []
  dram : List (Fin 2) := []
deriving DecidableEq, Repr

/-- The conversions of one housekeeping round (R613): 16 of each of the 38 channels of Table 2 (18), in its order and units. -/
structure HkReadings where
  channels : List (List Int) := []
deriving DecidableEq, Repr

/-- The errors of an element against its core reference under one selection of redundant parts, with every fine trim at 0: the two
selections of Table 2 (06), the offset in 1/256 LSB, the gain in 0.01 % and the sample time in fs. -/
structure ElementError where
  first : Nat
  second : Nat
  offset : Int
  gain : Int
  time : Int
deriving DecidableEq, Repr

/-- What a rotation step measured of the spare (R201, R204): its errors under each selection that was tried. -/
structure SpareMeasure where
  errors : List ElementError
deriving DecidableEq, Repr

/-- The fine trims a solve sets, by trim number of Table 2 (06) in steps. -/
structure TrimSet where
  values : List (Nat × Int)
deriving DecidableEq, Repr

/-- What a confirm compare found of spare and target: offset in 1/256 LSB, gain in 0.01 %, sample time in fs, each as the
magnitude of the difference, and the target's errors under each selection. -/
structure ConfirmMeasure where
  offset : Nat
  gain : Nat
  time : Nat
  target : List ElementError
deriving DecidableEq, Repr

/-- What foreground calibration found in one core: the errors of its elements as they stand against the loaded values (element; offset,
gain and sample time in the units of `ElementError`), the errors of elements that the full form measured under each selection, the
learned deltas (element, trim, point, steps) and the cell-level parameters (row of Table 3, value) it set. -/
structure CoreResult where
  core : Nat
  verify : List (Nat × Int × Int × Int) := []
  measured : List (Nat × List ElementError) := []
  deltas : List (Nat × Nat × Nat × Int) := []
  params : List (Nat × Int) := []
deriving DecidableEq, Repr

/-- The result of SY_CONV_DIAG's averaging (Table 11 of 06). -/
structure DiagResult where
  mean : Int
  minCode : Int
  maxCode : Int
  value : Int
deriving DecidableEq, Repr

/-- What a received frame shows the equaliser (R229): the mode whose training block stands within ±8 output samples of
the expected place (none: no training block found), the SNR from known symbols in 0.01 dB, the quadrant by which the pilots and the
training block of each sail find its phase turned (R256), the datapath clock since the boundary of tick 0 at which the ADCs took the
sample that carries slot 0, how many ps after the present boundary slot 0 enters the equaliser, and the samples, from that one on. -/
structure FrameIn where
  mode : Option (Fin 4)
  snr : Nat
  quadrants : List (Fin 4) := []
  taken : Nat := 0
  ps : Nat := 0
  samples : Machine.Samples := {}
deriving DecidableEq, Repr

/-- What the last 1,024 ticks showed (Table 10 of 07): the power of X and of Y in each of the 5,120 bins at the sail split in 0.01 dBFS
(R263), the SNR of each sail, the accumulated dispersion of the link in ps/nm (R253), the delay difference and the polarisation rate
from the taps, and the carrier offset. `polMax` is the highest polarisation rate over any 1,024-block span. -/
structure Quality where
  bins : List (Int × Int)
  sailSnr : List Nat
  link : Int
  dgd : Nat
  polRate : Nat
  polMax : Nat
  cfo : Int
deriving DecidableEq, Repr

/-- A cog that reports that its codeword stops (R307). What it decodes to follows from the codeword's LLRs (R306). -/
structure CogStop where
  cog : Fin 96
deriving DecidableEq, Repr

/-- What a sweep measured of one lane (R441): the openings of the three eyes at each of the 37 CTLE codes, in sampler
codes, and the VGA and receive FFE it adapted to at the chosen code. -/
structure SweepResult where
  openings : List (Nat × Nat × Nat)
  vga : Fin 32
  ffe : List Int
deriving DecidableEq, Repr

/-- What an access to a DRAM burst meets (R462, R466): how often it was retried, where 4 says that it still failed after the
third retry, and the error pattern over the 80 bytes of the burst, 8 bytes from each device in order; empty for none. -/
structure Burst where
  retries : Fin 5 := 0
  err : List Byte := []
deriving DecidableEq, Repr

/-- What the share-consistency check of a cog sees in a round (R522): the cog, the two shares of its round state, and the parity that the
round's inputs give. -/
structure ShareCheck where
  wheel : Fin 12
  cog : Fin 8
  first : List Byte
  second : List Byte
  parity : Bool
deriving DecidableEq, Repr

/-- The samples of a run of the entropy source's start-up tests, and the clock at which they end (R520). -/
structure EntropyStart where
  phi : Fin 1728
  samples : List Bool := []
deriving DecidableEq, Repr

/-- What a sense conversion measured (R607, R610): the voltages of sense pin and reference pin in both phases in any one unit, and the
highest voltage in mV of either pin while a source was steered to it. -/
structure SenseIn where
  x1 : Nat
  r1 : Nat
  x2 : Nat := 0
  r2 : Nat := 0
  peakMv : Nat := 0
deriving DecidableEq, Repr

/-- What the comparator of a sense pin shows (R611): its voltage in mV, and for how many us it has stayed on that side. -/
structure SenseLevel where
  pin : Fin 12
  mv : Int
  us : Nat
deriving DecidableEq, Repr

/-- What the read-back of a protected output shows (R616 to R618): the level driven, and how many comparisons in a row mismatched; for a
clock pair the swing in 1/1,000 of the nominal one and for how many ns it has lasted; another output that declares a fault, with its
driven level, and how many ns lie between the two. -/
structure PinLook where
  driven : Bool
  mismatches : Nat := 0
  swing : Nat := 1000
  ns : Nat := 0
  other : Option (Fin 15 × Bool × Nat) := none
deriving DecidableEq, Repr

/-- What the monitor of a candidate shows (R572): the candidate, the longest time without a rising edge in ps, and its frequency against
`XO_IN` in ppb over windows of 10 ms that follow each other, oldest first. -/
structure RefLook where
  ref : Fin 14
  idlePs : Nat := 0
  windows : List Int := []
deriving DecidableEq, Repr

/-- What a second shows at its 1PPS edge: the 48 tarnish monitors' readings as margins in 0.01 % (R628); none for a monitor whose
circuit is not powered. -/
structure PpsIn where
  margins : List (Option Int) := []
deriving DecidableEq, Repr

/-- What a tick that ends has shown, and what the loops measured in it: for each line port the power of pairs X and Y over the tick
in 0.01 dBFS (R233); interfaces that reported a client ingress fault, with whether for the whole tick (R384); for interfaces, the
number of wrong symbols in each RS-FEC codeword that came with errors (R431, R456); what the
accesses of the tick that begins meet in DRAM, by device address (R462, R466); the conditions of tamper sensors that last into it (R561); what the clean-up loop sets y to, in ppt (R582); phase in ps and frequency in ppb of
candidates (R572); while the loops coast, how long the tick that begins will last and how far `D50` will count in it, in units of 10^-20 s (R173, R594); blocks that a
fill has filled (R468); for performance counters
whose queue crossed the threshold within the tick, the clocks in which it exceeded it (R639); and, if the tick holds a 1PPS edge, what the second showed. -/
structure TickIn where
  powers : List (Int × Int) := []
  faults : List (Nat × Bool) := []
  pcs : List (Nat × List Nat) := []
  loopY : Int := 0
  refs : List (Nat × Int × Int) := []
  coast : Nat := 0
  count : Nat := 0
  filled : Nat := 0
  link : List (Nat × Burst) := []
  tamper : List TamperSign := []
  perf : List (Nat × Nat) := []
  pps : PpsIn := {}
deriving DecidableEq, Repr

end Sys2Proof
end

