-- ==== Sys2Proof/Syntax.lean ====
section
/-!
DEFINITION. Sys2Proof/Syntax.lean: the commands of the block, one constructor for each row of spec/opcode_table.json.
The operands of a command say what of the outside world it carries: the written word, the received bytes, the readings.
A command served by firmware names the taken command it serves (`c`) and, where it reads host memory, the bytes that
DMA read (`dma`).
-/
namespace Sys2Proof

open Sys2Proof.Machine in
/-- The commands of the block. -/
inductive Instr where
  /-- POWER_UP (R53): VIN rises through the rising lockout threshold and the regulator sequencer brings up the rails, samples the straps and starts tXO. -/
  | powerUp (straps : Straps) (railsOk : Bool)
  /-- RAIL_START_FAILURE (R55): A rail has not reached regulation by its step's time, so the sequencer turns off every rail except VDD_AON, keeps PWRGD low, drives ALARM_N low and counts the failure. -/
  | railStartFailure
  /-- SEQUENCER_RETRY (R55): The 100 ms hold after a failed rail start ends and the sequencer runs Table 6 again from step 1. -/
  | sequencerRetry (straps : Straps) (railsOk : Bool)
  /-- TXO_EXPIRY (R167): The oscillator start-up delay tXO ends and XO_IN is judged good or not good. -/
  | txoExpiry (good : Bool)
  /-- ROM_START (R86): Once step 9, the end of tXO and PORST_N high have all been reached, D00 starts and the ROM runs its boot flow: recovery, the failure limit, the directory read and the check of each slot. -/
  | romStart (norOk : Bool)
  /-- FIRMWARE_READY (R86): Started firmware reports ready: fail_count clears, outstanding recorded commands complete as FAILED_IN_FLIGHT under R152, and foreground calibration starts. -/
  | firmwareReady (k : BootIn)
  /-- FIRMWARE_SELF_CHECK_FAIL (R87): Started firmware fails its self-check, which ends the boot attempt with result 0x09. -/
  | firmwareSelfCheckFail
  /-- BOOT_WATCHDOG_EXPIRY (R86): The 1 s boot watchdog expires before firmware reports ready; the ROM records 0x08, raises fail_count and starts the 100 ms hold. -/
  | bootWatchdogExpiry
  /-- HOLD_BETWEEN_ATTEMPTS_END (R86): The 100 ms hold between boot attempts ends and the ROM runs rom_start again. -/
  | holdBetweenAttemptsEnd (norOk : Bool)
  /-- MILLER_WATCHDOG_EXPIRY (R89): The miller watchdog expires while firmware runs; this firmware reset makes the ROM reload the running slot, or run R86 if that slot is unconfirmed. -/
  | millerWatchdogExpiry (norOk : Bool)
  /-- COLD_RESET (R54): PORST_N is held low for 10 µs or more and rises, which reruns power-up from step 4 with t0 at the rising edge. -/
  | coldReset (lowNs : Nat) (straps : Straps) (railsOk : Bool)
  /-- WARM_RESET (R64): WARMRST_N held low, or a reset request of warm, starts a warm reset: the gates hold, commands are aborted, DRAM enters self-refresh and the reset takes effect at t2 + 50 µs. -/
  | warmReset (src : WarmSource)
  /-- PORT_RESET (R65): A port reset request takes effect at the next tick boundary and resets the datapath of one line port in hardware during tick r. -/
  | portReset (port : Fin 2)
  /-- PORT_RESET_END (R65): The port reset ends at boundary r + 1; within 1 ms, firmware writes the advanced epoch and starts foreground calibration. -/
  | portResetEnd (port : Fin 2)
  /-- PCIE_RESET (R66): PERST_N low, a hot reset or a link-down resets PCIe configuration space and the link, and leaves BAR0, the sessions and the gates unchanged. -/
  | pcieReset
  /-- PCIE_LINK_UP (R130): The PCIe link comes up, so kept doorbells are served, held host-memory responses are posted and pending MSI-X messages are sent. -/
  | pcieLinkUp
  /-- POWER_DOWN (R56): VIN falls through the falling lockout threshold: PWRGD goes low, the sluices force all-ones, NVM writes finish or are abandoned, and the rails turn off. -/
  | powerDown
  /-- SEALED_DOMAIN_POWER_LOSS (R56): VIN falls below 3.0 V and the sealed domain loses the root keys, the tamper policy and the alarm latch. -/
  | sealedDomainPowerLoss
  /-- SEALED_STANDBY_ENTRY (R60): A qualified falling edge of SEAL_N, or a write of seal_request, starts the entry of Table 9: commands are aborted, keys are zeroised and the rails turn off. -/
  | sealedStandbyEntry (byBall : Bool)
  /-- SEALED_WAKE (R62): A rising edge of SEAL_N, or a qualifying PORST_N pulse, wakes the device from sealed standby and runs power-up from step 1. -/
  | sealedWake (byPorst : Bool) (straps : Straps) (railsOk : Bool)
  /-- THERMAL_LEVEL3_TRIP (R71): A hardware comparator at a die site crosses the level 3 threshold and the device enters minimal state within 10 µs. -/
  | thermalLevel3Trip (site : Fin 24)
  /-- HOUSEKEEPING_ROUND (R613): One round of the 38 housekeeping channels completes, updating readings and judging the rail, VIN, reference and thermal conditions. -/
  | housekeepingRound (r : HkReadings)
  /-- SY_IMAGE_BEGIN (R102): Marks a slot invalid and opens a download on it. -/
  | syImageBegin (c : CmdRef)
  /-- SY_IMAGE_WRITE (R103): Copies the image window and writes it to the open slot if the CRCs match. -/
  | syImageWrite (c : CmdRef)
  /-- SY_IMAGE_VERIFY (R105): Starts the check of a slot by R84 and posts ACCEPTED. -/
  | syImageVerify (c : CmdRef)
  /-- IMAGE_VERIFY_DONE (R105): The slot check ends, the final result is posted and a passing slot is marked valid and unconfirmed. -/
  | imageVerifyDone (norOk : Bool)
  /-- SY_IMAGE_ACTIVATE_PREFERRED (R107): SY_IMAGE_ACTIVATE mode 1 marks a valid slot preferred for the next cold or warm boot. -/
  | syImageActivatePreferred (c : CmdRef)
  /-- SY_IMAGE_ACTIVATE_HITLESS (R108): SY_IMAGE_ACTIVATE mode 0 checks its preconditions and re-checks the staged copy for a hitless activation. -/
  | syImageActivateHitless (c : CmdRef)
  /-- ACTIVATION_PAUSE_START (R109): The re-check passes, ACCEPTED is posted, the pause starts, in-flight commands get FAILED_IN_FLIGHT and the new slot becomes preferred. -/
  | activationPauseStart
  /-- ACTIVATION_READY (R109): The new firmware reports ready, the final OK with the pause length is posted and ring service resumes. -/
  | activationReady (pauseUs : Nat)
  /-- ACTIVATION_REVERT (R110): The new firmware is not ready by tp + 400 ms or fails its self-check, so the previous slot is reloaded and E_INTERNAL 0x0001 is posted. -/
  | activationRevert (norOk : Bool)
  /-- SY_IMAGE_CONFIRM (R114): Marks the running slot confirmed and raises the anti-rollback counter to its security_version. -/
  | syImageConfirm (c : CmdRef)
  /-- SY_BOOT_RETRY (R116): Clears fail_count and last_failed_slot and starts a warm reset. -/
  | syBootRetry (c : CmdRef)
  /-- BAR0_PARTIAL_ACCESS (R122): A PCIe request to BAR0 that covers part of a word, or has a byte enable clear, is not served and gets an Unsupported Request. -/
  | bar0PartialAccess (offset : Nat) (isWrite : Bool)
  /-- REGISTER_WRITE (R9): A write to a BAR0 register without a row of its own acts by its field access types, such as the W1C bits of ALARM_SUMMARY, SPI_STATUS and SESSION_STATUS. -/
  | registerWrite (offset : Nat) (value : RegWrite)
  /-- TICK_LO_READ (R124): A read of TICK_LO latches the upper half of the tick count into TICK_HI. -/
  | tickLoRead
  /-- SNAP_TICK_LO_READ (R124): A read of SNAP_TICK_LO latches SNAP_TICK_HI. -/
  | snapTickLoRead
  /-- GATE_TICK_LO_READ (R124): A read of GATE_TICK_LO latches GATE_TICK_HI. -/
  | gateTickLoRead
  /-- PERF_FREEZE_WRITE (R125): A write of PERF_CTRL.freeze requests that counter reads freeze, or return to live values, at the next tick boundary. -/
  | perfFreezeWrite (value : Word)
  /-- PERF_SNAPSHOT_WRITE (R125): A write of 1 to PERF_CTRL.snapshot requests a snapshot of all 256 counters at the next boundary, joining a snapshot already pending. -/
  | perfSnapshotWrite (value : Word)
  /-- PERF_CTRL_BOUNDARY (R125): At the tick boundary after the write, a requested freeze, unfreeze or snapshot takes effect and SNAP_TICK is recorded. -/
  | perfCtrlBoundary
  /-- ALARM_MASK_WRITE (R126): A write of ALARM_MASK updates the ALARM_N drive and sends MSI-X vector 8 for each unmasked bit that is already set. -/
  | alarmMaskWrite (value : Word)
  /-- SESSION_CONFIG_WRITE (R128): A write of ring_mode, the ring bases or an interrupt enable takes effect only while its conditions allow, and otherwise sets cfg_ignored. -/
  | sessionConfigWrite (session : Fin 8) (reg : Nat) (value : Word)
  /-- SESSION_OPEN (R133): A write of enable = 1 opens a closed session with all indices at 0. -/
  | sessionOpen (session : Fin 8) (value : Word)
  /-- SESSION_RESET (R134): A write of reset_session sets state 0b10: taking stops and commands not yet started are aborted. -/
  | sessionReset (session : Fin 8) (value : Word)
  /-- SESSION_CLOSE_END (R134): Once every owed response and event has been posted, the close ends: indices reset, enable clears and state reads 0b00. -/
  | sessionCloseEnd (session : Fin 8)
  /-- DOORBELL (R130): A write of cmd_producer posts commands, or causes a ring error if it moves the index illegally. -/
  | doorbell (session : Fin 8) (value : Word)
  /-- RSP_CONSUMER_WRITE (R131): A write of rsp_consumer frees ring entries, so held responses and events are posted in order. -/
  | rspConsumerWrite (session : Fin 8) (value : Word)
  /-- COMMAND_TAKE (R130): Firmware takes a posted entry, copies it, advances cmd_consumer and queues it for service. -/
  | commandTake (session : Fin 8) (dma : Option (List Byte))
  /-- FW_LOAD_UPDATE (R138): Every 1 ms firmware load is recomputed, fw_load_high is set when it rises above 85, and deferred bulk commands are released after 10 low updates. -/
  | fwLoadUpdate (pct : Fin 101)
  /-- EVENT_LOG_DELIVERY (R151): When ring and hold space frees, logged events and events_lost entries are placed into the receiving sessions. -/
  | eventLogDelivery
  /-- SY_NOP (R143): Completes OK with no effect. -/
  | syNop (c : CmdRef)
  /-- SY_ATTR_READ (R144): Returns the value of one attribute by path. -/
  | syAttrRead (c : CmdRef)
  /-- SY_ATTR_WRITE (R144): Writes one attribute by path, subject to permission, range and state. -/
  | syAttrWrite (c : CmdRef)
  /-- SY_ATTR_BATCH (R145): Checks an item list and runs its read and write items in index order, writing a result for each. -/
  | syAttrBatch (c : CmdRef) (dma : BatchIn)
  /-- SY_COMMIT (R148): Checks and accepts a commit of staged table generations at a named tick boundary. -/
  | syCommit (c : CmdRef)
  /-- GENERATION_SWAP (R36): At the named boundary the committed tables swap generation, staging is reloaded, the flow settle starts and the final OK is posted. -/
  | generationSwap
  /-- PENDING_WRITE_EFFECT (R18): A written attribute with the effect term next tick or next second takes effect at that boundary or 1PPS edge. -/
  | pendingWriteEffect
  /-- GATE_STOP_WRITE (R153): A write of 1 bits to a STOP array requests that those channel or group gates stop, and sets pending. -/
  | gateStopWrite (offset : Nat) (value : Word)
  /-- GATE_RELEASE_WRITE (R153): A write of 1 bits to a RELEASE array requests that those gates release, and sets pending. -/
  | gateReleaseWrite (offset : Nat) (value : Word)
  /-- GATE_STOP_ALL (R153): A write of GATE_GLOBAL.stop_all requests that every channel and group gate stop in both directions. -/
  | gateStopAll (value : Word)
  /-- GATE_CHANGE_BOUNDARY (R154): At the tick boundary after acceptance, the gate state changes, GATE_TICK is recorded and pending clears. -/
  | gateChangeBoundary
  /-- SPI_WRITE_FRAME (R159): An SPI write frame writes whole BAR0 words from its aligned address upward, discarding a partial word or a bad address with framing_error. -/
  | spiWriteFrame (frame : SpiWrite)
  /-- SPI_READ_FRAME (R159): An SPI read frame returns whole BAR0 words, giving 0xFFFF_FFFF and bus_error for gated blocks. -/
  | spiReadFrame (address bytes : Nat)
  /-- TICK_BOUNDARY (R182): The tick counter returns to 0 after 1,728 datapath clocks; the tick count increments and per-tick work is judged and applied. -/
  | tickBoundary (k : TickIn)
  /-- PPS_EDGE (R184): At each 1PPS edge the alignment error is measured, the trim is set, pps_tick is latched and per-second work runs. -/
  | ppsEdge (k : PpsIn)
  /-- PM_LATCH (R386): At the boundary of pps_tick every PM accumulator is copied to a bank and zeroed, and the per-second events are raised. -/
  | pmLatch
  /-- XO_IN_LOSS (R171): The loss detector declares loss of XO_IN: pll_coast is set, the sluices are forced, the loops coast and the device enters minimal state. -/
  | xoInLoss
  /-- DIVIDER_RAMP_STEP (R175): Every 10 µs a ramping domain moves its divider one step toward a start, stop or source switch. -/
  | dividerRampStep (domain : Fin 64)
  /-- TRIM_INTERPOLATION (R195): Every 10 ms the interpolator recomputes each element's trim targets from its site temperature. -/
  | trimInterpolation (port : Fin 2)
  /-- CELL_RECORD_WRITE (R198): Firmware writes a core's cell record when a learned value has moved more than one step and 6 h have passed since the last write. -/
  | cellRecordWrite (port : Fin 2) (core : Fin 12)
  /-- ROTATION_STEP_START (R201): Every bg_period_ms an ADC or DAC core begins a rotation step, with the spare shadowing phase 0. -/
  | rotationStepStart (port : Fin 2) (core : Fin 12)
  /-- SHADOW_PHASE_MOVE (R201): Every 4,096 ticks the spare moves to shadow the next phase. -/
  | shadowPhaseMove (port : Fin 2) (core : Fin 8)
  /-- SHADOWING_END (R201): Shadowing ends and the spare's errors against the core reference are known for the firmware solve, or a failing spare is retired. -/
  | shadowingEnd (port : Fin 2) (core : Fin 12) (m : SpareMeasure)
  /-- SPARE_TRIM_SOLVED (R201): Firmware sets the spare's selections and trims and starts the confirm compare against the target slice. -/
  | spareTrimSolved (port : Fin 2) (core : Fin 12) (t : TrimSet)
  /-- ROTATION_SOLVE_TIMEOUT (R206): Step 4 is delayed by more than 10 ms, so the rotation step begins again at step 1. -/
  | rotationSolveTimeout (port : Fin 2) (core : Fin 12)
  /-- CONFIRM_COMPARE_END (R203): The confirm compare ends and the swap is made, rejected or forced. -/
  | confirmCompareEnd (port : Fin 2) (core : Fin 12) (m : ConfirmMeasure)
  /-- FOREGROUND_CAL_START (R208): At the first boundary after firmware starts the sequencer, the selected directions leave service and foreground calibration runs. -/
  | foregroundCalStart (port : Fin 2) (badChannels : List (Fin 4))
  /-- FOREGROUND_CAL_END (R209): A direction's calibration sequence ends, it switches back to service, values are confirmed and the records are written. -/
  | foregroundCalEnd (port : Fin 2) (transmit : Bool) (results : List CoreResult)
  /-- SY_CONV_CALIBRATE (R212): Starts full or verify foreground calibration of selected directions on a port. -/
  | syConvCalibrate (c : CmdRef)
  /-- SY_CONV_DIAG (R214): Connects one ADC channel to an internal source in test mode and starts averaging. -/
  | syConvDiag (c : CmdRef)
  /-- CONV_DIAG_DONE (R214): The diagnostic averaging ends and the final response with the mean and value is posted. -/
  | convDiagDone (port : Fin 2) (r : DiagResult)
  /-- SY_CAPTURE_ARM (R220): Arms a port's capture unit with point, channels, trigger, decimation and length. -/
  | syCaptureArm (c : CmdRef)
  /-- SY_CAPTURE_TRIGGER (R221): Triggers a capture by host command, which starts, is queued or overruns. -/
  | syCaptureTrigger (c : CmdRef)
  /-- SY_CAPTURE_READ (R221): Reads captured bytes from a bank and may release the bank. -/
  | syCaptureRead (c : CmdRef)
  /-- SY_CAPTURE_DISARM (R220): Disarms the capture unit and drops any queued trigger. -/
  | syCaptureDisarm (c : CmdRef)
  /-- CAPTURE_START (R217): A triggered or queued capture starts filling a bank at a tick boundary. -/
  | captureStart (port : Fin 2)
  /-- CAPTURE_DONE (R219): A capture ends, raises capture_done and starts any queued capture. -/
  | captureDone (port : Fin 2) (codes : List (List Byte))
  /-- TIA_STEP_START (R236): A pair's gain has been at its limit for 64 ticks, so the coordinated TIA write starts and gain stepping is suspended. -/
  | tiaStepStart (port : Fin 2) (yPair : Bool)
  /-- TIA_STEP_SETTLE (R236): After tia_settle_us the pair's setting moves by k in one change and stepping resumes. -/
  | tiaStepSettle (port : Fin 2) (yPair : Bool)
  /-- TIMING_LOOP_UPDATE (R240): Every 1,024 output samples the resampler timing loop updates the ratio word and the phase. -/
  | timingLoopUpdate (port : Fin 2) (ratio : Fin (2 ^ 48)) (phase : Fin (2 ^ 44)) (settled : Bool)
  /-- CD_CANDIDATE_STEP (R245): After 4 ticks on a dispersion candidate the filter moves to the next coarse or fine candidate, or the best fine candidate is chosen. -/
  | cdCandidateStep (port : Fin 2) (score : Nat)
  /-- CD_RETUNE (R246): At the boundary after a 1PPS whose residual dispersion exceeded cd_retune_ps_nm, the bulk setting changes and cd_retuned is raised. -/
  | cdRetune (port : Fin 2)
  /-- RECEIVED_FRAME (R229): A received frame starts in the equaliser, is stamped with the local tick, and its training, lol_raw and mode detection are judged. -/
  | receivedFrame (port : Fin 2) (f : FrameIn)
  /-- EQ_BLOCK_UPDATE (R251): At a block start the equaliser swaps in the tap update from two blocks before, or holds the taps. -/
  | eqBlockUpdate (port : Fin 2) (sail : Fin 16) (block : Fin 337) (error solve : Nat)
  /-- ACQUISITION_START (R259): At the first boundary with converters in service, the port not feathered and los_raw clear, acquisition starts at phase 1. -/
  | acquisitionStart (port : Fin 2)
  /-- ACQ_PHASE_COMPLETE (R258): An acquisition phase meets its end condition and the next phase begins, with lock declared at the end of phase 7. -/
  | acqPhaseComplete (port : Fin 2) (offsetKhz : Int)
  /-- ACQ_PHASE_TIMEOUT (R259): A phase exceeds its bound in ticks and acquisition restarts at phase 1. -/
  | acqPhaseTimeout (port : Fin 2)
  /-- REACQUIRE_TIMEOUT (R261): Lock is not regained within 64 ticks of the return to phase 5, so acquisition restarts at phase 1. -/
  | reacquireTimeout (port : Fin 2)
  /-- QUALITY_MEASURE_UPDATE (R264): Every 1,024 ticks the now values of the millrace quality measures are recomputed. -/
  | qualityMeasureUpdate (port : Fin 2) (q : Quality)
  /-- SY_MR_REACQUIRE (R270): Restarts acquisition at phase 1 from the next boundary, optionally setting cd_mode. -/
  | syMrReacquire (c : CmdRef)
  /-- SY_MR_TABLE (R271): Writes the staging static response table, or reads the staging or active table. -/
  | syMrTable (c : CmdRef) (dma : List Byte)
  /-- SY_MR_SNAPSHOT (R272): Requests a millrace snapshot, which starts, is queued or overruns. -/
  | syMrSnapshot (c : CmdRef)
  /-- SY_MR_SNAPSHOT_READ (R272): Reads bytes of a snapshot bank. -/
  | syMrSnapshotRead (c : CmdRef)
  /-- SNAPSHOT_START (R267): A snapshot starts at its reference frame or sample. -/
  | snapshotStart (port : Fin 2)
  /-- SNAPSHOT_DONE (R268): A snapshot fills its bank, raises snapshot_done and starts any queued snapshot. -/
  | snapshotDone (port : Fin 2) (samples : Machine.Samples)
  /-- SY_LINE_MODE (R291): Checks a line mode change and starts its 256-frame announcement. -/
  | syLineMode (c : CmdRef)
  /-- SY_LINE_MODE_CANCEL (R294): SY_LINE_MODE with cancel set withdraws a pending mode change before countdown 0. -/
  | syLineModeCancel (c : CmdRef)
  /-- MODE_SWITCH (R291): At boundary a + 256 the port switches to the new mode, raises mode_changed and posts the final OK. -/
  | modeSwitch (port : Fin 2)
  /-- SY_TX_TABLE (R296): Writes or reads the pre-emphasis or pre-distortion table. -/
  | syTxTable (c : CmdRef) (dma : List Byte)
  /-- CODEWORD_ENTRY (R308): A codeword's last LLR leaves the demapper and the dealer places it in a wheel queue or a batch-start buffer. -/
  | codewordEntry (port : Fin 2) (phi : Fin 1728) (stamp index : Nat)
  /-- COG_CODEWORD_STOP (R307): A cog's codeword reaches syndrome zero or its cap, and the cog takes or steals its next codeword. -/
  | cogCodewordStop (port : Fin 2) (phi : Fin 1728) (stops : List CogStop)
  /-- CODEWORD_DEADLINE (R315): At its deadline every codeword that has not stopped is released with its hard decisions and marked uncorrected. -/
  | codewordDeadline (port : Fin 2) (phi : Fin 1728)
  /-- CODEWORD_RELEASE (R311): A codeword reaches its fixed release instant, passes the syndrome checker and goes to the deframer with its status. -/
  | codewordRelease (port : Fin 2) (phi : Fin 1728) (faults : List Nat)
  /-- COG_RETIREMENT (R325): A cog charged 3 times in one second is retired at the next batch or tick boundary. -/
  | cogRetirement (port : Fin 2)
  /-- FEC_MODE_CHANGE (R324): A written FEC mode takes effect at boundary b and the receive tributaries carry all-ones. -/
  | fecModeChange (port : Fin 2)
  /-- FEC_MODE_HIT_END (R324): At boundary b + 4 the all-ones of an FEC mode change ends. -/
  | fecModeHitEnd (port : Fin 2)
  /-- OVERHEAD_PARSE (R339): The parser accepts or rejects a released overhead codeword and judges its fields for acceptance. -/
  | overheadParse (port : Fin 2) (block : Fin 4) (phi : Fin 1728) (stamp : Nat)
  /-- GCC_M_PACKET_RECEIVED (R349): A whole GCC-M packet is received and discarded, taken as the device's own, buffered or forwarded. -/
  | gccMPacketReceived (port : Fin 2) (packet : List Byte) (whole : Bool)
  /-- GCC_U_PACKET_RECEIVED (R352): A whole GCC-U packet is checked for framing and CRC and buffered. -/
  | gccUPacketReceived (port : Fin 2) (packet : List Byte) (whole : Bool)
  /-- SY_GCC_SEND (R364): Queues a host packet on GCC-M or GCC-U. -/
  | syGccSend (c : CmdRef) (dma : List Byte)
  /-- SY_GCC_RECEIVE (R364): Returns whole received packets, oldest first. -/
  | syGccReceive (c : CmdRef)
  /-- SY_GCC_GATE (R365): Builds a remote gate packet and places it in the control queue, preempting general traffic. -/
  | syGccGate (c : CmdRef)
  /-- SY_FEATHER_REQUEST (R354): SY_FEATHER op 0 moves an eligible ACTIVE port to REQUESTING. -/
  | syFeatherRequest (c : CmdRef)
  /-- SY_FEATHER_WAKE (R363): SY_FEATHER op 1 wakes, aborts or withdraws according to the feather state. -/
  | syFeatherWake (c : CmdRef)
  /-- FEATHER_TIMEOUT (R355): A requester with no answer after feather.timeout_ms withdraws. -/
  | featherTimeout (port : Fin 2)
  /-- FEATHER_COUNTDOWN_END (R356): At the boundary after countdown 0 the port enters STOPPING and writes its calibration records. -/
  | featherCountdownEnd (port : Fin 2)
  /-- FEATHER_RECORDS_WRITTEN (R356): The records are written, so the port writes the feather power setting and stops its domains, entering FEATHERED when the ramp ends. -/
  | featherRecordsWritten (port : Fin 2)
  /-- BEACON_WORD_TX (R358): At a boundary that is a multiple of 32 ticks, a beacon word is written to the optical engine. -/
  | beaconWordTx (port : Fin 2)
  /-- BEACON_WORD_RX (R359): A beacon word is read and checked, and two valid WAKE or WAKE_ABORT words start a wake. -/
  | beaconWordRx (port : Fin 2) (word : Word)
  /-- BEACON_LOST (R359): No valid beacon word arrives in 128 ticks, so beacon_ok clears. -/
  | beaconLost (port : Fin 2)
  /-- WAKE_START (R360): A feathered port enters WAKING, powers the engine and starts its domains and the verify calibration. -/
  | wakeStart (port : Fin 2)
  /-- SY_PM_READ (R389): Reads PM counters from one named latch bank. -/
  | syPmRead (c : CmdRef) (dma : BatchIn)
  /-- MEMBER_REMOVAL (R408): A member's port has failed for shrink_hold_ticks, so the member leaves the transmit active set in a re-size. -/
  | memberRemoval (group : Fin 512)
  /-- MEMBER_RETURN (R409): A member's port has been healthy for restore_ticks, so the member returns to the transmit active set in a re-size. -/
  | memberReturn (group : Fin 512)
  /-- RESIZE_SWITCH (R411): At boundary r + 3 frames are mapped with the new set, and shedding and restoration are decided. -/
  | resizeSwitch (group : Fin 512)
  /-- ENCAPSULATION_UNIT_RX (R404): An encapsulation unit is delineated in a group stream and its packet is delivered to its channel or discarded. -/
  | encapsulationUnitRx (group : Fin 512) (skip : Nat) (header packet : List Byte) (q : Nat) (phi : Fin 1728)
  /-- SY_GROUP_CREATE (R427): SY_GROUP_CONFIG op 0 creates a group with its member list at the next boundary. -/
  | syGroupCreate (c : CmdRef) (dma : List Byte)
  /-- SY_GROUP_DELETE (R427): SY_GROUP_CONFIG op 1 deletes a group with no mapped channel. -/
  | syGroupDelete (c : CmdRef) (dma : List Byte)
  /-- SY_GROUP_ADD_MEMBERS (R427): SY_GROUP_CONFIG op 2 appends held members to the configured list. -/
  | syGroupAddMembers (c : CmdRef) (dma : List Byte)
  /-- SY_GROUP_HOLD (R410): SY_GROUP_CONFIG op 3 holds members out of the transmit active set by a re-size. -/
  | syGroupHold (c : CmdRef) (dma : List Byte)
  /-- SY_GROUP_RELEASE (R410): SY_GROUP_CONFIG op 4 releases held members so they can rejoin by a re-size. -/
  | syGroupRelease (c : CmdRef) (dma : List Byte)
  /-- SY_GROUP_REMOVE (R427): SY_GROUP_CONFIG op 5 removes members that are in neither active set. -/
  | syGroupRemove (c : CmdRef) (dma : List Byte)
  /-- LANE_SWEEP_DONE (R441): A CTLE sweep ends with the chosen code, which is written back to the table if requested. -/
  | laneSweepDone (lane : Fin 64) (results : List SweepResult)
  /-- LANE_LOCKED (R446): Clock recovery and PCS lock are reached and the lane enters state 4. -/
  | laneLocked (lane : Fin 64)
  /-- LANE_LOCK_LOST (R443): Clock recovery has lost lock for 64 ticks, so the lane enters state 5 and relocks. -/
  | laneLockLost (lane : Fin 64)
  /-- RELOCK_ATTEMPT_TIMEOUT (R443): A relock attempt exceeds 5 ms; after 3 failures the lane sweeps or waits to retry. -/
  | relockAttemptTimeout (lane : Fin 64)
  /-- RELOCK_RETRY (R443): Every 100 ms a lane in state 5 without auto_sweep repeats its relock attempts. -/
  | relockRetry (lane : Fin 64)
  /-- LANE_DORMANT_ENTRY (R444): At the next boundary after dormant = 1, the lanes enter state 1 and turn their loops off. -/
  | laneDormantEntry (lane : Fin 64)
  /-- LANE_DORMANT_EXIT (R446): At the next boundary after dormant = 0, the lanes enter state 2, the generation advances and start-up begins. -/
  | laneDormantExit (lane : Fin 64)
  /-- SY_LANE_SWEEP (R455): Sweeps every lane of an interface, optionally writing back the result. -/
  | syLaneSweep (c : CmdRef)
  /-- SY_LANE_TABLE_WRITE (R439): SY_LANE_TABLE op 0 checks and writes board lane table entries to NVM. -/
  | syLaneTableWrite (c : CmdRef) (dma : List Byte)
  /-- SY_LANE_TABLE_READ (R455): SY_LANE_TABLE op 1 reads board lane table entries. -/
  | syLaneTableRead (c : CmdRef)
  /-- SY_EYE_SCAN (R448): Starts an eye scan of one lane over a grid of points. -/
  | syEyeScan (c : CmdRef)
  /-- EYE_SCAN_DONE (R449): An eye scan completes, or is cut short, and its final response is posted. -/
  | eyeScanDone (lane : Fin 64) (counts : List Nat)
  /-- SY_EYE_READ (R449): Returns the latest eye-scan result of a lane, refusing a stale generation. -/
  | syEyeRead (c : CmdRef)
  /-- SY_TS_READ (R453): Returns timestamp records of one direction, oldest first. -/
  | syTsRead (c : CmdRef)
  /-- CLIENT_PACKET_RX (R476): A client ingress packet is stamped, its key is built and the flow cache and table are looked up for classification. -/
  | clientPacketRx (lane : Fin 64) (frame : List Machine.PcsBlock) (ps : Nat) (n1 n2 : Burst)
  /-- FLOW_LOOKUP_COMPLETE (R480): A DRAM lookup for a packet in the miss queue completes and the packet is classified, matched or handled as no match. -/
  | flowLookupComplete (n1 n2 : Burst)
  /-- SY_MEM_FILL (R489): Starts filling a range of DRAM blocks with zero data and valid check symbols. -/
  | syMemFill (c : CmdRef)
  /-- MEM_FILL_DONE (R470): The fill completes, marks its blocks filled and posts its final response. -/
  | memFillDone
  /-- SCRUB_READ (R472): At its paced instant the background scrubber reads the next flow-table burst, correcting and writing it back, with a pass ending at the last burst. -/
  | scrubRead (n : Burst)
  /-- SY_MEM_SCRUB (R473): Starts one scrub pass over a host-named range. -/
  | syMemScrub (c : CmdRef)
  /-- MEM_SCRUB_DONE (R473): The range scrub ends and its summary record is posted. -/
  | memScrubDone (bursts : List (Nat × Burst))
  /-- SY_FLOW (R490): Runs a batch of flow-table items in index order. -/
  | syFlow (c : CmdRef) (dma : BatchIn) (bursts : List Burst)
  /-- SETTLE_DONE (R484): The settle after a flow commit has rewritten every logged index, so the log empties and settle_pending clears. -/
  | settleDone
  /-- SY_MEM_ACCESS (R491): Reads or writes 64-byte words of the host region, or reads the flow-table region. -/
  | syMemAccess (c : CmdRef) (dma : List Byte) (bursts : List Burst)
  /-- CIPHER_PACKET_ENTRY (R501): A packet enters the cipher stage and is dealt to a wheel if its SA is resident, or waits in the SA-miss queue while its SA loads. -/
  | cipherPacketEntry (phi : Fin 1728)
  /-- SA_LOAD_DONE (R502): An SA load completes and makes its waiting packets eligible, or fails them with reason 0x02. -/
  | saLoadDone (phi : Fin 1728) (sa : Fin 1048576) (b0 b1 b2 : Burst)
  /-- CIPHER_PACKET_DONE (R517): A cog finishes a packet, makes its completion record and takes, steals or restores its next work. -/
  | cipherPacketDone (phi : Fin 1728) (cogs : List (Fin 96))
  /-- CIPHER_DEADLINE (R508): At the boundary of tick e + 2 every unfinished packet of tick e + 1 becomes late. -/
  | cipherDeadline
  /-- DRBG_RESEED (R520): Every 65,536 ticks each wheel's DRBG reseeds from the entropy source. -/
  | drbgReseed (wheel : Fin 12)
  /-- ENTROPY_FAIL (R521): A continuous health test fails, so reseeding stops and entropy_fail is raised. -/
  | entropyFail (samples : List Bool)
  /-- DRBG_EXHAUSTED (R521): 1,048,576 ticks have passed since a DRBG's last reseed, so its wheel stops and its packets fail with reason 0x0A. -/
  | drbgExhausted (wheel : Fin 12)
  /-- ENTROPY_RETEST (R521): Every 1 s after a failure the start-up tests rerun; on a pass the DRBGs reseed and the wheels resume. -/
  | entropyRetest (phi : Fin 1728) (samples : List Bool)
  /-- WHEEL_RESET (R522): A share-consistency failure or a command resets a cipher wheel: its packets fail or are re-dealt and its state is zeroised. -/
  | wheelReset (phi : Fin 1728) (wheel : ShareCheck)
  /-- WHEEL_KAT_DONE (R523): The known-answer test of a reset wheel ends, passing cogs return to service and wheel_reset is raised. -/
  | wheelKatDone (phi : Fin 1728) (wheel : Fin 12) (passed : List (Fin 8))
  /-- SY_SA_CREATE (R528): SY_SA op 0 creates a security-association context and makes it resident where required. -/
  | sySaCreate (c : CmdRef)
  /-- SY_SA_DELETE (R528): SY_SA op 1 invalidates a context at the next boundary and zeroises its resident key. -/
  | sySaDelete (c : CmdRef)
  /-- SY_SA_READ (R528): SY_SA op 2 returns a context's state, epoch and packet number. -/
  | sySaRead (c : CmdRef)
  /-- SY_CIPHER_RECORDS (R529): Returns cipher completion records, oldest first. -/
  | syCipherRecords (c : CmdRef)
  /-- SY_CIPHER_WHEEL_RESET (R529): Commands a reset of one cipher wheel. -/
  | syCipherWheelReset (c : CmdRef) (phi : Fin 1728)
  /-- SY_ROOT_GENERATE (R537): SY_ROOT op 0 generates a root key from the vault DRBG. -/
  | syRootGenerate (c : CmdRef)
  /-- SY_ROOT_IMPORT (R537): SY_ROOT op 1 unwraps a root key under another loaded root. -/
  | syRootImport (c : CmdRef)
  /-- SY_ROOT_ERASE (R537): SY_ROOT op 2 erases a root slot. -/
  | syRootErase (c : CmdRef)
  /-- SY_KEY_SLOT_LOAD (R539): SY_KEY_SLOT op 0 unwraps a key into a working slot. -/
  | syKeySlotLoad (c : CmdRef)
  /-- SY_KEY_SLOT_ERASE (R539): SY_KEY_SLOT op 1 erases a working slot. -/
  | syKeySlotErase (c : CmdRef)
  /-- SY_KEY_SLOT_EXPORT (R539): SY_KEY_SLOT op 2 wraps an exportable working key under a root and returns it. -/
  | syKeySlotExport (c : CmdRef)
  /-- KEY_ERASE_EFFECT (R541): At the boundary after a root or slot erase, dependent resident contexts are evicted and their keys zeroised. -/
  | keyEraseEffect
  /-- SY_KEY_STORE (R544): Writes, verifies or clears key-wrap slots item by item. -/
  | syKeyStore (c : CmdRef) (dma : BatchIn)
  /-- CONTEXT_REBUILD (R546): After an epoch advance, firmware applies the delete action to every stale context, ending ctx_sweep_pending. -/
  | contextRebuild
  /-- SY_PK_GENERATE (R549): SY_PK op 0 queues generation of a P-384 key pair into a private-key slot. -/
  | syPkGenerate (c : CmdRef) (dma : List Byte)
  /-- SY_PK_IMPORT (R549): SY_PK op 1 queues import of a private scalar. -/
  | syPkImport (c : CmdRef) (dma : List Byte)
  /-- SY_PK_SIGN (R552): SY_PK op 2 queues an ECDSA signature of a digest. -/
  | syPkSign (c : CmdRef) (dma : List Byte)
  /-- SY_PK_AGREE (R553): SY_PK op 3 queues ECDH agreement that loads a derived key into a working slot or root. -/
  | syPkAgree (c : CmdRef) (dma : List Byte)
  /-- SY_PK_VERIFY (R549): SY_PK op 4 queues verification of an ECDSA signature. -/
  | syPkVerify (c : CmdRef) (dma : List Byte)
  /-- SY_PK_ERASE (R549): SY_PK op 5 queues erasure of a private-key slot. -/
  | syPkErase (c : CmdRef) (dma : List Byte)
  /-- PK_OPERATION_END (R550): A public-key operation reaches its fixed time, judges its cryptographic inputs and posts its final response. -/
  | pkOperationEnd
  /-- TAMPER_TRIP (R558): A tamper sensor trips and acts by its policy: report, lock, or erase by Table 11. -/
  | tamperTrip (sensors : List TamperSign)
  /-- TAMPER_EPOCH_ADVANCE (R559): After an erase, once firmware is ready, the security epoch is advanced and keys_erased is raised. -/
  | tamperEpochAdvance
  /-- SY_TAMPER_SET_POLICY (R562): SY_TAMPER op 0 sets one sensor's policy, subject to policy_sealed. -/
  | syTamperSetPolicy (c : CmdRef)
  /-- SY_TAMPER_SEAL_POLICIES (R562): SY_TAMPER op 1 sets policy_sealed. -/
  | syTamperSealPolicies (c : CmdRef)
  /-- SY_TAMPER_CLEAR_LATCH (R561): SY_TAMPER op 2 clears latch bits whose conditions have gone. -/
  | syTamperClearLatch (c : CmdRef) (present : Fin 64)
  /-- SY_TAMPER_UNLOCK (R560): SY_TAMPER op 3 unlocks the vault when the latch is clear. -/
  | syTamperUnlock (c : CmdRef)
  /-- SY_TAMPER_ERASE_NOW (R567): SY_TAMPER op 4 erases the vault by Table 11 and sets latch bit 6. -/
  | syTamperEraseNow (c : CmdRef)
  /-- REF_FAILED (R572): A reference candidate's failure condition is met, starting hold-off if it is selected. -/
  | refFailed (look : RefLook)
  /-- REF_GOOD (R572): A candidate's good condition has held for its time and it turns good, starting its wait-to-restore. -/
  | refGood (look : RefLook)
  /-- REFIN_PULSE_EDGE (R573): An edge on a pulse-type REFIN is validated and compared with the internal 1PPS. -/
  | refinPulseEdge (ref : Fin 4) (ps : Nat)
  /-- HOLD_OFF_EXPIRY (R580): The hold-off of a failed selected candidate ends, so the candidate becomes not eligible and selection applies. -/
  | holdOffExpiry
  /-- WTR_EXPIRY (R578): A candidate's wait-to-restore ends and it may become eligible. -/
  | wtrExpiry (ref : Fin 14)
  /-- ESMC_PDU_RX (R576): A received ESMC PDU is validated and updates the QL of its lane's candidates. -/
  | esmcPduRx (lane : Fin 64) (frame : List Byte)
  /-- ESMC_TIMEOUT (R575): No valid ESMC PDU arrives for 5 s, so the interface's candidates take QL-FAILED. -/
  | esmcTimeout (lane : Fin 64)
  /-- ESMC_EVENT_PDU (R589): Within 1 ms of a QL change an interface sends an ESMC event PDU. -/
  | esmcEventPdu (lane : Fin 64)
  /-- AGEING_DAY_CLOSE (R587): At every 86,400th 1PPS the loop closes a day and updates the ageing rate and its NVM record. -/
  | ageingDayClose
  /-- SY_REF_SELECT (R581): Sets the reference selection mode and candidate. -/
  | syRefSelect (c : CmdRef)
  /-- SY_TIME_SET (R596): Checks a TAI or calendar time to write at the next 1PPS. -/
  | syTimeSet (c : CmdRef)
  /-- TIME_SET_APPLY (R591): At the next internal 1PPS the seconds field is written and time.valid is set. -/
  | timeSetApply
  /-- SY_TIME_STEP (R593): Checks a phase step to apply to the time counter. -/
  | syTimeStep (c : CmdRef)
  /-- TIME_STEP_APPLY (R592): At the boundary after start of service the time counter is stepped by −step_ps. -/
  | timeStepApply
  /-- SY_TIME_GET (R602): Returns time, calendar and flags taken at one tick boundary. -/
  | syTimeGet (c : CmdRef)
  /-- SY_OUT_ALIGN (R600): Configures and starts alignment of a clock or pulse output. -/
  | syOutAlign (c : CmdRef)
  /-- OUT_ALIGN_DONE (R600): The alignment is in force and the final response is posted. -/
  | outAlignDone
  /-- SY_HOLDOVER_TABLE_WRITE (R603): SY_HOLDOVER_TABLE op 0 checks and writes the holdover table record. -/
  | syHoldoverTableWrite (c : CmdRef) (dma : List Byte)
  /-- SY_HOLDOVER_TABLE_READ (R602): SY_HOLDOVER_TABLE op 1 reads the holdover table record. -/
  | syHoldoverTableRead (c : CmdRef)
  /-- SNS_SEQUENCE_START (R608): A bezel sequence starts continuously, on trigger or at 1PPS, or a trigger is queued or overruns. -/
  | snsSequenceStart
  /-- SNS_CONVERSION_END (R610): A sense conversion ends and the channel's raw value and status are updated. -/
  | snsConversionEnd (v : SenseIn)
  /-- SNS_SHORT_FLAG (R611): A sense pin above 2.5 V for 10 µs is flagged and its sources are disconnected. -/
  | snsShortFlag (level : SenseLevel)
  /-- SNS_SHORT_RELEASE (R611): A flagged pin has stayed below 2.0 V for 100 ms, so the flag clears. -/
  | snsShortRelease (level : SenseLevel)
  /-- SY_SNS_TRIGGER (R622): Triggers a bezel sequence in mode 1. -/
  | sySnsTrigger (c : CmdRef)
  /-- SY_HK_SNAPSHOT (R615): Requests a copy of the next complete housekeeping round. -/
  | syHkSnapshot (c : CmdRef)
  /-- OUTPUT_FAULT (R617): A protected output mismatches its driven level or swing, so it is declared faulty and tri-stated. -/
  | outputFault (output : Fin 15) (look : PinLook)
  /-- PIN_RETRY_WINDOW (R617): Every 100 ms a faulty output is driven for a 10 µs retry window. -/
  | pinRetryWindow (output : Fin 15)
  /-- PIN_RECOVERED (R617): A retry window ends clean, so the output stays driven and pin_recovered is raised. -/
  | pinRecovered (output : Fin 15)
  /-- SY_PIN_RETRY (R620): Starts an immediate retry of the outputs named in a mask. -/
  | syPinRetry (c : CmdRef)
  /-- TARNISH_PLAN_START (R629): next_plan_s reaches 0, or a commanded plan is due, and phase 1 of the plan runs for the rail domains. -/
  | tarnishPlanStart
  /-- TARNISH_SETTLE_END (R630): The 10 s settle ends and the bias and cap domains are planned. -/
  | tarnishSettleEnd
  /-- TARNISH_STEP (R631): Every 16 ticks one planned offset step is applied, with the plan completing after the last step and the ledger written. -/
  | tarnishStep
  /-- LEDGER_WRITE (R635): Every 3,600 s of active state firmware writes the wear ledger. -/
  | ledgerWrite
  /-- SY_TARNISH_PLAN (R644): Requests a tarnish plan at the next 1PPS. -/
  | syTarnishPlan (c : CmdRef)
  /-- SY_PERF_DUMP (R641): Copies all 256 performance counters from the live or frozen values, or from the snapshot bank, to the host. -/
  | syPerfDump (c : CmdRef)
  /-- SEALED_DOMAIN_START (R562): VIN rises through 3.0 V from below, so the sealed domain comes alive with every tamper policy at 0, fail_count cleared and the always-on sensors active. -/
  | sealedDomainStart
  /-- BAR0_READY (R91): No later than 1 ms after PCIe link up, BAR0 becomes ready and the endpoint stops answering configuration requests with Configuration Request Retry Status. -/
  | bar0Ready
  /-- PCIE_CONFIGURATION_WRITE (R670): A PCIe configuration write enables bus mastering or MSI-X, clears the function mask or leaves D3hot, so kept doorbells are taken and held MSI-X messages are sent. -/
  | pcieConfigurationWrite (device : PcieDeviceWrite) (msixEnable funcMask d3hot : Bool)
  /-- ENTROPY_START_UP_TESTS_PASS (R520): When D49 starts, the SP 800-90B start-up tests over 1,024 samples pass, entropy_state becomes healthy and the wheels may take packets. -/
  | entropyStartUpTestsPass (start : EntropyStart)
  /-- CODEWORD_LOAD_END (R309): A codeword's load into a cog ends after up to 48 or 96 clocks, and a cog waiting on it, or a low-latency codeword's decode, starts its first iteration. -/
  | codewordLoadEnd (port : Fin 2) (phi : Fin 1728) (cog : Fin 96)
  /-- IDLE_COG_RETRY (R314): Every 24 clocks an idle decoder cog applies the take and steal rules again until it finds work or the deadline arrives. -/
  | idleCogRetry (port : Fin 2) (phi : Fin 1728) (cogs : List (Fin 96))
deriving DecidableEq, Repr

end Sys2Proof
end

