-- ==== Sys2Proof/Decode.lean ====
section
/-!
DEFINITION. Sys2Proof/Decode.lean: the commands that table words spell. The table gives no row any bits, so no word
spells a command.
-/
namespace Sys2Proof

/-- The command a table word spells: none, for spec/opcode_table.json gives bits to no row. -/
def decodeTableWord (_nbits _w : Nat) : Option Instr := none

end Sys2Proof
end

