-- ==== Sys2Proof/Config.lean ====
section
/-!
DEFINITION. Sys2Proof/Config.lean: what the spec leaves open or leaves to another standard, as constants without a body:
nothing can be proved of their values, so a claim about the model holds whatever they are.
-/
namespace Sys2Proof.Config

/-- A free number. The step applies it to the counter `free` of State, which it then advances. -/
opaque freeValue : Nat → Nat

/-- What the entropy source gives to a random bit generator (R520, R537), by the number of the request: entropy input, and for an
instantiation the nonce after it. -/
opaque entropy : Nat → List Byte

/-- The mask bytes of an SA load (R519), by the number of the load's request. -/
opaque loadMask : Nat → List Byte

/-- `ref[i].status` of a good candidate whose quality level keeps it from being eligible, by index: Table 12 of 17 has no value
for it. -/
opaque refStatus : Nat → BitVec 8

/-- The alignment marker of a PCS lane of an 800GBASE-R interface, and the 136 bits after a flow's markers, by their number (R431). -/
opaque marker : Nat → List Byte

@[inherit_doc marker] opaque markerPad : Nat → Nat → Nat

/-- The bits from which the scrambler of a PCS flow starts (R431). -/
opaque scramblerStart : Nat → List Bool

/-- A byte of host memory when restarted firmware reads an item list again: the number of the read, and the address (R152, R490). -/
opaque hostByte : Nat → Nat → BitVec 8

/-- The header of a request that an error log takes, by the number of the log (R157). -/
opaque requestHeader : Nat → List Byte

/-! ### Signal processing

The spec fixes the order of the stages, their tables, indices and delays. It states neither the arithmetic of the transforms nor the
coefficients of the filters, so those are open (log entry 136). -/

/-- A unit rotor: a complex value turned by so many turns. -/
opaque rotor : Rat → Rat × Rat

/-- The taps of the resampler's prototype filter up to its centre (R238). -/
opaque prototype : Nat → Rat

/-- A bin of the transform of the stretch of a received stream that carries a tracking block: the number of the block and that of the
bin (R247, R250). -/
opaque analyse : (Int → Rat × Rat) → Nat → Nat → Rat × Rat

/-- A bin of a sail's symbols in a transform block of the transmit direction (R286). -/
opaque spread : (Int → Rat × Rat) → Int → Nat → Rat × Rat

/-- The sample of the stream that has in each transform block the tones given: their frequencies in kHz from the middle of the band, and
their values. -/
opaque synthesise : (Int → List (Int × (Rat × Rat))) → Int → Rat × Rat

/-- The bulk dispersion filter at a setting in ps/nm (R244): the sample it gives of a stream. -/
opaque bulk : Int → (Int → Rat × Rat) → Int → Rat × Rat

/-- The quadratic phase of so many ps/nm at a bin of the band (R246). -/
opaque quadratic : Int → Nat → Rat × Rat

/-- The adaptive tap matrix of a bin in a set of taps: XX, XY, YX, YY (R248). -/
opaque taps : Nat → Nat → (Rat × Rat) × (Rat × Rat) × (Rat × Rat) × (Rat × Rat)

/-- The symbol of a slot from the equalised bins of its block: X and Y (R247). -/
opaque slotSymbol : (Nat → (Rat × Rat) × (Rat × Rat)) → Nat → (Rat × Rat) × (Rat × Rat)

/-- The rotor that a sail's phase recovery puts to a slot, from the sail's symbols before it (R256). -/
opaque phase : (Nat → (Rat × Rat) × (Rat × Rat)) → Nat → Rat × Rat

/-- The SNR of a sail in 0.01 dB, from its known symbols as they stand after carrier recovery, slot by slot (R257). -/
opaque snr : (Nat → (Rat × Rat) × (Rat × Rat)) → Nat

/-- The weight of a real dimension whose sail has an SNR in 0.01 dB (R257). -/
opaque weight : Nat → Nat

/-- The magnitude of an LLR, before it is held to 6 bits, by how much nearer the one bit value lies than the other (R257). -/
opaque llrLevel : Rat → Nat

/-- The sail that carried a label bit of a matcher block: the mode, the bit of the frame (R265). -/
opaque labelSail : Nat → Nat → Nat

/-- Fractional interpolation by a delay in fs (R290): the sample it gives of a stream. -/
opaque delay : Int → (Int → Rat) → Int → Rat

/-- The scale of a DAC channel in the first frame that is sent, which has no tick before it (R290). -/
opaque firstScale : Nat → Rat

/-- The offset of the decoder's min-sum (R306). -/
opaque minSumOffset : Nat

/-- A sail's running mean of decision error power after a block (R252): the mean before it and the block's own. -/
opaque errorMean : Nat → Nat → Nat

end Sys2Proof.Config
end

