-- ==== Sys2Proof/Attr.lean ====
section
/-!
DEFINITION. Sys2Proof/Attr.lean: the attributes of the device, one name for each attribute path of the attribute tables
of spec/02 to spec/19 (an index stands for every `[i]` and for the N of `lineN`).
-/
namespace Sys2Proof

/-- One constructor for each attribute path pattern of the spec. The row of each (path text, type, range, reset value,
effect term) is `Attr.row` of Machine/AttrTable.lean. -/
inductive Attr where
  | powerState
  | powerSealRequest
  | powerRailStartFailures
  | resetRequest
  | resetCause
  | thermalLevel
  | thermalMaxDieC
  | thermalThrottle1C
  | thermalThrottle2C
  | railVddDpMv
  | railVddSramMv
  | railVddConvMv
  | railVddConvhMv
  | railVddSerMv
  | railVddDdrMv
  | railVddMgtMv
  | railVddIoMv
  | firmwareRunningSlot
  | firmwareBuild
  | firmwareSecurityVersion
  | firmwareOtpCounter
  | firmwareSlotState
  | firmwareSlotSecurityVersion
  | firmwareSlotBuild
  | firmwareActivationReverts
  | identityDieId
  | lineEpoch
  | clientEpoch
  | timEpoch
  | secEpoch
  | memEpoch
  | houseEpoch
  | firmwareLoadPct
  | sessionPermission
  | sessionPerfRead
  | sessionEventMask
  | sessionState
  | eventsLost
  | identityPciVendorId
  | clockPllCoast
  | clockXoDelayMs
  | clockOtpXoDelayMs
  | clockBlockEnable
  | clockBlockReady
  | clockDomainRunning
  | clockDomainRamping
  | timTickAligned
  | timTickOffsetPs
  | timTickPpsTick
  | timTickTrimPpt
  | convState
  | convTestMode
  | convBgEnable
  | convBgPeriodMs
  | convSwaps
  | convSwapRejects
  | convForcedSwaps
  | convCoresWithoutSpare
  | convElementsRetired
  | convRecordsReplaced
  | convSiteTempC
  | convCalStampC
  | convLastFgTick
  | convLastFgUs
  | convCaptureBankFull
  | convCaptureOverruns
  | mrState
  | mrLock
  | mrLosRaw
  | mrLolRaw
  | mrLatencyPs
  | mrGainTargetDbfs
  | mrGainX
  | mrGainY
  | mrTiaMode
  | mrTiaSteps
  | mrTiaStepDb
  | mrTiaSettleUs
  | mrTiaCs
  | mrTiaRegX
  | mrTiaRegY
  | mrTiaIndexX
  | mrTiaIndexY
  | mrTiaStepsTaken
  | mrRatioWord
  | mrTimingOffsetPpb
  | mrRxSkewFs
  | mrCdMode
  | mrCdSetPsNm
  | mrCdWindowPsNm
  | mrCdRetunePsNm
  | mrCdBulkPsNm
  | mrLosThresholdDb
  | mrLolSnrDb
  | mrAcqRestarts
  | mrFrameTicksEmpty
  | mrFrameTicksDouble
  | mrSailEqHolds
  | mrSailTrainSkips
  | mrSailCycleSlips
  | mrSailPrefecErrBits
  | mrSailPrefecBits
  | mrPrefecErrBits
  | mrPrefecBits
  | mrPrefecExcludedBits
  | mrSnapshotBankFull
  | mrSnapshotOverruns
  | lineMode
  | lineRxMode
  | lineModePending
  | lineModeFollow
  | lineModeFollowIgnored
  | lineTxState
  | lineTxFrameOffsetPs
  | lineTxSkewFs
  | lineTxDacRmsLsb
  | lineTxClipCount
  | fecMode
  | fecIterCap
  | fecIterCapTarnish
  | fecIterCapEffective
  | fecLatencyPs
  | fecRxLatencyPs
  | fecCogsInService
  | fecCwTotal
  | fecCwClean
  | fecCwCorrected
  | fecCwUncorrectedCap
  | fecCwLate
  | fecCorrectedBits
  | fecIterSum
  | fecIterHist
  | fecIterPeak
  | fecSteals
  | fecCogFaults
  | fecCwFlushed
  | fecLastLateTick
  | fecModeHits
  | fecTxInjectPeriod
  | fecTxInjectedBits
  | alfTtiTx
  | alfTtiExpected
  | alfTtiRx
  | alfQlTx
  | alfQlRx
  | alfBdiForce
  | alfBdiRx
  | alfFawRaw
  | alfMfasRaw
  | alfBeiSum
  | alfOhRejects
  | slotPslRx
  | slotGdRx
  | slotBdiRx
  | gccMTxPackets
  | gccMRxPackets
  | gccMRxBad
  | gccMRxOverrun
  | gccMRxExpired
  | gccMForwarded
  | gccMTxPreempted
  | gccMRemoteGateApplied
  | gccMRemoteGateRefused
  | gccUTxPackets
  | gccURxPackets
  | gccURxBad
  | gccURxOverrun
  | featherState
  | featherAccept
  | featherTimeoutMs
  | featherWakeOnGcc
  | featherSeq
  | featherAborts
  | featherWakes
  | featherBeaconOk
  | featherOpcBeaconTxReg
  | featherOpcBeaconRxReg
  | featherOpcPowerReg
  | featherOpcPowerActive
  | featherOpcPowerFeather
  | mgmtNodeAddress
  | mgmtForwardEnable
  | mgmtRemoteGateEnable
  | mgmtRemoteGateSrc
  | defectDeclared
  | defectReported
  | defectLosEntryTicks
  | defectLosExitTicks
  | defectLolEntryTicks
  | defectLolExitTicks
  | defectFecdWindowTicks
  | defectFecdThreshold
  | defectFecdExitTicks
  | defectFecdAction
  | defectTimAction
  | defectTimMode
  | slotDefect
  | slotDefectReported
  | grpDefect
  | grpDefectReported
  | chAction
  | chLfOnAction
  | chFaultSource
  | clientCifExitTicks
  | linePmDefectTicks
  | linePmDefectEntries
  | linePmBdiRxTicks
  | linePmReplacedTicks
  | slotPmAisTicks
  | slotPmAisEntries
  | slotPmPlmTicks
  | slotPmReplacedTicks
  | grpPmGskewTicks
  | grpPmGskewEntries
  | grpPmL2cActionTicks
  | grpPmC2lActionTicks
  | chPmL2cActionTicks
  | chPmC2lActionTicks
  | pmSequence
  | pmLatchTick
  | pmTaiS
  | chGroup
  | chClass
  | chCommittedMbps
  | chBurstBytes
  | chLatencyBoundTicks
  | chLateAction
  | chTieRank
  | chEgressIf
  | chGuarantee
  | chPmShedTicks
  | chPmBrokenTicks
  | chPmLatePackets
  | chPmRefusedPackets
  | chPmUnmappedDiscards
  | grpAutoResize
  | grpShrinkHoldTicks
  | grpRestoreTicks
  | grpCfgMembers
  | grpTxMembers
  | grpRxMembers
  | grpTxActive
  | grpRxActive
  | grpHeld
  | grpCapacityMbps
  | grpCommittedMbps
  | grpSkewClocks
  | grpPmResizes
  | grpPmResizeHits
  | grpPmDelinDiscardBytes
  | grpPmUnknownChannelPackets
  | grpPmSkewClocksMax
  | laneState
  | laneIfType
  | laneIfFirst
  | laneDormant
  | laneGeneration
  | laneEqSource
  | laneCtleCode
  | laneAutoSweep
  | laneSweepWriteback
  | laneRelocks
  | laneIfRxPackets
  | laneIfTxPackets
  | laneIfRxFcsErrors
  | laneIfFecCorrectedCw
  | laneIfFecUncorrectableCw
  | laneIfFecSymbolErrors
  | chTsCapture
  | chPmDormantDiscards
  | clientTsOverflows
  | clientTsQueued
  | lineTsRxPlanePs
  | timRefSourceLane
  | memDdrState
  | memDdrFailedDevice
  | memDdrCorrected
  | memDdrUncorrectable
  | memDdrCrcRetries
  | memDdrDeviceCorrected
  | memChipkillThreshold
  | memFilledBlocks
  | memScrubPassS
  | memScrubPasses
  | memScrubPosition
  | memFlowCommittedGen
  | memFlowSettlePending
  | memFlowLogged
  | memFlowSeed1
  | memFlowSeed2
  | memFlowDefaultAction
  | memFlowDefaultChannel
  | memFlowHits
  | memFlowMissReads
  | memFlowSecondProbes
  | memFlowNoMatch
  | memFlowPoisonDiscards
  | memFlowMissOverruns
  | memFlowWbStalls
  | laneIfKeyEnable
  | cipCogsInService
  | cipSuspendMinBlocks
  | cipDemandMax
  | cipRecords
  | cipLatePackets
  | cipSuspensions
  | cipSteals
  | cipSaLoads
  | cipSaMissPackets
  | cipResidentEncrypt
  | cipResidentPinned
  | cipResidentCached
  | cipRecordQueued
  | cipRecordOverflows
  | cipEntropyState
  | cipLastResetAborts
  | chPmCipherOk
  | chPmCipherLate
  | chPmCipherFailed
  | secRootState
  | secRootKcv
  | secKeySlotKcv
  | secKeySlotState
  | secPkSlotState
  | secPkSlotPublic
  | secPkQueued
  | secCtxSweepPending
  | secTamperPolicy
  | secTamperPolicySealed
  | secTamperLocked
  | secTamperFirstSealed
  | secTamperLatch
  | secTamperPresent
  | secTamperFirst
  | secTamperFirstTick
  | secTamperCount
  | timState
  | timSelected
  | timSelectMode
  | timSelectRef
  | timOutputQl
  | timLocalQl
  | timRevertive
  | timHoldOffMs
  | timWtrS
  | timPullInSlopeNsS
  | timLoopBw
  | timFreqWindowPpb
  | timFreqOffsetPpt
  | timPhaseErrorPs
  | timHostFreqPpt
  | timSwitches
  | timRefPriority
  | timRefQlOverride
  | timRefQl
  | timRefStatus
  | timRefType
  | timRefFreqHz
  | timRefDelayPs
  | timRefPhaseOffsetPs
  | timRefFreqOffsetPpb
  | timRefFailures
  | timHoldoverValid
  | timHoldoverTempValid
  | timHoldoverSns
  | timHoldoverAvgS
  | timHoldoverLearnS
  | timHoldoverAgeDays
  | timHoldoverAgeingPptDay
  | timHoldoverTempMc
  | timTimeValid
  | timTimeUtcOffsetS
  | timTimeLeapPending
  | timClkOutFreq
  | timClkOutSquelchQl
  | timPulseOutType
  | timPulseOutPeriodTicks
  | timPulseOutWidthNs
  | timPulseOutOffsetPs
  | laneIfEsmcTx
  | laneIfEsmcMac
  | laneIfEsmcRx
  | laneIfEsmcBad
  | laneIfEsmcTimeouts
  | snsEnable
  | snsRefPin
  | snsCurrentUa
  | snsSettleUs
  | snsConvMs
  | snsChop
  | snsRaw
  | snsRawTick
  | snsStatus
  | snsShorted
  | bezelMode
  | bezelOverruns
  | bezelSnsoutSrc
  | bezelSnsoutMode
  | bezelSnsoutPeriodUs
  | hkRefMv
  | hkVinMv
  | hkV18Mv
  | hkSiteC
  | hkSnapshot
  | hkOverruns
  | pinsFault
  | pinsCause
  | pinsRetries
  | pinsOpcSkipped
  | tarnishEnable
  | tarnishNextPlanS
  | tarnishLowSteps
  | tarnishPlansSkipped
  | tarnishDomainMarginNow
  | tarnishDomainMarginSpread
  | tarnishDomainGuard
  | tarnishDomainGainPerStep
  | tarnishDomainOffset
  | tarnishDomainMarginMin
  | tarnishDomainRemainingSteps
  | tarnishDomainProjectedDays
  | tarnishDomainExhaustedPlans
  | perfCtrEvent
  | perfCtrInstance
  | perfCtrThreshold
  | perfCtrValue
  | perfCtrSnap
  | mrNoiseFloorDbfs
  | mrNoiseFloorDbfsS
  | mrSailNoiseFloorDbfs
  | mrSailSnrDb
  | mrSailSnrDbS
  | mrSailSnrDbMinS
  | mrResidualCdPsNm
  | mrResidualCdPsNmS
  | mrDgdPs
  | mrDgdPsMaxS
  | mrPolRateKradS
  | mrPolRateKradSMaxS
  | mrCfoKhz
  | mrCfoKhzS
  | identityOrderingCode
  | firmwareSyentRelease
  | secFusedOff
  | chGateDiscards
deriving DecidableEq, Repr

/-- The type of an attribute's value: unsigned or signed of so many bits, or a string of so many bytes (held as the
little-endian number its bytes spell, R15). -/
inductive AttrKind where
  | u (bits : Nat)
  | s (bits : Nat)
  | bytes (n : Nat)
deriving DecidableEq, Repr

/-- When a written value takes effect: the terms of R18 (00) and the further terms the tables of chapters 06, 07, 18
and 19 use. `none` stands for a read-only attribute. -/
inductive EffectTerm where
  | none | immediately | nextTick | nextSecond | onCommit | nextAcquisition | nextConversion | nextSequence
  | nextPeriod | nextPlan | nextRotation
deriving DecidableEq, Repr

/-- One row of an attribute table. `path` is the path with `#` for each index, `dims` the number of values of each
index, `lo` and `hi` the range a write is held to. -/
structure AttrRow where
  path : String
  writable : Bool
  kind : AttrKind
  lo : Int
  hi : Int
  reset : Int
  term : EffectTerm
  dims : List Nat
deriving DecidableEq, Repr

end Sys2Proof
end

