-- ==== Sys2Proof/Machine/AttrTable.lean ====
section
/-!
DEFINITION. Sys2Proof/Machine/AttrTable.lean: the attribute tables of spec/02 to spec/19 as one function: path, access,
type, range, reset value, effect term and index ranges of each attribute. Ranges that depend on other values, and reset
values that differ by index, are in Machine/Attrs.lean.
-/
namespace Sys2Proof

/-- The row of an attribute in its table. -/
def Attr.row : Attr → AttrRow
  | .powerState => ⟨"device.house.power.state", false, .u 8, 0, 255, 0, .none, []⟩
  | .powerSealRequest => ⟨"device.house.power.seal_request", true, .u 8, 0, 1, 0, .immediately, []⟩
  | .powerRailStartFailures => ⟨"device.house.power.rail_start_failures", false, .u 16, 0, 65535, 0, .none, []⟩
  | .resetRequest => ⟨"device.house.reset.request", true, .u 8, 0, 3, 0, .nextTick, []⟩
  | .resetCause => ⟨"device.house.reset.cause", false, .u 16, 0, 65535, 0, .none, []⟩
  | .thermalLevel => ⟨"device.house.thermal.level", false, .u 8, 0, 255, 0, .none, []⟩
  | .thermalMaxDieC => ⟨"device.house.thermal.max_die_c", false, .s 16, (-32768), 32767, 0, .none, []⟩
  | .thermalThrottle1C => ⟨"device.house.thermal.throttle1_c", true, .u 8, 70, 255, 0, .nextTick, []⟩
  | .thermalThrottle2C => ⟨"device.house.thermal.throttle2_c", true, .u 8, 70, 255, 0, .nextTick, []⟩
  | .railVddDpMv => ⟨"device.house.rail.vdd_dp_mv", false, .u 16, 0, 65535, 0, .none, []⟩
  | .railVddSramMv => ⟨"device.house.rail.vdd_sram_mv", false, .u 16, 0, 65535, 0, .none, []⟩
  | .railVddConvMv => ⟨"device.house.rail.vdd_conv_mv", false, .u 16, 0, 65535, 0, .none, []⟩
  | .railVddConvhMv => ⟨"device.house.rail.vdd_convh_mv", false, .u 16, 0, 65535, 0, .none, []⟩
  | .railVddSerMv => ⟨"device.house.rail.vdd_ser_mv", false, .u 16, 0, 65535, 0, .none, []⟩
  | .railVddDdrMv => ⟨"device.house.rail.vdd_ddr_mv", false, .u 16, 0, 65535, 0, .none, []⟩
  | .railVddMgtMv => ⟨"device.house.rail.vdd_mgt_mv", false, .u 16, 0, 65535, 0, .none, []⟩
  | .railVddIoMv => ⟨"device.house.rail.vdd_io_mv", false, .u 16, 0, 65535, 0, .none, []⟩
  | .firmwareRunningSlot => ⟨"device.house.firmware.running_slot", false, .u 8, 0, 255, 0, .none, []⟩
  | .firmwareBuild => ⟨"device.house.firmware.build", false, .u 32, 0, 4294967295, 0, .none, []⟩
  | .firmwareSecurityVersion => ⟨"device.house.firmware.security_version", false, .u 16, 0, 65535, 0, .none, []⟩
  | .firmwareOtpCounter => ⟨"device.house.firmware.otp_counter", false, .u 16, 0, 65535, 0, .none, []⟩
  | .firmwareSlotState => ⟨"device.house.firmware.slot[#].state", false, .u 8, 0, 255, 0, .none, [2]⟩
  | .firmwareSlotSecurityVersion => ⟨"device.house.firmware.slot[#].security_version", false, .u 16, 0, 65535, 0, .none, [2]⟩
  | .firmwareSlotBuild => ⟨"device.house.firmware.slot[#].build", false, .u 32, 0, 4294967295, 0, .none, [2]⟩
  | .firmwareActivationReverts => ⟨"device.house.firmware.activation_reverts", false, .u 32, 0, 4294967295, 0, .none, []⟩
  | .identityDieId => ⟨"device.house.identity.die_id", false, .u 64, 0, (2 ^ 64 - 1), 0, .none, []⟩
  | .lineEpoch => ⟨"device.line#.epoch", false, .u 32, 0, 4294967295, 0, .none, [2]⟩
  | .clientEpoch => ⟨"device.client.epoch", false, .u 32, 0, 4294967295, 0, .none, []⟩
  | .timEpoch => ⟨"device.timing.epoch", false, .u 32, 0, 4294967295, 0, .none, []⟩
  | .secEpoch => ⟨"device.security.epoch", false, .u 32, 0, 4294967295, 0, .none, []⟩
  | .memEpoch => ⟨"device.memory.epoch", false, .u 32, 0, 4294967295, 0, .none, []⟩
  | .houseEpoch => ⟨"device.house.epoch", false, .u 32, 0, 4294967295, 0, .none, []⟩
  | .firmwareLoadPct => ⟨"device.house.firmware.load_pct", false, .u 8, 0, 255, 0, .none, []⟩
  | .sessionPermission => ⟨"device.house.session[#].permission", true, .u 8, 0, 2, 0, .immediately, [8]⟩
  | .sessionPerfRead => ⟨"device.house.session[#].perf_read", true, .u 8, 0, 1, 0, .immediately, [8]⟩
  | .sessionEventMask => ⟨"device.house.session[#].event_mask", true, .u 32, 0, 16383, 0, .immediately, [8]⟩
  | .sessionState => ⟨"device.house.session[#].state", false, .u 8, 0, 255, 0, .none, [8]⟩
  | .eventsLost => ⟨"device.house.events.lost", false, .u 32, 0, 4294967295, 0, .none, []⟩
  | .identityPciVendorId => ⟨"device.house.identity.pci_vendor_id", false, .u 16, 0, 65535, 0, .none, []⟩
  | .clockPllCoast => ⟨"device.house.clock.pll_coast", false, .u 8, 0, 255, 0, .none, []⟩
  | .clockXoDelayMs => ⟨"device.house.clock.xo_delay_ms", false, .u 16, 0, 65535, 0, .none, []⟩
  | .clockOtpXoDelayMs => ⟨"device.house.clock.otp_xo_delay_ms", true, .u 16, 0, 2000, 0, .immediately, []⟩
  | .clockBlockEnable => ⟨"device.house.clock.block_enable", true, .u 32, 0, 4294967295, 0, .immediately, []⟩
  | .clockBlockReady => ⟨"device.house.clock.block_ready", false, .u 32, 0, 4294967295, 0, .none, []⟩
  | .clockDomainRunning => ⟨"device.house.clock.domain_running", false, .u 64, 0, (2 ^ 64 - 1), 0, .none, []⟩
  | .clockDomainRamping => ⟨"device.house.clock.domain_ramping", false, .u 64, 0, (2 ^ 64 - 1), 0, .none, []⟩
  | .timTickAligned => ⟨"device.timing.tick.aligned", false, .u 8, 0, 255, 0, .none, []⟩
  | .timTickOffsetPs => ⟨"device.timing.tick.offset_ps", false, .s 32, (-2147483648), 2147483647, 0, .none, []⟩
  | .timTickPpsTick => ⟨"device.timing.tick.pps_tick", false, .u 64, 0, (2 ^ 64 - 1), 0, .none, []⟩
  | .timTickTrimPpt => ⟨"device.timing.tick.trim_ppt", false, .s 32, (-2147483648), 2147483647, 0, .none, []⟩
  | .convState => ⟨"device.line#.converter.state", false, .u 8, 0, 255, 0, .none, [2]⟩
  | .convTestMode => ⟨"device.line#.converter.test_mode", true, .u 8, 0, 1, 0, .nextTick, [2]⟩
  | .convBgEnable => ⟨"device.line#.converter.bg_enable", true, .u 8, 0, 1, 1, .nextTick, [2]⟩
  | .convBgPeriodMs => ⟨"device.line#.converter.bg_period_ms", true, .u 16, 300, 10000, 500, .nextRotation, [2]⟩
  | .convSwaps => ⟨"device.line#.converter.swaps", false, .u 32, 0, 4294967295, 0, .none, [2]⟩
  | .convSwapRejects => ⟨"device.line#.converter.swap_rejects", false, .u 32, 0, 4294967295, 0, .none, [2]⟩
  | .convForcedSwaps => ⟨"device.line#.converter.forced_swaps", false, .u 32, 0, 4294967295, 0, .none, [2]⟩
  | .convCoresWithoutSpare => ⟨"device.line#.converter.cores_without_spare", false, .u 8, 0, 255, 0, .none, [2]⟩
  | .convElementsRetired => ⟨"device.line#.converter.elements_retired", false, .u 16, 0, 65535, 0, .none, [2]⟩
  | .convRecordsReplaced => ⟨"device.line#.converter.records_replaced", false, .u 32, 0, 4294967295, 0, .none, [2]⟩
  | .convSiteTempC => ⟨"device.line#.converter.site_temp_c", false, .bytes 12, 0, (2 ^ 96 - 1), 0, .none, [2]⟩
  | .convCalStampC => ⟨"device.line#.converter.cal_stamp_c", false, .bytes 4, 0, 4294967295, 0, .none, [2]⟩
  | .convLastFgTick => ⟨"device.line#.converter.last_fg_tick", false, .u 64, 0, (2 ^ 64 - 1), 0, .none, [2]⟩
  | .convLastFgUs => ⟨"device.line#.converter.last_fg_us", false, .u 32, 0, 4294967295, 0, .none, [2]⟩
  | .convCaptureBankFull => ⟨"device.line#.converter.capture.bank_full", false, .u 8, 0, 255, 0, .none, [2]⟩
  | .convCaptureOverruns => ⟨"device.line#.converter.capture.overruns", false, .u 32, 0, 4294967295, 0, .none, [2]⟩
  | .mrState => ⟨"device.line#.millrace.state", false, .u 8, 0, 255, 0, .none, [2]⟩
  | .mrLock => ⟨"device.line#.millrace.lock", false, .u 8, 0, 255, 0, .none, [2]⟩
  | .mrLosRaw => ⟨"device.line#.millrace.los_raw", false, .u 8, 0, 255, 1, .none, [2]⟩
  | .mrLolRaw => ⟨"device.line#.millrace.lol_raw", false, .u 8, 0, 255, 1, .none, [2]⟩
  | .mrLatencyPs => ⟨"device.line#.millrace.latency_ps", false, .u 32, 0, 4294967295, 1600000, .none, [2]⟩
  | .mrGainTargetDbfs => ⟨"device.line#.millrace.gain_target_dbfs", true, .s 16, (-2000), (-600), (-1200), .nextTick, [2]⟩
  | .mrGainX => ⟨"device.line#.millrace.gain_x", false, .u 8, 0, 255, 15, .none, [2]⟩
  | .mrGainY => ⟨"device.line#.millrace.gain_y", false, .u 8, 0, 255, 15, .none, [2]⟩
  | .mrTiaMode => ⟨"device.line#.millrace.tia_mode", true, .u 8, 0, 1, 0, .nextTick, [2]⟩
  | .mrTiaSteps => ⟨"device.line#.millrace.tia_steps", true, .u 8, 1, 16, 1, .nextTick, [2]⟩
  | .mrTiaStepDb => ⟨"device.line#.millrace.tia_step_db", true, .u 8, 2, 12, 6, .nextTick, [2]⟩
  | .mrTiaSettleUs => ⟨"device.line#.millrace.tia_settle_us", true, .u 16, 1, 1000, 50, .nextTick, [2]⟩
  | .mrTiaCs => ⟨"device.line#.millrace.tia_cs", true, .u 8, 0, 1, 0, .nextTick, [2]⟩
  | .mrTiaRegX => ⟨"device.line#.millrace.tia_reg_x", true, .u 16, 0, 65535, 0, .nextTick, [2]⟩
  | .mrTiaRegY => ⟨"device.line#.millrace.tia_reg_y", true, .u 16, 0, 65535, 0, .nextTick, [2]⟩
  | .mrTiaIndexX => ⟨"device.line#.millrace.tia_index_x", true, .u 8, 0, 15, 0, .nextTick, [2]⟩
  | .mrTiaIndexY => ⟨"device.line#.millrace.tia_index_y", true, .u 8, 0, 15, 0, .nextTick, [2]⟩
  | .mrTiaStepsTaken => ⟨"device.line#.millrace.tia_steps_taken", false, .u 32, 0, 4294967295, 0, .none, [2]⟩
  | .mrRatioWord => ⟨"device.line#.millrace.ratio_word", false, .u 64, 0, (2 ^ 64 - 1), 17592186044416, .none, [2]⟩
  | .mrTimingOffsetPpb => ⟨"device.line#.millrace.timing_offset_ppb", false, .s 32, (-2147483648), 2147483647, 0, .none, [2]⟩
  | .mrRxSkewFs => ⟨"device.line#.millrace.rx_skew_fs[#]", true, .s 32, (-50000), 50000, 0, .nextTick, [2, 4]⟩
  | .mrCdMode => ⟨"device.line#.millrace.cd_mode", true, .u 8, 0, 2, 0, .nextAcquisition, [2]⟩
  | .mrCdSetPsNm => ⟨"device.line#.millrace.cd_set_ps_nm", true, .s 32, (-2147483648), 2147483647, 0, .nextAcquisition, [2]⟩
  | .mrCdWindowPsNm => ⟨"device.line#.millrace.cd_window_ps_nm", true, .u 32, 1000, 160000, 10000, .nextAcquisition, [2]⟩
  | .mrCdRetunePsNm => ⟨"device.line#.millrace.cd_retune_ps_nm", true, .u 16, 100, 5000, 500, .nextSecond, [2]⟩
  | .mrCdBulkPsNm => ⟨"device.line#.millrace.cd_bulk_ps_nm", false, .s 32, (-2147483648), 2147483647, 0, .none, [2]⟩
  | .mrLosThresholdDb => ⟨"device.line#.millrace.los_threshold_db", true, .s 16, (-6000), (-2000), (-4500), .nextTick, [2]⟩
  | .mrLolSnrDb => ⟨"device.line#.millrace.lol_snr_db", true, .u 16, 300, 2000, 800, .nextTick, [2]⟩
  | .mrAcqRestarts => ⟨"device.line#.millrace.acq_restarts", false, .u 32, 0, 4294967295, 0, .none, [2]⟩
  | .mrFrameTicksEmpty => ⟨"device.line#.millrace.frame_ticks_empty", false, .u 32, 0, 4294967295, 0, .none, [2]⟩
  | .mrFrameTicksDouble => ⟨"device.line#.millrace.frame_ticks_double", false, .u 32, 0, 4294967295, 0, .none, [2]⟩
  | .mrSailEqHolds => ⟨"device.line#.millrace.sail[#].eq_holds", false, .u 32, 0, 4294967295, 0, .none, [2, 16]⟩
  | .mrSailTrainSkips => ⟨"device.line#.millrace.sail[#].train_skips", false, .u 32, 0, 4294967295, 0, .none, [2, 16]⟩
  | .mrSailCycleSlips => ⟨"device.line#.millrace.sail[#].cycle_slips", false, .u 32, 0, 4294967295, 0, .none, [2, 16]⟩
  | .mrSailPrefecErrBits => ⟨"device.line#.millrace.sail[#].prefec_err_bits", false, .u 64, 0, (2 ^ 64 - 1), 0, .nextSecond, [2, 16]⟩
  | .mrSailPrefecBits => ⟨"device.line#.millrace.sail[#].prefec_bits", false, .u 64, 0, (2 ^ 64 - 1), 0, .nextSecond, [2, 16]⟩
  | .mrPrefecErrBits => ⟨"device.line#.millrace.prefec_err_bits", false, .u 64, 0, (2 ^ 64 - 1), 0, .nextSecond, [2]⟩
  | .mrPrefecBits => ⟨"device.line#.millrace.prefec_bits", false, .u 64, 0, (2 ^ 64 - 1), 0, .nextSecond, [2]⟩
  | .mrPrefecExcludedBits => ⟨"device.line#.millrace.prefec_excluded_bits", false, .u 64, 0, (2 ^ 64 - 1), 0, .nextSecond, [2]⟩
  | .mrSnapshotBankFull => ⟨"device.line#.millrace.snapshot.bank_full", false, .u 8, 0, 255, 0, .none, [2]⟩
  | .mrSnapshotOverruns => ⟨"device.line#.millrace.snapshot.overruns", false, .u 32, 0, 4294967295, 0, .none, [2]⟩
  | .lineMode => ⟨"device.line#.mode", false, .u 8, 0, 255, 0, .none, [2]⟩
  | .lineRxMode => ⟨"device.line#.rx_mode", false, .u 8, 0, 255, 0, .none, [2]⟩
  | .lineModePending => ⟨"device.line#.mode_pending", false, .u 8, 0, 255, 255, .none, [2]⟩
  | .lineModeFollow => ⟨"device.line#.mode_follow", true, .u 8, 0, 1, 0, .nextTick, [2]⟩
  | .lineModeFollowIgnored => ⟨"device.line#.mode_follow_ignored", false, .u 32, 0, 4294967295, 0, .none, [2]⟩
  | .lineTxState => ⟨"device.line#.tx.state", false, .u 8, 0, 255, 0, .none, [2]⟩
  | .lineTxFrameOffsetPs => ⟨"device.line#.tx.frame_offset_ps", false, .u 32, 0, 4294967295, 1520000, .none, [2]⟩
  | .lineTxSkewFs => ⟨"device.line#.tx.skew_fs[#]", true, .s 32, (-50000), 50000, 0, .nextTick, [2, 4]⟩
  | .lineTxDacRmsLsb => ⟨"device.line#.tx.dac_rms_lsb", true, .u 16, 160, 480, 352, .nextTick, [2]⟩
  | .lineTxClipCount => ⟨"device.line#.tx.clip_count[#]", false, .u 32, 0, 4294967295, 0, .nextSecond, [2, 4]⟩
  | .fecMode => ⟨"device.line#.fec.mode", true, .u 8, 0, 1, 0, .nextTick, [2]⟩
  | .fecIterCap => ⟨"device.line#.fec.iter_cap", true, .u 8, 1, 12, 12, .nextTick, [2]⟩
  | .fecIterCapTarnish => ⟨"device.line#.fec.iter_cap_tarnish", false, .u 8, 0, 255, 12, .none, [2]⟩
  | .fecIterCapEffective => ⟨"device.line#.fec.iter_cap_effective", false, .u 8, 0, 255, 12, .none, [2]⟩
  | .fecLatencyPs => ⟨"device.line#.fec.latency_ps", false, .u 32, 0, 4294967295, 2560000, .none, [2]⟩
  | .fecRxLatencyPs => ⟨"device.line#.fec.rx_latency_ps", false, .u 32, 0, 4294967295, 6380000, .none, [2]⟩
  | .fecCogsInService => ⟨"device.line#.fec.cogs_in_service", false, .bytes 8, 0, (2 ^ 64 - 1), 0, .none, [2]⟩
  | .fecCwTotal => ⟨"device.line#.fec.cw_total", false, .u 64, 0, (2 ^ 64 - 1), 0, .nextSecond, [2]⟩
  | .fecCwClean => ⟨"device.line#.fec.cw_clean", false, .u 64, 0, (2 ^ 64 - 1), 0, .nextSecond, [2]⟩
  | .fecCwCorrected => ⟨"device.line#.fec.cw_corrected", false, .u 64, 0, (2 ^ 64 - 1), 0, .nextSecond, [2]⟩
  | .fecCwUncorrectedCap => ⟨"device.line#.fec.cw_uncorrected_cap", false, .u 64, 0, (2 ^ 64 - 1), 0, .nextSecond, [2]⟩
  | .fecCwLate => ⟨"device.line#.fec.cw_late", false, .u 64, 0, (2 ^ 64 - 1), 0, .nextSecond, [2]⟩
  | .fecCorrectedBits => ⟨"device.line#.fec.corrected_bits", false, .u 64, 0, (2 ^ 64 - 1), 0, .nextSecond, [2]⟩
  | .fecIterSum => ⟨"device.line#.fec.iter_sum", false, .u 64, 0, (2 ^ 64 - 1), 0, .nextSecond, [2]⟩
  | .fecIterHist => ⟨"device.line#.fec.iter_hist[#]", false, .u 64, 0, (2 ^ 64 - 1), 0, .nextSecond, [2, 13]⟩
  | .fecIterPeak => ⟨"device.line#.fec.iter_peak", false, .u 8, 0, 255, 0, .nextSecond, [2]⟩
  | .fecSteals => ⟨"device.line#.fec.steals", false, .u 64, 0, (2 ^ 64 - 1), 0, .nextSecond, [2]⟩
  | .fecCogFaults => ⟨"device.line#.fec.cog_faults", false, .u 64, 0, (2 ^ 64 - 1), 0, .nextSecond, [2]⟩
  | .fecCwFlushed => ⟨"device.line#.fec.cw_flushed", false, .u 64, 0, (2 ^ 64 - 1), 0, .none, [2]⟩
  | .fecLastLateTick => ⟨"device.line#.fec.last_late_tick", false, .u 64, 0, (2 ^ 64 - 1), 0, .none, [2]⟩
  | .fecModeHits => ⟨"device.line#.fec.mode_hits", false, .u 32, 0, 4294967295, 0, .none, [2]⟩
  | .fecTxInjectPeriod => ⟨"device.line#.fec.tx_inject_period", true, .u 32, 0, 4294967295, 0, .nextTick, [2]⟩
  | .fecTxInjectedBits => ⟨"device.line#.fec.tx_injected_bits", false, .u 64, 0, (2 ^ 64 - 1), 0, .none, [2]⟩
  | .alfTtiTx => ⟨"device.line#.alf.tti_tx", true, .bytes 64, 0, (2 ^ 512 - 1), 0, .nextTick, [2]⟩
  | .alfTtiExpected => ⟨"device.line#.alf.tti_expected", true, .bytes 64, 0, (2 ^ 512 - 1), 0, .nextTick, [2]⟩
  | .alfTtiRx => ⟨"device.line#.alf.tti_rx", false, .bytes 64, 0, (2 ^ 512 - 1), 0, .none, [2]⟩
  | .alfQlTx => ⟨"device.line#.alf.ql_tx", false, .u 8, 0, 255, 15, .none, [2]⟩
  | .alfQlRx => ⟨"device.line#.alf.ql_rx", false, .u 8, 0, 255, 255, .none, [2]⟩
  | .alfBdiForce => ⟨"device.line#.alf.bdi_force", true, .u 8, 0, 1, 0, .nextTick, [2]⟩
  | .alfBdiRx => ⟨"device.line#.alf.bdi_rx", false, .u 8, 0, 255, 0, .none, [2]⟩
  | .alfFawRaw => ⟨"device.line#.alf.faw_raw", false, .u 8, 0, 255, 0, .none, [2]⟩
  | .alfMfasRaw => ⟨"device.line#.alf.mfas_raw", false, .u 8, 0, 255, 0, .none, [2]⟩
  | .alfBeiSum => ⟨"device.line#.alf.bei_sum", false, .u 64, 0, (2 ^ 64 - 1), 0, .nextSecond, [2]⟩
  | .alfOhRejects => ⟨"device.line#.alf.oh_rejects", false, .u 64, 0, (2 ^ 64 - 1), 0, .nextSecond, [2]⟩
  | .slotPslRx => ⟨"device.line#.slot[#].psl_rx", false, .u 8, 0, 255, 255, .none, [2, 128]⟩
  | .slotGdRx => ⟨"device.line#.slot[#].gd_rx", false, .u 32, 0, 4294967295, 4294967295, .none, [2, 128]⟩
  | .slotBdiRx => ⟨"device.line#.slot[#].bdi_rx", false, .u 8, 0, 255, 0, .none, [2, 128]⟩
  | .gccMTxPackets => ⟨"device.line#.gcc_m.tx_packets", false, .u 64, 0, (2 ^ 64 - 1), 0, .none, [2]⟩
  | .gccMRxPackets => ⟨"device.line#.gcc_m.rx_packets", false, .u 64, 0, (2 ^ 64 - 1), 0, .none, [2]⟩
  | .gccMRxBad => ⟨"device.line#.gcc_m.rx_bad", false, .u 64, 0, (2 ^ 64 - 1), 0, .none, [2]⟩
  | .gccMRxOverrun => ⟨"device.line#.gcc_m.rx_overrun", false, .u 64, 0, (2 ^ 64 - 1), 0, .none, [2]⟩
  | .gccMRxExpired => ⟨"device.line#.gcc_m.rx_expired", false, .u 64, 0, (2 ^ 64 - 1), 0, .none, [2]⟩
  | .gccMForwarded => ⟨"device.line#.gcc_m.forwarded", false, .u 64, 0, (2 ^ 64 - 1), 0, .none, [2]⟩
  | .gccMTxPreempted => ⟨"device.line#.gcc_m.tx_preempted", false, .u 64, 0, (2 ^ 64 - 1), 0, .none, [2]⟩
  | .gccMRemoteGateApplied => ⟨"device.line#.gcc_m.remote_gate_applied", false, .u 64, 0, (2 ^ 64 - 1), 0, .none, [2]⟩
  | .gccMRemoteGateRefused => ⟨"device.line#.gcc_m.remote_gate_refused", false, .u 64, 0, (2 ^ 64 - 1), 0, .none, [2]⟩
  | .gccUTxPackets => ⟨"device.line#.gcc_u.tx_packets", false, .u 64, 0, (2 ^ 64 - 1), 0, .none, [2]⟩
  | .gccURxPackets => ⟨"device.line#.gcc_u.rx_packets", false, .u 64, 0, (2 ^ 64 - 1), 0, .none, [2]⟩
  | .gccURxBad => ⟨"device.line#.gcc_u.rx_bad", false, .u 64, 0, (2 ^ 64 - 1), 0, .none, [2]⟩
  | .gccURxOverrun => ⟨"device.line#.gcc_u.rx_overrun", false, .u 64, 0, (2 ^ 64 - 1), 0, .none, [2]⟩
  | .featherState => ⟨"device.line#.feather.state", false, .u 8, 0, 255, 0, .none, [2]⟩
  | .featherAccept => ⟨"device.line#.feather.accept", true, .u 8, 0, 1, 0, .nextTick, [2]⟩
  | .featherTimeoutMs => ⟨"device.line#.feather.timeout_ms", true, .u 16, 1, 10000, 100, .nextTick, [2]⟩
  | .featherWakeOnGcc => ⟨"device.line#.feather.wake_on_gcc", true, .u 8, 0, 1, 1, .nextTick, [2]⟩
  | .featherSeq => ⟨"device.line#.feather.seq", false, .u 8, 0, 255, 0, .none, [2]⟩
  | .featherAborts => ⟨"device.line#.feather.aborts", false, .u 32, 0, 4294967295, 0, .none, [2]⟩
  | .featherWakes => ⟨"device.line#.feather.wakes", false, .u 32, 0, 4294967295, 0, .none, [2]⟩
  | .featherBeaconOk => ⟨"device.line#.feather.beacon_ok", false, .u 8, 0, 255, 0, .none, [2]⟩
  | .featherOpcBeaconTxReg => ⟨"device.line#.feather.opc_beacon_tx_reg", true, .u 16, 0, 65535, 0, .nextTick, [2]⟩
  | .featherOpcBeaconRxReg => ⟨"device.line#.feather.opc_beacon_rx_reg", true, .u 16, 0, 65535, 0, .nextTick, [2]⟩
  | .featherOpcPowerReg => ⟨"device.line#.feather.opc_power_reg", true, .u 16, 0, 65535, 0, .nextTick, [2]⟩
  | .featherOpcPowerActive => ⟨"device.line#.feather.opc_power_active", true, .u 8, 0, 255, 0, .nextTick, [2]⟩
  | .featherOpcPowerFeather => ⟨"device.line#.feather.opc_power_feather", true, .u 8, 0, 255, 0, .nextTick, [2]⟩
  | .mgmtNodeAddress => ⟨"device.house.mgmt.node_address", true, .u 32, 0, 4294967295, 0, .immediately, []⟩
  | .mgmtForwardEnable => ⟨"device.house.mgmt.forward_enable", true, .u 8, 0, 1, 1, .immediately, []⟩
  | .mgmtRemoteGateEnable => ⟨"device.house.mgmt.remote_gate_enable", true, .u 8, 0, 1, 0, .immediately, []⟩
  | .mgmtRemoteGateSrc => ⟨"device.house.mgmt.remote_gate_src[#]", true, .u 32, 0, 4294967295, 4294967295, .immediately, [4]⟩
  | .defectDeclared => ⟨"device.line#.defect.declared", false, .u 16, 0, 65535, 15, .none, [2]⟩
  | .defectReported => ⟨"device.line#.defect.reported", false, .u 16, 0, 65535, 15, .none, [2]⟩
  | .defectLosEntryTicks => ⟨"device.line#.defect.los_entry_ticks", true, .u 8, 1, 64, 2, .nextTick, [2]⟩
  | .defectLosExitTicks => ⟨"device.line#.defect.los_exit_ticks", true, .u 16, 1, 1024, 8, .nextTick, [2]⟩
  | .defectLolEntryTicks => ⟨"device.line#.defect.lol_entry_ticks", true, .u 8, 1, 64, 4, .nextTick, [2]⟩
  | .defectLolExitTicks => ⟨"device.line#.defect.lol_exit_ticks", true, .u 16, 1, 1024, 16, .nextTick, [2]⟩
  | .defectFecdWindowTicks => ⟨"device.line#.defect.fecd_window_ticks", true, .u 16, 1, 65535, 64, .nextTick, [2]⟩
  | .defectFecdThreshold => ⟨"device.line#.defect.fecd_threshold", true, .u 16, 1, 65535, 32, .nextTick, [2]⟩
  | .defectFecdExitTicks => ⟨"device.line#.defect.fecd_exit_ticks", true, .u 32, 1, 781250, 7813, .nextTick, [2]⟩
  | .defectFecdAction => ⟨"device.line#.defect.fecd_action", true, .u 8, 0, 1, 0, .nextTick, [2]⟩
  | .defectTimAction => ⟨"device.line#.defect.tim_action", true, .u 8, 0, 1, 0, .nextTick, [2]⟩
  | .defectTimMode => ⟨"device.line#.defect.tim_mode", true, .u 8, 0, 1, 0, .nextTick, [2]⟩
  | .slotDefect => ⟨"device.line#.slot[#].defect", false, .u 16, 0, 65535, 0, .none, [2, 128]⟩
  | .slotDefectReported => ⟨"device.line#.slot[#].defect_reported", false, .u 16, 0, 65535, 0, .none, [2, 128]⟩
  | .grpDefect => ⟨"device.client.group[#].defect", false, .u 16, 0, 65535, 0, .none, [512]⟩
  | .grpDefectReported => ⟨"device.client.group[#].defect_reported", false, .u 16, 0, 65535, 0, .none, [512]⟩
  | .chAction => ⟨"device.client.channel[#].action", false, .u 8, 0, 255, 0, .none, [4096]⟩
  | .chLfOnAction => ⟨"device.client.channel[#].lf_on_action", true, .u 8, 0, 1, 1, .nextTick, [4096]⟩
  | .chFaultSource => ⟨"device.client.channel[#].fault_source", true, .u 8, 0, 255, 255, .nextTick, [4096]⟩
  | .clientCifExitTicks => ⟨"device.client.cif_exit_ticks", true, .u 16, 1, 1024, 8, .nextTick, []⟩
  | .linePmDefectTicks => ⟨"device.line#.pm.defect_ticks[#]", false, .u 32, 0, 4294967295, 0, .nextSecond, [2, 9]⟩
  | .linePmDefectEntries => ⟨"device.line#.pm.defect_entries[#]", false, .u 32, 0, 4294967295, 0, .nextSecond, [2, 9]⟩
  | .linePmBdiRxTicks => ⟨"device.line#.pm.bdi_rx_ticks", false, .u 32, 0, 4294967295, 0, .nextSecond, [2]⟩
  | .linePmReplacedTicks => ⟨"device.line#.pm.replaced_ticks", false, .u 32, 0, 4294967295, 0, .nextSecond, [2]⟩
  | .slotPmAisTicks => ⟨"device.line#.slot[#].pm.ais_ticks", false, .u 32, 0, 4294967295, 0, .nextSecond, [2, 128]⟩
  | .slotPmAisEntries => ⟨"device.line#.slot[#].pm.ais_entries", false, .u 32, 0, 4294967295, 0, .nextSecond, [2, 128]⟩
  | .slotPmPlmTicks => ⟨"device.line#.slot[#].pm.plm_ticks", false, .u 32, 0, 4294967295, 0, .nextSecond, [2, 128]⟩
  | .slotPmReplacedTicks => ⟨"device.line#.slot[#].pm.replaced_ticks", false, .u 32, 0, 4294967295, 0, .nextSecond, [2, 128]⟩
  | .grpPmGskewTicks => ⟨"device.client.group[#].pm.gskew_ticks", false, .u 32, 0, 4294967295, 0, .nextSecond, [512]⟩
  | .grpPmGskewEntries => ⟨"device.client.group[#].pm.gskew_entries", false, .u 32, 0, 4294967295, 0, .nextSecond, [512]⟩
  | .grpPmL2cActionTicks => ⟨"device.client.group[#].pm.l2c_action_ticks", false, .u 32, 0, 4294967295, 0, .nextSecond, [512]⟩
  | .grpPmC2lActionTicks => ⟨"device.client.group[#].pm.c2l_action_ticks", false, .u 32, 0, 4294967295, 0, .nextSecond, [512]⟩
  | .chPmL2cActionTicks => ⟨"device.client.channel[#].pm.l2c_action_ticks", false, .u 32, 0, 4294967295, 0, .nextSecond, [4096]⟩
  | .chPmC2lActionTicks => ⟨"device.client.channel[#].pm.c2l_action_ticks", false, .u 32, 0, 4294967295, 0, .nextSecond, [4096]⟩
  | .pmSequence => ⟨"device.house.pm.sequence", false, .u 32, 0, 4294967295, 0, .none, []⟩
  | .pmLatchTick => ⟨"device.house.pm.latch_tick", false, .u 64, 0, (2 ^ 64 - 1), 0, .none, []⟩
  | .pmTaiS => ⟨"device.house.pm.tai_s", false, .u 64, 0, (2 ^ 64 - 1), 0, .none, []⟩
  | .chGroup => ⟨"device.client.channel[#].group", true, .u 16, 0, 65535, 65535, .nextTick, [4096]⟩
  | .chClass => ⟨"device.client.channel[#].class", true, .u 8, 1, 4, 4, .nextTick, [4096]⟩
  | .chCommittedMbps => ⟨"device.client.channel[#].committed_mbps", true, .u 32, 0, 800000, 0, .nextTick, [4096]⟩
  | .chBurstBytes => ⟨"device.client.channel[#].burst_bytes", true, .u 32, 9736, 1048576, 65536, .nextTick, [4096]⟩
  | .chLatencyBoundTicks => ⟨"device.client.channel[#].latency_bound_ticks", true, .u 8, 1, 64, 8, .nextTick, [4096]⟩
  | .chLateAction => ⟨"device.client.channel[#].late_action", true, .u 8, 0, 1, 0, .nextTick, [4096]⟩
  | .chTieRank => ⟨"device.client.channel[#].tie_rank", true, .u 8, 0, 255, 128, .nextTick, [4096]⟩
  | .chEgressIf => ⟨"device.client.channel[#].egress_if", true, .u 8, 0, 255, 255, .nextTick, [4096]⟩
  | .chGuarantee => ⟨"device.client.channel[#].guarantee", false, .u 8, 0, 255, 0, .none, [4096]⟩
  | .chPmShedTicks => ⟨"device.client.channel[#].pm.shed_ticks", false, .u 32, 0, 4294967295, 0, .nextSecond, [4096]⟩
  | .chPmBrokenTicks => ⟨"device.client.channel[#].pm.broken_ticks", false, .u 32, 0, 4294967295, 0, .nextSecond, [4096]⟩
  | .chPmLatePackets => ⟨"device.client.channel[#].pm.late_packets", false, .u 32, 0, 4294967295, 0, .nextSecond, [4096]⟩
  | .chPmRefusedPackets => ⟨"device.client.channel[#].pm.refused_packets", false, .u 32, 0, 4294967295, 0, .nextSecond, [4096]⟩
  | .chPmUnmappedDiscards => ⟨"device.client.channel[#].pm.unmapped_discards", false, .u 32, 0, 4294967295, 0, .nextSecond, [4096]⟩
  | .grpAutoResize => ⟨"device.client.group[#].auto_resize", true, .u 8, 0, 1, 1, .nextTick, [512]⟩
  | .grpShrinkHoldTicks => ⟨"device.client.group[#].shrink_hold_ticks", true, .u 16, 1, 1024, 4, .nextTick, [512]⟩
  | .grpRestoreTicks => ⟨"device.client.group[#].restore_ticks", true, .u 32, 1, 7812500, 781250, .nextTick, [512]⟩
  | .grpCfgMembers => ⟨"device.client.group[#].cfg_members", false, .u 16, 0, 65535, 0, .none, [512]⟩
  | .grpTxMembers => ⟨"device.client.group[#].tx_members", false, .u 16, 0, 65535, 0, .none, [512]⟩
  | .grpRxMembers => ⟨"device.client.group[#].rx_members", false, .u 16, 0, 65535, 0, .none, [512]⟩
  | .grpTxActive => ⟨"device.client.group[#].tx_active", false, .bytes 32, 0, (2 ^ 256 - 1), 0, .none, [512]⟩
  | .grpRxActive => ⟨"device.client.group[#].rx_active", false, .bytes 32, 0, (2 ^ 256 - 1), 0, .none, [512]⟩
  | .grpHeld => ⟨"device.client.group[#].held", false, .bytes 32, 0, (2 ^ 256 - 1), 0, .none, [512]⟩
  | .grpCapacityMbps => ⟨"device.client.group[#].capacity_mbps", false, .u 32, 0, 4294967295, 0, .none, [512]⟩
  | .grpCommittedMbps => ⟨"device.client.group[#].committed_mbps", false, .u 32, 0, 4294967295, 0, .none, [512]⟩
  | .grpSkewClocks => ⟨"device.client.group[#].skew_clocks", false, .u 16, 0, 65535, 0, .none, [512]⟩
  | .grpPmResizes => ⟨"device.client.group[#].pm.resizes", false, .u 32, 0, 4294967295, 0, .nextSecond, [512]⟩
  | .grpPmResizeHits => ⟨"device.client.group[#].pm.resize_hits", false, .u 32, 0, 4294967295, 0, .nextSecond, [512]⟩
  | .grpPmDelinDiscardBytes => ⟨"device.client.group[#].pm.delin_discard_bytes", false, .u 32, 0, 4294967295, 0, .nextSecond, [512]⟩
  | .grpPmUnknownChannelPackets => ⟨"device.client.group[#].pm.unknown_channel_packets", false, .u 32, 0, 4294967295, 0, .nextSecond, [512]⟩
  | .grpPmSkewClocksMax => ⟨"device.client.group[#].pm.skew_clocks_max", false, .u 32, 0, 4294967295, 0, .nextSecond, [512]⟩
  | .laneState => ⟨"device.client.lane[#].state", false, .u 8, 0, 255, 0, .none, [64]⟩
  | .laneIfType => ⟨"device.client.lane[#].if_type", true, .u 8, 0, 2, 0, .nextTick, [64]⟩
  | .laneIfFirst => ⟨"device.client.lane[#].if_first", false, .u 8, 0, 255, 255, .none, [64]⟩
  | .laneDormant => ⟨"device.client.lane[#].dormant", true, .u 8, 0, 1, 0, .nextTick, [64]⟩
  | .laneGeneration => ⟨"device.client.lane[#].generation", false, .u 32, 0, 4294967295, 0, .none, [64]⟩
  | .laneEqSource => ⟨"device.client.lane[#].eq_source", false, .u 8, 0, 255, 0, .none, [64]⟩
  | .laneCtleCode => ⟨"device.client.lane[#].ctle_code", false, .u 8, 0, 255, 0, .none, [64]⟩
  | .laneAutoSweep => ⟨"device.client.lane[#].auto_sweep", true, .u 8, 0, 1, 1, .nextTick, [64]⟩
  | .laneSweepWriteback => ⟨"device.client.lane[#].sweep_writeback", true, .u 8, 0, 1, 0, .nextTick, [64]⟩
  | .laneRelocks => ⟨"device.client.lane[#].relocks", false, .u 32, 0, 4294967295, 0, .none, [64]⟩
  | .laneIfRxPackets => ⟨"device.client.lane[#].if.rx_packets", false, .u 64, 0, (2 ^ 64 - 1), 0, .nextSecond, [64]⟩
  | .laneIfTxPackets => ⟨"device.client.lane[#].if.tx_packets", false, .u 64, 0, (2 ^ 64 - 1), 0, .nextSecond, [64]⟩
  | .laneIfRxFcsErrors => ⟨"device.client.lane[#].if.rx_fcs_errors", false, .u 64, 0, (2 ^ 64 - 1), 0, .nextSecond, [64]⟩
  | .laneIfFecCorrectedCw => ⟨"device.client.lane[#].if.fec_corrected_cw", false, .u 64, 0, (2 ^ 64 - 1), 0, .nextSecond, [64]⟩
  | .laneIfFecUncorrectableCw => ⟨"device.client.lane[#].if.fec_uncorrectable_cw", false, .u 64, 0, (2 ^ 64 - 1), 0, .nextSecond, [64]⟩
  | .laneIfFecSymbolErrors => ⟨"device.client.lane[#].if.fec_symbol_errors", false, .u 64, 0, (2 ^ 64 - 1), 0, .nextSecond, [64]⟩
  | .chTsCapture => ⟨"device.client.channel[#].ts_capture", true, .u 8, 0, 1, 0, .nextTick, [4096]⟩
  | .chPmDormantDiscards => ⟨"device.client.channel[#].pm.dormant_discards", false, .u 32, 0, 4294967295, 0, .nextSecond, [4096]⟩
  | .clientTsOverflows => ⟨"device.client.ts.overflows", false, .u 32, 0, 4294967295, 0, .none, []⟩
  | .clientTsQueued => ⟨"device.client.ts.queued", false, .bytes 4, 0, 4294967295, 0, .none, []⟩
  | .lineTsRxPlanePs => ⟨"device.line#.ts.rx_plane_ps", false, .u 32, 0, 4294967295, 1200000, .none, [2]⟩
  | .timRefSourceLane => ⟨"device.timing.ref[#].source_lane", true, .u 8, 0, 255, 255, .nextTick, [14]⟩
  | .memDdrState => ⟨"device.memory.ddr[#].state", false, .u 8, 0, 255, 0, .none, [2]⟩
  | .memDdrFailedDevice => ⟨"device.memory.ddr[#].failed_device", true, .u 8, 255, 255, 255, .immediately, [2]⟩
  | .memDdrCorrected => ⟨"device.memory.ddr[#].corrected", false, .u 64, 0, (2 ^ 64 - 1), 0, .nextSecond, [2]⟩
  | .memDdrUncorrectable => ⟨"device.memory.ddr[#].uncorrectable", false, .u 64, 0, (2 ^ 64 - 1), 0, .nextSecond, [2]⟩
  | .memDdrCrcRetries => ⟨"device.memory.ddr[#].crc_retries", false, .u 64, 0, (2 ^ 64 - 1), 0, .nextSecond, [2]⟩
  | .memDdrDeviceCorrected => ⟨"device.memory.ddr[#].device_corrected[#]", false, .u 64, 0, (2 ^ 64 - 1), 0, .nextSecond, [2, 10]⟩
  | .memChipkillThreshold => ⟨"device.memory.chipkill_threshold", true, .u 32, 1, 1000000, 1000, .nextSecond, []⟩
  | .memFilledBlocks => ⟨"device.memory.filled_blocks", false, .u 32, 0, 4294967295, 0, .none, []⟩
  | .memScrubPassS => ⟨"device.memory.scrub.pass_s", true, .u 32, 60, 86400, 3600, .nextTick, []⟩
  | .memScrubPasses => ⟨"device.memory.scrub.passes", false, .u 32, 0, 4294967295, 0, .none, []⟩
  | .memScrubPosition => ⟨"device.memory.scrub.position", false, .u 64, 0, (2 ^ 64 - 1), 0, .none, []⟩
  | .memFlowCommittedGen => ⟨"device.memory.flow.committed_gen", false, .u 8, 0, 255, 0, .none, []⟩
  | .memFlowSettlePending => ⟨"device.memory.flow.settle_pending", false, .u 8, 0, 255, 0, .none, []⟩
  | .memFlowLogged => ⟨"device.memory.flow.logged", false, .u 32, 0, 4294967295, 0, .none, []⟩
  | .memFlowSeed1 => ⟨"device.memory.flow.seed1", true, .u 32, 0, 4294967295, 4294967295, .onCommit, []⟩
  | .memFlowSeed2 => ⟨"device.memory.flow.seed2", true, .u 32, 0, 4294967295, 1515870810, .onCommit, []⟩
  | .memFlowDefaultAction => ⟨"device.memory.flow.default_action", true, .u 8, 0, 1, 0, .nextTick, []⟩
  | .memFlowDefaultChannel => ⟨"device.memory.flow.default_channel", true, .u 16, 0, 4095, 0, .nextTick, []⟩
  | .memFlowHits => ⟨"device.memory.flow.hits", false, .u 64, 0, (2 ^ 64 - 1), 0, .nextSecond, []⟩
  | .memFlowMissReads => ⟨"device.memory.flow.miss_reads", false, .u 64, 0, (2 ^ 64 - 1), 0, .nextSecond, []⟩
  | .memFlowSecondProbes => ⟨"device.memory.flow.second_probes", false, .u 64, 0, (2 ^ 64 - 1), 0, .nextSecond, []⟩
  | .memFlowNoMatch => ⟨"device.memory.flow.no_match", false, .u 64, 0, (2 ^ 64 - 1), 0, .nextSecond, []⟩
  | .memFlowPoisonDiscards => ⟨"device.memory.flow.poison_discards", false, .u 64, 0, (2 ^ 64 - 1), 0, .nextSecond, []⟩
  | .memFlowMissOverruns => ⟨"device.memory.flow.miss_overruns", false, .u 64, 0, (2 ^ 64 - 1), 0, .nextSecond, []⟩
  | .memFlowWbStalls => ⟨"device.memory.flow.wb_stalls", false, .u 64, 0, (2 ^ 64 - 1), 0, .nextSecond, []⟩
  | .laneIfKeyEnable => ⟨"device.client.lane[#].if.key_enable", true, .u 8, 0, 255, 14, .nextTick, [64]⟩
  | .cipCogsInService => ⟨"device.security.cipher.cogs_in_service", false, .bytes 12, 0, (2 ^ 96 - 1), 0, .none, []⟩
  | .cipSuspendMinBlocks => ⟨"device.security.cipher.suspend_min_blocks", true, .u 16, 16, 1024, 32, .nextTick, []⟩
  | .cipDemandMax => ⟨"device.security.cipher.demand_max", false, .u 32, 0, 4294967295, 0, .nextSecond, []⟩
  | .cipRecords => ⟨"device.security.cipher.records[#]", false, .u 64, 0, (2 ^ 64 - 1), 0, .nextSecond, [13]⟩
  | .cipLatePackets => ⟨"device.security.cipher.late_packets", false, .u 64, 0, (2 ^ 64 - 1), 0, .nextSecond, []⟩
  | .cipSuspensions => ⟨"device.security.cipher.suspensions", false, .u 64, 0, (2 ^ 64 - 1), 0, .nextSecond, []⟩
  | .cipSteals => ⟨"device.security.cipher.steals", false, .u 64, 0, (2 ^ 64 - 1), 0, .nextSecond, []⟩
  | .cipSaLoads => ⟨"device.security.cipher.sa_loads", false, .u 64, 0, (2 ^ 64 - 1), 0, .nextSecond, []⟩
  | .cipSaMissPackets => ⟨"device.security.cipher.sa_miss_packets", false, .u 64, 0, (2 ^ 64 - 1), 0, .nextSecond, []⟩
  | .cipResidentEncrypt => ⟨"device.security.cipher.resident_encrypt", false, .u 16, 0, 65535, 0, .none, []⟩
  | .cipResidentPinned => ⟨"device.security.cipher.resident_pinned", false, .u 16, 0, 65535, 0, .none, []⟩
  | .cipResidentCached => ⟨"device.security.cipher.resident_cached", false, .u 16, 0, 65535, 0, .none, []⟩
  | .cipRecordQueued => ⟨"device.security.cipher.record_queued", false, .u 16, 0, 65535, 0, .none, []⟩
  | .cipRecordOverflows => ⟨"device.security.cipher.record_overflows", false, .u 32, 0, 4294967295, 0, .none, []⟩
  | .cipEntropyState => ⟨"device.security.cipher.entropy_state", false, .u 8, 0, 255, 0, .none, []⟩
  | .cipLastResetAborts => ⟨"device.security.cipher.last_reset_aborts", false, .u 32, 0, 4294967295, 0, .none, []⟩
  | .chPmCipherOk => ⟨"device.client.channel[#].pm.cipher_ok", false, .u 32, 0, 4294967295, 0, .nextSecond, [4096]⟩
  | .chPmCipherLate => ⟨"device.client.channel[#].pm.cipher_late", false, .u 32, 0, 4294967295, 0, .nextSecond, [4096]⟩
  | .chPmCipherFailed => ⟨"device.client.channel[#].pm.cipher_failed", false, .u 32, 0, 4294967295, 0, .nextSecond, [4096]⟩
  | .secRootState => ⟨"device.security.root[#].state", false, .u 8, 0, 255, 0, .none, [16]⟩
  | .secRootKcv => ⟨"device.security.root[#].kcv", false, .u 32, 0, 4294967295, 0, .none, [16]⟩
  | .secKeySlotKcv => ⟨"device.security.key_slot[#].kcv", false, .u 32, 0, 4294967295, 0, .none, [8192]⟩
  | .secKeySlotState => ⟨"device.security.key_slot[#].state", false, .u 8, 0, 255, 0, .none, [8192]⟩
  | .secPkSlotState => ⟨"device.security.pk_slot[#].state", false, .u 8, 0, 255, 0, .none, [8]⟩
  | .secPkSlotPublic => ⟨"device.security.pk_slot[#].public", false, .bytes 96, 0, (2 ^ 768 - 1), 0, .none, [8]⟩
  | .secPkQueued => ⟨"device.security.pk.queued", false, .u 8, 0, 255, 0, .none, []⟩
  | .secCtxSweepPending => ⟨"device.security.ctx_sweep_pending", false, .u 8, 0, 255, 0, .none, []⟩
  | .secTamperPolicy => ⟨"device.security.tamper.policy[#]", false, .u 8, 0, 255, 0, .none, [6]⟩
  | .secTamperPolicySealed => ⟨"device.security.tamper.policy_sealed", false, .u 8, 0, 255, 0, .none, []⟩
  | .secTamperLocked => ⟨"device.security.tamper.locked", false, .u 8, 0, 255, 0, .none, []⟩
  | .secTamperFirstSealed => ⟨"device.security.tamper.first_sealed", false, .u 8, 0, 255, 0, .none, []⟩
  | .secTamperLatch => ⟨"device.security.tamper.latch", false, .u 8, 0, 255, 0, .none, []⟩
  | .secTamperPresent => ⟨"device.security.tamper.present", false, .u 8, 0, 255, 0, .none, []⟩
  | .secTamperFirst => ⟨"device.security.tamper.first", false, .u 8, 0, 255, 255, .none, []⟩
  | .secTamperFirstTick => ⟨"device.security.tamper.first_tick", false, .u 64, 0, (2 ^ 64 - 1), 0, .none, []⟩
  | .secTamperCount => ⟨"device.security.tamper.count[#]", false, .u 16, 0, 65535, 0, .none, [7]⟩
  | .timState => ⟨"device.timing.state", false, .u 8, 0, 255, 0, .none, []⟩
  | .timSelected => ⟨"device.timing.selected", false, .u 8, 0, 255, 255, .none, []⟩
  | .timSelectMode => ⟨"device.timing.select_mode", false, .u 8, 0, 255, 0, .none, []⟩
  | .timSelectRef => ⟨"device.timing.select_ref", false, .u 8, 0, 255, 0, .none, []⟩
  | .timOutputQl => ⟨"device.timing.output_ql", false, .u 8, 0, 255, 15, .none, []⟩
  | .timLocalQl => ⟨"device.timing.local_ql", true, .u 8, 2, 11, 11, .nextTick, []⟩
  | .timRevertive => ⟨"device.timing.revertive", true, .u 8, 0, 1, 0, .nextTick, []⟩
  | .timHoldOffMs => ⟨"device.timing.hold_off_ms", true, .u 16, 0, 10000, 300, .nextTick, []⟩
  | .timWtrS => ⟨"device.timing.wtr_s", true, .u 16, 0, 3600, 300, .nextTick, []⟩
  | .timPullInSlopeNsS => ⟨"device.timing.pull_in_slope_ns_s", true, .u 16, 1, 1000, 10, .nextTick, []⟩
  | .timLoopBw => ⟨"device.timing.loop_bw", true, .u 8, 0, 3, 2, .nextTick, []⟩
  | .timFreqWindowPpb => ⟨"device.timing.freq_window_ppb", true, .u 32, 100, 100000, 12000, .nextTick, []⟩
  | .timFreqOffsetPpt => ⟨"device.timing.freq_offset_ppt", false, .s 64, (-9223372036854775808), (2 ^ 63 - 1), 0, .none, []⟩
  | .timPhaseErrorPs => ⟨"device.timing.phase_error_ps", false, .s 64, (-9223372036854775808), (2 ^ 63 - 1), 0, .none, []⟩
  | .timHostFreqPpt => ⟨"device.timing.host_freq_ppt", true, .s 32, (-10000000), 10000000, 0, .nextTick, []⟩
  | .timSwitches => ⟨"device.timing.switches", false, .u 32, 0, 4294967295, 0, .none, []⟩
  | .timRefPriority => ⟨"device.timing.ref[#].priority", true, .u 8, 0, 255, 0, .nextTick, [14]⟩
  | .timRefQlOverride => ⟨"device.timing.ref[#].ql_override", true, .u 8, 0, 255, 255, .nextTick, [14]⟩
  | .timRefQl => ⟨"device.timing.ref[#].ql", false, .u 8, 0, 255, 255, .none, [14]⟩
  | .timRefStatus => ⟨"device.timing.ref[#].status", false, .u 8, 0, 255, 0, .none, [14]⟩
  | .timRefType => ⟨"device.timing.ref[#].type", true, .u 8, 0, 1, 0, .nextTick, [14]⟩
  | .timRefFreqHz => ⟨"device.timing.ref[#].freq_hz", true, .u 32, 8000, 200000000, 10000000, .nextTick, [14]⟩
  | .timRefDelayPs => ⟨"device.timing.ref[#].delay_ps", true, .s 32, (-100000000), 100000000, 0, .nextTick, [14]⟩
  | .timRefPhaseOffsetPs => ⟨"device.timing.ref[#].phase_offset_ps", false, .s 64, (-9223372036854775808), (2 ^ 63 - 1), 0, .none, [14]⟩
  | .timRefFreqOffsetPpb => ⟨"device.timing.ref[#].freq_offset_ppb", false, .s 32, (-2147483648), 2147483647, 0, .none, [14]⟩
  | .timRefFailures => ⟨"device.timing.ref[#].failures", false, .u 32, 0, 4294967295, 0, .none, [14]⟩
  | .timHoldoverValid => ⟨"device.timing.holdover.valid", false, .u 8, 0, 255, 0, .none, []⟩
  | .timHoldoverTempValid => ⟨"device.timing.holdover.temp_valid", false, .u 8, 0, 255, 0, .none, []⟩
  | .timHoldoverSns => ⟨"device.timing.holdover.sns", true, .u 8, 0, 255, 255, .nextSecond, []⟩
  | .timHoldoverAvgS => ⟨"device.timing.holdover.avg_s", true, .u 16, 1, 3600, 60, .nextSecond, []⟩
  | .timHoldoverLearnS => ⟨"device.timing.holdover.learn_s", true, .u 32, 60, 86400, 300, .nextSecond, []⟩
  | .timHoldoverAgeDays => ⟨"device.timing.holdover.age_days", true, .u 8, 2, 30, 7, .nextSecond, []⟩
  | .timHoldoverAgeingPptDay => ⟨"device.timing.holdover.ageing_ppt_day", false, .s 32, (-2147483648), 2147483647, 0, .none, []⟩
  | .timHoldoverTempMc => ⟨"device.timing.holdover.temp_mc", false, .s 32, (-2147483648), 2147483647, 0, .nextSecond, []⟩
  | .timTimeValid => ⟨"device.timing.time.valid", false, .u 8, 0, 255, 0, .none, []⟩
  | .timTimeUtcOffsetS => ⟨"device.timing.time.utc_offset_s", true, .s 16, 0, 255, 37, .nextSecond, []⟩
  | .timTimeLeapPending => ⟨"device.timing.time.leap_pending", true, .u 8, 0, 1, 0, .nextSecond, []⟩
  | .timClkOutFreq => ⟨"device.timing.clk_out[#].freq", true, .u 8, 0, 255, 6, .nextTick, [4]⟩
  | .timClkOutSquelchQl => ⟨"device.timing.clk_out[#].squelch_ql", true, .u 8, 0, 255, 255, .nextTick, [4]⟩
  | .timPulseOutType => ⟨"device.timing.pulse_out[#].type", false, .u 8, 0, 255, 0, .none, [2]⟩
  | .timPulseOutPeriodTicks => ⟨"device.timing.pulse_out[#].period_ticks", false, .u 32, 0, 4294967295, 1, .none, [2]⟩
  | .timPulseOutWidthNs => ⟨"device.timing.pulse_out[#].width_ns", false, .u 32, 0, 4294967295, 100000000, .none, [2]⟩
  | .timPulseOutOffsetPs => ⟨"device.timing.pulse_out[#].offset_ps", false, .s 64, (-9223372036854775808), (2 ^ 63 - 1), 0, .nextSecond, [2]⟩
  | .laneIfEsmcTx => ⟨"device.client.lane[#].if.esmc_tx", true, .u 8, 0, 1, 0, .nextTick, [64]⟩
  | .laneIfEsmcMac => ⟨"device.client.lane[#].if.esmc_mac", true, .bytes 6, 0, (2 ^ 48 - 1), 0, .nextTick, [64]⟩
  | .laneIfEsmcRx => ⟨"device.client.lane[#].if.esmc_rx", false, .u 32, 0, 4294967295, 0, .none, [64]⟩
  | .laneIfEsmcBad => ⟨"device.client.lane[#].if.esmc_bad", false, .u 32, 0, 4294967295, 0, .none, [64]⟩
  | .laneIfEsmcTimeouts => ⟨"device.client.lane[#].if.esmc_timeouts", false, .u 32, 0, 4294967295, 0, .none, [64]⟩
  | .snsEnable => ⟨"device.house.sns[#].enable", true, .u 8, 0, 1, 0, .nextConversion, [12]⟩
  | .snsRefPin => ⟨"device.house.sns[#].ref_pin", true, .u 8, 0, 11, 11, .nextConversion, [12]⟩
  | .snsCurrentUa => ⟨"device.house.sns[#].current_ua", true, .u 16, 10, 1000, 100, .nextConversion, [12]⟩
  | .snsSettleUs => ⟨"device.house.sns[#].settle_us", true, .u 16, 10, 10000, 100, .nextConversion, [12]⟩
  | .snsConvMs => ⟨"device.house.sns[#].conv_ms", true, .u 16, 1, 1000, 10, .nextConversion, [12]⟩
  | .snsChop => ⟨"device.house.sns[#].chop", true, .u 8, 0, 1, 1, .nextConversion, [12]⟩
  | .snsRaw => ⟨"device.house.sns[#].raw", false, .u 32, 0, 4294967295, 0, .none, [12]⟩
  | .snsRawTick => ⟨"device.house.sns[#].raw_tick", false, .u 64, 0, (2 ^ 64 - 1), 0, .none, [12]⟩
  | .snsStatus => ⟨"device.house.sns[#].status", false, .u 8, 0, 255, 0, .none, [12]⟩
  | .snsShorted => ⟨"device.house.sns[#].shorted", false, .u 8, 0, 255, 0, .none, [12]⟩
  | .bezelMode => ⟨"device.house.bezel.mode", true, .u 8, 0, 2, 0, .nextSequence, []⟩
  | .bezelOverruns => ⟨"device.house.bezel.overruns", false, .u 32, 0, 4294967295, 0, .none, []⟩
  | .bezelSnsoutSrc => ⟨"device.house.bezel.snsout_src", true, .u 8, 0, 11, 0, .nextPeriod, []⟩
  | .bezelSnsoutMode => ⟨"device.house.bezel.snsout_mode", true, .u 8, 0, 2, 0, .nextPeriod, []⟩
  | .bezelSnsoutPeriodUs => ⟨"device.house.bezel.snsout_period_us", true, .u 16, 100, 10000, 1000, .nextPeriod, []⟩
  | .hkRefMv => ⟨"device.house.hk.ref_mv[#]", false, .u 16, 0, 65535, 0, .none, [4]⟩
  | .hkVinMv => ⟨"device.house.hk.vin_mv", false, .u 16, 0, 65535, 0, .none, []⟩
  | .hkV18Mv => ⟨"device.house.hk.v18_mv", false, .u 16, 0, 65535, 0, .none, []⟩
  | .hkSiteC => ⟨"device.house.hk.site_c[#]", false, .s 16, (-32768), 32767, 0, .none, [24]⟩
  | .hkSnapshot => ⟨"device.house.hk.snapshot", false, .bytes 96, 0, (2 ^ 768 - 1), 0, .none, []⟩
  | .hkOverruns => ⟨"device.house.hk.overruns", false, .u 32, 0, 4294967295, 0, .none, []⟩
  | .pinsFault => ⟨"device.house.pins.fault", false, .u 32, 0, 4294967295, 0, .none, []⟩
  | .pinsCause => ⟨"device.house.pins.cause[#]", false, .u 8, 0, 255, 255, .none, [15]⟩
  | .pinsRetries => ⟨"device.house.pins.retries[#]", false, .u 32, 0, 4294967295, 0, .none, [15]⟩
  | .pinsOpcSkipped => ⟨"device.house.pins.opc_skipped", false, .u 32, 0, 4294967295, 0, .none, []⟩
  | .tarnishEnable => ⟨"device.house.tarnish.enable", true, .u 8, 0, 1, 1, .nextSecond, []⟩
  | .tarnishNextPlanS => ⟨"device.house.tarnish.next_plan_s", false, .u 32, 0, 4294967295, 0, .none, []⟩
  | .tarnishLowSteps => ⟨"device.house.tarnish.low_steps", true, .u 8, 0, 6, 1, .nextPlan, []⟩
  | .tarnishPlansSkipped => ⟨"device.house.tarnish.plans_skipped", false, .u 32, 0, 4294967295, 0, .none, []⟩
  | .tarnishDomainMarginNow => ⟨"device.house.tarnish.domain[#].margin_now", false, .s 16, (-32768), 32767, (-32768), .nextSecond, [12]⟩
  | .tarnishDomainMarginSpread => ⟨"device.house.tarnish.domain[#].margin_spread", false, .u 16, 0, 65535, 0, .nextSecond, [12]⟩
  | .tarnishDomainGuard => ⟨"device.house.tarnish.domain[#].guard", true, .u 16, 100, 1000, 0, .nextPlan, [12]⟩
  | .tarnishDomainGainPerStep => ⟨"device.house.tarnish.domain[#].gain_per_step", false, .u 16, 0, 65535, 0, .none, [12]⟩
  | .tarnishDomainOffset => ⟨"device.house.tarnish.domain[#].offset", false, .s 8, (-128), 127, 0, .none, [12]⟩
  | .tarnishDomainMarginMin => ⟨"device.house.tarnish.domain[#].margin_min", false, .s 16, (-32768), 32767, (-32768), .nextSecond, [12]⟩
  | .tarnishDomainRemainingSteps => ⟨"device.house.tarnish.domain[#].remaining_steps", false, .u 8, 0, 255, 0, .none, [12]⟩
  | .tarnishDomainProjectedDays => ⟨"device.house.tarnish.domain[#].projected_days", false, .u 32, 0, 4294967295, 4294967295, .none, [12]⟩
  | .tarnishDomainExhaustedPlans => ⟨"device.house.tarnish.domain[#].exhausted_plans", false, .u 16, 0, 65535, 0, .none, [12]⟩
  | .perfCtrEvent => ⟨"device.house.perf.ctr[#].event", true, .u 16, 0, 4095, 0, .nextTick, [256]⟩
  | .perfCtrInstance => ⟨"device.house.perf.ctr[#].instance", true, .u 16, 0, 65535, 0, .nextTick, [256]⟩
  | .perfCtrThreshold => ⟨"device.house.perf.ctr[#].threshold", true, .u 32, 0, 4294967295, 0, .nextTick, [256]⟩
  | .perfCtrValue => ⟨"device.house.perf.ctr[#].value", false, .u 64, 0, (2 ^ 64 - 1), 0, .none, [256]⟩
  | .perfCtrSnap => ⟨"device.house.perf.ctr[#].snap", false, .u 64, 0, (2 ^ 64 - 1), 0, .none, [256]⟩
  | .mrNoiseFloorDbfs => ⟨"device.line#.millrace.noise_floor_dbfs", false, .s 16, (-32768), 32767, (-32768), .none, [2]⟩
  | .mrNoiseFloorDbfsS => ⟨"device.line#.millrace.noise_floor_dbfs_s", false, .s 16, (-32768), 32767, (-32768), .none, [2]⟩
  | .mrSailNoiseFloorDbfs => ⟨"device.line#.millrace.sail[#].noise_floor_dbfs", false, .s 16, (-32768), 32767, (-32768), .none, [2, 16]⟩
  | .mrSailSnrDb => ⟨"device.line#.millrace.sail[#].snr_db", false, .u 16, 0, 65535, 65535, .none, [2, 16]⟩
  | .mrSailSnrDbS => ⟨"device.line#.millrace.sail[#].snr_db_s", false, .u 16, 0, 65535, 65535, .none, [2, 16]⟩
  | .mrSailSnrDbMinS => ⟨"device.line#.millrace.sail[#].snr_db_min_s", false, .u 16, 0, 65535, 65535, .none, [2, 16]⟩
  | .mrResidualCdPsNm => ⟨"device.line#.millrace.residual_cd_ps_nm", false, .s 32, (-2147483648), 2147483647, (-2147483648), .none, [2]⟩
  | .mrResidualCdPsNmS => ⟨"device.line#.millrace.residual_cd_ps_nm_s", false, .s 32, (-2147483648), 2147483647, (-2147483648), .none, [2]⟩
  | .mrDgdPs => ⟨"device.line#.millrace.dgd_ps", false, .u 16, 0, 65535, 65535, .none, [2]⟩
  | .mrDgdPsMaxS => ⟨"device.line#.millrace.dgd_ps_max_s", false, .u 16, 0, 65535, 65535, .none, [2]⟩
  | .mrPolRateKradS => ⟨"device.line#.millrace.pol_rate_krad_s", false, .u 32, 0, 4294967295, 4294967295, .none, [2]⟩
  | .mrPolRateKradSMaxS => ⟨"device.line#.millrace.pol_rate_krad_s_max_s", false, .u 32, 0, 4294967295, 4294967295, .none, [2]⟩
  | .mrCfoKhz => ⟨"device.line#.millrace.cfo_khz", false, .s 32, (-2147483648), 2147483647, (-2147483648), .none, [2]⟩
  | .mrCfoKhzS => ⟨"device.line#.millrace.cfo_khz_s", false, .s 32, (-2147483648), 2147483647, (-2147483648), .none, [2]⟩
  | .identityOrderingCode => ⟨"device.house.identity.ordering_code", false, .bytes 9, 0, (2 ^ 72 - 1), 0, .none, []⟩
  | .firmwareSyentRelease => ⟨"device.house.firmware.syent_release", false, .u 16, 0, 65535, 516, .none, []⟩
  | .secFusedOff => ⟨"device.security.fused_off", false, .u 8, 0, 255, 0, .none, []⟩
  | .chGateDiscards => ⟨"device.client.channel[#].gate_discards", false, .u 32, 0, 4294967295, 0, .none, [4096]⟩

/-- Every attribute, in the order of the tables. -/
def Attr.all : List Attr := (List.range 445).map Attr.ofNat

end Sys2Proof
end

