-- ==== Sys2Proof/Machine/Bits.lean ====
section
/-!
DEFINITION. Sys2Proof/Machine/Bits.lean: sparse tables, sorted sets of numbers, little-endian byte strings (R15), check
words, and the plain arithmetic that several chapters share.
-/
namespace Sys2Proof

/-! ### Sparse tables -/

/-- The value at a number: the listed one, or `d`. -/
def Tab.get {β : Type} (d : β) : Tab β → Nat → β
  | [], _ => d
  | (k, v) :: t, n => if n = k then v else Tab.get d t n

/-- The table without an entry for `n`. -/
def Tab.erase {β : Type} : Tab β → Nat → Tab β
  | [], _ => []
  | (k, v) :: t, n => if n = k then Tab.erase t n else (k, v) :: Tab.erase t n

/-- The table with the entry for `n` placed in order. -/
def Tab.ins {β : Type} : Tab β → Nat → β → Tab β
  | [], n, v => [(n, v)]
  | (k, w) :: t, n, v =>
    if n < k then (n, v) :: (k, w) :: t else if n = k then (n, v) :: t else (k, w) :: Tab.ins t n v

/-- Writes `v` at `n`; writing the value an unlisted number has removes the entry. -/
def Tab.put {β : Type} [DecidableEq β] (d : β) (t : Tab β) (n : Nat) (v : β) : Tab β :=
  if v = d then Tab.erase t n else Tab.ins t n v

/-- Replaces the value at `n` by `f` of it. -/
def Tab.upd {β : Type} [DecidableEq β] (d : β) (t : Tab β) (n : Nat) (f : β → β) : Tab β :=
  Tab.put d t n (f (Tab.get d t n))

/-- Every number of the table is above `b`, and the numbers rise. -/
def Tab.above {β : Type} : Nat → Tab β → Bool
  | _, [] => true
  | b, (k, _) :: t => decide (b < k) && Tab.above k t

/-- The canonical form: numbers strictly rising, no listed value equal to the unlisted one. -/
def Tab.wf {β : Type} [DecidableEq β] (d : β) : Tab β → Bool
  | [] => true
  | (k, v) :: t => Tab.above k t && ((k, v) :: t).all (fun p => decide (p.2 ≠ d))

/-- Applies `f` to each listed value, dropping those that become `d`. -/
def Tab.mapVals {β : Type} [DecidableEq β] (d : β) (t : Tab β) (f : Nat → β → β) : Tab β :=
  t.filterMap (fun p => if f p.1 p.2 = d then none else some (p.1, f p.1 p.2))

/-! ### Sorted sets of numbers -/

/-- The set with `n` in it. -/
def nsIns : List Nat → Nat → List Nat
  | [], n => [n]
  | k :: t, n => if n < k then n :: k :: t else if n = k then k :: t else k :: nsIns t n

/-- The set with every member of the second. -/
def nsUnion (a b : List Nat) : List Nat := b.foldl nsIns a

/-- The set without the members of the second. -/
def nsDiff (a b : List Nat) : List Nat := a.filter (fun n => !b.contains n)

/-! ### Byte strings -/

/-- The `n` bytes of a number, least significant first (R15). -/
def leBytes : Nat → Nat → List Byte
  | 0, _ => []
  | n + 1, v => BitVec.ofNat 8 v :: leBytes n (v / 256)

/-- The number that little-endian bytes spell (R15). -/
def leNat : List Byte → Nat
  | [] => 0
  | b :: t => b.toNat + 256 * leNat t

/-- The number that big-endian bytes spell. -/
def beNat (l : List Byte) : Nat := leNat l.reverse

/-- The `n` bytes of a number, most significant first. -/
def beBytes (n v : Nat) : List Byte := (leBytes n v).reverse

/-- `n` bytes from offset `o`; bytes beyond the end read 0. -/
def bytesAt (l : List Byte) (o n : Nat) : List Byte :=
  let m := (l.drop o).take n
  m ++ List.replicate (n - m.length) 0

/-- The little-endian field of `n` bytes at offset `o`. -/
def fieldAt (l : List Byte) (o n : Nat) : Nat := leNat (bytesAt l o n)

/-- The field read as a signed number of `n` bytes. -/
def fieldInt (l : List Byte) (o n : Nat) : Int :=
  let v := fieldAt l o n
  if 2 * v < 256 ^ n then (v : Int) else (v : Int) - ((256 ^ n : Nat) : Int)

/-- A signed number in so many bytes. -/
def intBytes (n : Nat) (v : Int) : List Byte := leBytes n (v % 2 ^ (8 * n)).toNat

/-- The byte at an offset, 0 beyond the end. -/
def byteAt (l : List Byte) (o : Nat) : Byte := l.getD o 0

/-- The string with `d` laid over it from offset `o`. -/
def overlay (l : List Byte) (o : Nat) (d : List Byte) : List Byte :=
  l.take o ++ d ++ l.drop (o + d.length)

/-- Pads with zero bytes, or cuts, to `n` bytes. -/
def padTo (n : Nat) (l : List Byte) : List Byte := (l ++ List.replicate (n - l.length) 0).take n

/-- The bytes of an ASCII text. -/
def asciiBytes (t : String) : List Byte := t.toList.map (fun c => BitVec.ofNat 8 c.toNat)

/-- Cuts a list into pieces of `n`. The first argument bounds the number of pieces. -/
def chunks {α : Type} : Nat → Nat → List α → List (List α)
  | 0, _, _ => []
  | _, _, [] => []
  | k + 1, n, l => l.take n :: chunks k n (l.drop n)

/-! ### Numbers -/

/-- The least whole number at or above `a / b` (R21). -/
def ceilDiv (a b : Nat) : Nat := (a + b - 1) / b

/-- Milliseconds in whole ticks, rounded up (R21): a tick lasts 1.28 us (R7). -/
def msTicks (ms : Nat) : Nat := ceilDiv (ms * 1000000) 1280

/-- Microseconds in whole ticks, rounded up (R21). -/
def usTicks (us : Nat) : Nat := ceilDiv (us * 1000) 1280

/-- Seconds in whole ticks: 781,250 to the second. -/
def sTicks (t : Nat) : Nat := t * 781250

/-- A number held to `n` bits (R13). -/
def wrapU (n : Nat) (v : Int) : Int := v % ((2 ^ n : Nat) : Int)

/-- A number held to `n` bits in two's complement. -/
def wrapS (n : Nat) (v : Int) : Int :=
  let m := v % ((2 ^ n : Nat) : Int)
  if 2 * m < ((2 ^ n : Nat) : Int) then m else m - ((2 ^ n : Nat) : Int)

/-- `v` held between `lo` and `hi`. -/
def clampInt (lo hi v : Int) : Int := if v < lo then lo else if hi < v then hi else v

/-- Bit `i` of a number. -/
def bitOf (v i : Nat) : Bool := v / 2 ^ i % 2 = 1

/-- A Bool as 0 or 1. -/
def b01 (b : Bool) : Nat := if b then 1 else 0

/-- The number whose bit `i` is set for each `i` of the list. -/
def maskOf (l : List Nat) : Nat := l.foldl (fun m i => m ||| 2 ^ i) 0

/-- The positions of the set bits below `n`. -/
def bitsBelow (n v : Nat) : List Nat := (List.range n).filter (bitOf v)

/-- Division of signed numbers rounded to nearest, halves away from zero. -/
def roundDiv (a : Int) (b : Nat) : Int :=
  if b = 0 then 0
  else if 0 ≤ a then (2 * a + b) / (2 * b) else -((2 * (-a) + b) / (2 * b))

/-! ### Check words -/

/-- One bit of a reflected CRC shift. -/
def crcBit (poly : Nat) (c : Nat) : Nat := if c % 2 = 1 then (c / 2) ^^^ poly else c / 2

/-- One byte into a reflected CRC. -/
def crcByte (poly : Nat) (c : Nat) (b : Byte) : Nat :=
  let x := c ^^^ b.toNat
  crcBit poly (crcBit poly (crcBit poly (crcBit poly (crcBit poly (crcBit poly (crcBit poly (crcBit poly x)))))))

/-- CRC-32C (Castagnoli, reflected polynomial 0x82F63B78) from a given start register, before the final inversion. -/
def crc32cFrom (init : Nat) (l : List Byte) : Nat := l.foldl (crcByte 0x82F63B78) init

/-- CRC-32C of a byte string: start all ones, inverted at the end. -/
def crc32c (l : List Byte) : Nat := crc32cFrom 0xFFFFFFFF l ^^^ 0xFFFFFFFF

/-- The CRC-32 of Ethernet's frame check sequence (reflected polynomial 0xEDB88320). -/
def crc32 (l : List Byte) : Nat := l.foldl (crcByte 0xEDB88320) 0xFFFFFFFF ^^^ 0xFFFFFFFF

/-- One byte into a CRC-8 of polynomial x^8 + x^2 + x + 1, most significant bit first. -/
def crc8Byte (c : Nat) (b : Byte) : Nat :=
  (List.range 8).foldl (fun r _ => if 128 ≤ r then (2 * r) % 256 ^^^ 7 else 2 * r) (c ^^^ b.toNat)

/-- CRC-8 of bytes with initial value 0 (R358, R403). -/
def crc8 (l : List Byte) : Nat := l.foldl crc8Byte 0

/-- Bytes with its CRC-32C. -/
def withCrc (l : List Byte) : List Byte := l ++ leBytes 4 (crc32c l)

end Sys2Proof
end

