-- ==== Sys2Proof/Machine/Parts/Vault.lean ====
section
/-!
DEFINITION. Sys2Proof/Machine/Parts/Vault.lean: the key vault and the public-key engine (spec/16). The tamper state that software
reads stands in the attribute store.
-/
namespace Sys2Proof.Machine

/-- A loaded root slot: its key, and its origin 1 generated, 2 imported, 3 agreed (Table 16). `erasing` until the boundary of
R541. -/
structure RootKey where
  key : List Byte
  origin : Nat
  erasing : Bool := false
deriving DecidableEq, Repr

/-- A loaded working key slot. -/
structure SlotKey where
  key : List Byte
  exportable : Bool
  erasing : Bool := false
deriving DecidableEq, Repr

/-- A loaded private-key slot: scalar, public point, and 1 generated or 2 imported. -/
structure PkKey where
  scalar : List Byte
  point : List Byte
  origin : Nat
deriving DecidableEq, Repr

/-- An operation of the public-key engine (R554): its command, its request entry, the buffer as DMA read it, the tick of the
engine's start once it has started, how often it has been repeated (R552), and whether an erase has met it (R565). -/
structure PkOp where
  cmd : CmdRef
  entry : List Byte
  buffer : List Byte
  start : Option Nat := none
  again : Nat := 0
  failed : Bool := false
deriving DecidableEq, Repr

/-- A trip whose event firmware owes: sensor, policy applied, the sealed flag, the tick (R559, R563). -/
structure Trip where
  sensor : Nat
  policy : Nat
  asleep : Bool
  tick : Nat
deriving DecidableEq, Repr

/-- The working state of a CTR_DRBG (SP 800-90A): key and counter block; no key: not instantiated, or zeroised. -/
structure Drbg where
  key : List Byte := []
  v : List Byte := []
deriving DecidableEq, Repr

/-- The vault. -/
structure Vault where
  roots : Tab (Option RootKey) := []
  slots : Tab (Option SlotKey) := []
  pks : Tab (Option PkKey) := []
  /-- Operations of the engine in order; the first one is on the engine. -/
  queue : List PkOp := []
  /-- The vault DRBG (R537), and the tick of its last reseed. -/
  rng : Drbg := {}
  seeded : Nat := 0
  /-- SY_ROOT imports and SY_KEY_SLOT loads that wait for an unwrap engine (R545). -/
  unwraps : List CmdRef := []
  /-- Trips that tamper_trip still reports at step 5 of Table 11, or at a wake. -/
  trips : List Trip := []
  /-- Erases whose step 5 is owed: the sensor of each, 6 for the command, and whether it was in sealed standby. -/
  erased : List (Nat × Bool) := []
deriving DecidableEq, Repr

end Sys2Proof.Machine
end

