-- ==== Sys2Proof/Machine/Parts/Cipher.lean ====
section
/-!
DEFINITION. Sys2Proof/Machine/Parts/Cipher.lean: the cipher stage (spec/15).
-/
namespace Sys2Proof.Machine

/-- A secret held as two Boolean shares (R519): its value is their sum, and neither share alone tells anything of it. -/
structure Shares where
  a : List Byte := []
  b : List Byte := []
deriving DecidableEq, Repr

/-- An entry of the resident table (R501, R519): the context as Table 3 lays it out, the key and the GHASH subkey in shares, and the
order number of its last use. -/
structure Resident where
  ctx : List Byte
  key : Shares
  sub : Shares
  used : Nat := 0
deriving DecidableEq, Repr

/-- A packet in the cipher stage once it is eligible: its place in the stage, the tick and the clock at which it became eligible, the
context and key it is served with, its packet number, cog clocks, class, and what its completion record tells (Table 6). -/
structure CipPkt where
  pkt : Pkt
  seq : Nat
  tick : Nat
  clock : Nat := 0
  ctx : List Byte
  key : Shares
  sub : Shares
  pn : Nat
  cost : Nat
  cls : Nat
  /-- The clocks of work that it had left when its cog last took it up (R513). -/
  work : Nat := 0
  /-- The wheel's DRBG as its cog found it: its mask bits come from there (R519). -/
  rng : Drbg := {}
  late : Bool := false
  suspended : Bool := false
  stolen : Bool := false
  /-- The state saved while suspended: counter block, GHASH accumulator and length counts, 48 bytes in shares (R514). -/
  saved : Option Shares := none
deriving DecidableEq, Repr

/-- A cog: the packet it runs with the clock at whose end it stops, and its suspended packets with the clocks each has
left, the most recent first (R514). -/
structure CipCog where
  run : Option (CipPkt × Nat) := none
  susp : List (CipPkt × Nat) := []
deriving DecidableEq, Repr

/-- A reset of a wheel under way (R522): its cause, 0 command or 1 share check, and the commands that are owed an answer. -/
structure WheelReset where
  cause : Nat
  cmds : List CmdRef := []
deriving DecidableEq, Repr

/-- A cipher wheel: its queue, its cogs, those that a known-answer test has retired (R523), its DRBG with the tick of the last reseed (R520), whether exhaustion has stopped it (R521), its hold buffer (plaintext not yet released,
by order of eligibility, R515), and its reset. -/
structure CipWheel where
  queue : List CipPkt := []
  cogs : Tab CipCog := []
  retired : List Nat := []
  seeded : Nat := 0
  rng : Drbg := {}
  stopped : Bool := false
  hold : Tab (List Byte) := []
  reset : Option WheelReset := none
deriving DecidableEq, Repr

/-- An SA load (R502): the SA, and the packets that wait for it. -/
structure SaLoad where
  sa : Nat
  deleted : Bool := false
  waiting : List Pkt
deriving DecidableEq, Repr

/-- A place in the order in which packets leave the stage (R512): once `done`, the packet that leaves, or none when it has
failed. -/
structure Exit where
  seq : Nat
  chan : Nat
  dir : Nat
  done : Bool := false
  out : Option Pkt := none
deriving DecidableEq, Repr

/-- The cipher stage. -/
structure Cipher where
  /-- Packets on their way into the stage, oldest first. -/
  entry : List Pkt := []
  resident : Tab (Option Resident) := []
  loads : List SaLoad := []
  /-- Loads completed in the present tick (R502). -/
  loadsDone : Nat := 0
  wheels : Tab CipWheel := []
  exits : List Exit := []
  /-- Packets that became eligible at the latest clock, not yet dealt, and the clock whose takes are to be settled (R506, R511). -/
  ready : List CipPkt := []
  settleAt : Option Nat := none
  /-- Encrypt contexts and pinned decrypt contexts that exist (R501), by SA. -/
  encrypts : List Nat := []
  pinned : List Nat := []
  nextSeq : Nat := 0
  useClock : Nat := 0
  /-- The wheel that is dealt to next (R506). -/
  dealNext : Nat := 0
  /-- Packet numbers an encrypt context has handed out, by SA, and the thresholds of R503 reported for it: bit 0 the one
  2^32 before the limit, bit 1 the limit. -/
  handed : Tab Nat := []
  warned : Tab Nat := []
  /-- The highest packet number authenticated, by SA (R504). -/
  highest : Tab Nat := []
  /-- Contexts created in the present tick, which take packets from the next (R528), and those to be invalidated at the next
  boundary. -/
  fresh : List Nat := []
  deletes : List Nat := []
  records : List (List Byte) := []
  /-- Cog clocks that have become eligible in the present tick (R524). -/
  demand : Nat := 0
  /-- Failure records of the present second (R518). -/
  failures : Nat := 0
  /-- The tick of the last entropy failure, or of the last failed re-test (R521). -/
  entropyTick : Nat := 0
deriving DecidableEq, Repr

end Sys2Proof.Machine
end

