-- ==== Sys2Proof/Machine/Parts/Client.lean ====
section
/-!
DEFINITION. Sys2Proof/Machine/Parts/Client.lean: the client lanes (spec/13).
-/
namespace Sys2Proof.Machine

/-- A CTLE sweep of a lane (R441): the command that asked for it, and whether the result is written back. -/
structure SweepJob where
  cmd : Option CmdRef := none
  writeback : Bool := false
deriving DecidableEq, Repr

/-- An eye scan of a lane (R448): its command, points of the grid, the tick of the first point, the lane generation,
whether R449 has cut it short, and the logarithm of the bits that a point observes. -/
structure ScanJob where
  cmd : CmdRef
  points : Nat
  start : Nat
  gen : Nat
  cut : Bool := false
  dwell : Nat := 30
deriving DecidableEq, Repr

/-- The latest eye-scan result of a lane (R447, R449). -/
structure EyeResult where
  gen : Nat
  start : Nat
  data : List Byte
deriving DecidableEq, Repr

/-- A client lane. `settings` is the table entry in use, in the form of Table 3, with a sweep result laid over it (R436,
R442); empty while the lane is off. `attempts` counts failed relock attempts, `attemptStart` is the tick at which the
present one began, and `retryFrom` the start of the attempt after which a lane without auto_sweep waits for its next one (R443).
`woken` is the boundary at which the lane left dormancy, until step 3 of Table 5 has passed (R446). -/
structure Lane where
  settings : List Byte := []
  sweep : Option SweepJob := none
  scan : Option ScanJob := none
  eye : Option EyeResult := none
  attempts : Nat := 0
  attemptStart : Nat := 0
  retryFrom : Option Nat := none
  woken : Option Nat := none
deriving DecidableEq, Repr

end Sys2Proof.Machine
end

