-- ==== Sys2Proof/Machine/Parts/House.lean ====
section
/-!
DEFINITION. Sys2Proof/Machine/Parts/House.lean: the bezel, the housekeeping monitor and output protection (spec/18), tarnish
and the performance counters (spec/19).
-/
namespace Sys2Proof.Machine

/-- The bezel: the channel under conversion while a sequence runs with the tick in which it began and whether one of its pins has been
flagged since, and a queued trigger (R608 to R611). -/
structure Bezel where
  run : Option Nat := none
  since : Nat := 0
  cut : Bool := false
  queued : Bool := false
deriving DecidableEq, Repr

/-- What `SNSOUT` shows (R612): its mode, 0 for low, with the count and the period in us that it was formed with, and the tick
at which this form began. -/
structure SnsOut where
  mode : Nat := 0
  count : Nat := 0
  period : Nat := 0
  since : Nat := 0
deriving DecidableEq, Repr

/-- A snapshot request (R615): none, waiting for the next round to begin, or its round runs. -/
inductive SnapPhase where
  | idle | waiting | running
deriving DecidableEq, Repr

/-- The housekeeping monitor: the tick in which the present round began, the snapshot in hand, a queued one, and the number
of snapshots made. -/
structure Hk where
  start : Nat := 0
  snap : SnapPhase := .idle
  queued : Bool := false
  seq : Nat := 0
deriving DecidableEq, Repr

/-- Output protection (R617): retries of each faulty output in its episode, the tick from which its next retry is due, and the
outputs driven in a retry window, each with 1 more than the tick in which it began; what `SNSOUT` shows; when the frame on the optics control port ends, in units of 320 ns (R237), and the frames of firmware
that wait for the port, with their select lines. -/
structure Pins where
  episode : Tab Nat := []
  next : Tab Nat := []
  window : Tab Nat := []
  snsout : SnsOut := {}
  opcUntil : Nat := 0
  opcWaits : List (Nat × List Byte) := []
deriving DecidableEq, Repr

/-- A margin domain (R626 to R634): its offset in steps, the offsets of its last 64 plans, m at the latest plan, its exhausted
plans, the readings of its plan window and their lowest, and whether margin_low stands. -/
structure TarnDomain where
  offset : Int := 0
  history : List Int := []
  lastM : Int := 0
  exhausted : Nat := 0
  count : Nat := 0
  low : Int := 0
  marginLow : Bool := false
deriving DecidableEq, Repr

/-- A step of a plan: domain, core of a bias domain, and direction. -/
structure TarnStep where
  domain : Nat
  core : Nat
  up : Bool
deriving DecidableEq, Repr

/-- A plan in progress (R630 to R632). `phase` is 1 to 3; `next` the tick at which the next step is due; `settle` the seconds of
phase 2 that are left, with the lowest reading of each domain in them; `ready` when they have ended; `planned` the domains with
their m; the masks are those of the response. -/
structure TarnPlan where
  start : Nat
  phase : Nat := 1
  steps : List TarnStep := []
  next : Nat
  settle : Nat := 0
  lows : Tab Int := []
  ready : Bool := false
  planned : List (Nat × Int) := []
  made : Nat := 0
  exhausted : Nat := 0
  skipped : Nat := 0
deriving DecidableEq, Repr

/-- Tarnish. `nvm` is the wear ledger record as NVM holds it (Table 2); empty: none. -/
structure Tarnish where
  nvm : List Byte := []
  seq : Nat := 0
  plans : Nat := 0
  activeS : Nat := 0
  doms : Tab TarnDomain := []
  /-- Bias offset of each converter core, by 12 × port + core. -/
  cores : Tab Int := []
  plan : Option TarnPlan := none
  /-- A plan is due and starts at the present 1PPS; a plan interrupted by firmware restarts at the next 1PPS. -/
  startOwed : Bool := false
  restart : Bool := false
  /-- Commands that wait for a plan, and the ledger write of R635 is owed. -/
  cmds : List CmdRef := []
  writeOwed : Bool := false
deriving DecidableEq, Repr

/-- The bank of PM values of the latch before the latest one (R388): the values by attribute key, its tick and TAI seconds. The
latest bank stands in the attribute store. -/
structure Pm where
  prev : Tab Int := []
  prevTick : Nat := 0
  prevTai : Nat := 0
deriving DecidableEq, Repr

/-- The performance counters (R125, R638): the occurrences of pulse events in the present tick, by 65,536 × event + instance (R639); live
values up to its boundary, values as frozen, and the snapshot bank once one was taken; dumps that wait for a boundary. -/
structure Perf where
  pulses : Tab Nat := []
  live : Tab Nat := []
  frozen : Tab Nat := []
  snap : Tab Nat := []
  snapTaken : Bool := false
  dumps : List (CmdRef × Nat) := []
deriving DecidableEq, Repr

end Sys2Proof.Machine
end

