-- ==== Sys2Proof/Machine/Parts/Memory.lean ====
section
/-!
DEFINITION. Sys2Proof/Machine/Parts/Memory.lean: DRAM, its fill map and jobs, the flow cache and the flow table's generations
(spec/14).
-/
namespace Sys2Proof.Machine

/-- A cached flow entry (R479): its 64 bytes, whether its counts have changed since it was read, and the order number of
its last use. -/
structure CacheLine where
  entry : List Byte
  dirty : Bool := false
  used : Nat := 0
deriving DecidableEq, Repr

/-- A packet in the miss queue (R480): its 41 key bytes, its two indices and the generation in force when it arrived, and
whether its read at h1 is done and h2 is to be read, and whether it has been counted as held by the write-back queue (R479). -/
structure Miss where
  pkt : Pkt
  key : List Byte
  h1 : Nat
  h2 : Nat
  gen : Nat
  second : Bool := false
  stalled : Bool := false
deriving DecidableEq, Repr

/-- A fill in progress (R489): its command, first block and number of blocks; the slots that R471 has left to it so far, by channel
(R470); blocks it has passed, and of those the ones that it filled. -/
structure FillJob where
  cmd : CmdRef
  first : Nat
  count : Nat
  room : Nat × Nat := (0, 0)
  done : Nat := 0
  good : Nat := 0
deriving DecidableEq, Repr

/-- A range scrub in progress (R473): its command, start, length, the tick of its first read, and the slots that R471 has left to it so
far, by channel. -/
structure ScrubJob where
  cmd : CmdRef
  start : Nat
  length : Nat
  tick : Nat
  room : Nat × Nat := (0, 0)
deriving DecidableEq, Repr

/-- What an op 3 replaced (R526): the entry, the tick from which it holds, and bytes 2 to 11 before it. -/
structure FlowPast where
  index : Nat
  tick : Nat
  old : List Byte
deriving DecidableEq, Repr

/-- An SY_FLOW op 3 or 4 that takes effect at the next tick (Table 8 of 14). -/
structure FlowEdit where
  index : Nat
  op : Nat
  flags : Nat
  entry : List Byte
deriving DecidableEq, Repr

/-- The memory port. `dram` lists bytes by device address, and an unlisted byte reads 0, as a fill leaves it; what stands
in a block that is not filled is never read (R469). Bit b of `filled` says that fill block b is filled (R468). -/
structure Memory where
  dram : Tab Byte := []
  filled : Nat := 0
  /-- The die identity stamped on a security context at its creation, by SA (R118). -/
  ctxDies : Tab Nat := []
  cache : Tab CacheLine := []
  useClock : Nat := 0
  /-- Evicted dirty entries on their way to DRAM, oldest first (R479). -/
  wbq : List (Nat × List Byte) := []
  missq : List Miss := []
  /-- Accesses of the present tick, under 8 × channel + priority (Table 4). -/
  used : Tab Nat := []
  /-- What accesses of the present tick meet in DRAM, by device address; an access that is not listed meets nothing. The model's own
  evidence (log entry 187). -/
  link : List (Nat × Burst) := []
  edits : List FlowEdit := []
  /-- What op 3 replaced while packets of earlier ticks wait in the miss queue (R526). -/
  past : List FlowPast := []
  touch : List Nat := []
  /-- Logged indices that the pending settle has still to visit (R484). -/
  toSettle : List Nat := []
  /-- The boundary by which the pending settle has ended (R484). -/
  settleBy : Nat := 0
  /-- When the background scrubber reads its next burst, in 1/33,554,432 tick (R472). -/
  scrubAt : Nat := 0
  fill : Option FillJob := none
  scrub : Option ScrubJob := none
  /-- Slots of priority 4 that the rebuild of stale contexts has had, by channel (R546). -/
  rebuild : Nat × Nat := (0, 0)
  /-- Corrections and uncorrectable bursts of the background pass in progress (R472). -/
  passCorrected : Nat := 0
  passBad : Nat := 0
  /-- Channels whose first uncorrectable burst of the present second has been reported (R466). -/
  reported : List Nat := []
deriving DecidableEq, Repr

end Sys2Proof.Machine
end

