-- ==== Sys2Proof/Machine/Parts/Timing.lean ====
section
/-!
DEFINITION. Sys2Proof/Machine/Parts/Timing.lean: the timing port (spec/17).
-/
namespace Sys2Proof.Machine

/-- The monitor of a reference candidate (R572, R578). -/
structure Ref where
  good : Bool := false
  /-- The tick at which a wait-to-restore ends. -/
  wait : Option Nat := none
  /-- A good instant has come since the reset, or since the priority was last written from 0. -/
  served : Bool := false
  /-- Pulse type: the edge against which the next one is judged, the last valid edge, both in ps of tick time, and valid edges in a row. -/
  edge : Option Nat := none
  valid : Option Nat := none
  edges : Nat := 0
  /-- Line candidates: the tick since which the conditions of Table 2 hold. -/
  since : Option Nat := none
deriving DecidableEq, Repr

/-- What an Ethernet interface has received of ESMC (R575): the QL of the latest valid PDU, none after a timeout, and the
tick of it. -/
structure Esmc where
  ql : Option Nat := none
  tick : Nat := 0
deriving DecidableEq, Repr

/-- A second in state 2 (R584): the mean of y, the oscillator temperature and deviation when valid, the tick at its end. -/
structure Second where
  y : Int
  temp : Option Int
  tick : Nat
deriving DecidableEq, Repr

/-- The values recorded for holdover (R584): y_avg, T_avg, and twice t_avg in ticks. -/
structure Held2 where
  y : Int
  temp : Option Int
  twiceTick : Nat
deriving DecidableEq, Repr

/-- A pulse output (R599): whether it has been configured, the aligned residue of a frame pulse, and its edge less the
internal 1PPS in units of 10^-20 s. -/
structure PulseOut where
  set : Bool := false
  residue : Nat := 0
  offset : Int := 0
deriving DecidableEq, Repr

/-- An alignment of SY_OUT_ALIGN (R600): the fields of its request, the first boundary after its service, and whether it is in force. -/
structure AlignJob where
  cmd : CmdRef
  kind : Nat
  index : Nat
  mode : Nat
  type : Nat
  width : Nat
  period : Nat
  residue : Nat
  due : Nat
  inForce : Bool := false
deriving DecidableEq, Repr

/-- The timing port. -/
structure Timing where
  /-- The time counter (R590) at the present tick boundary, in units of 10^-20 s, so that a tick at any alignment trim in
  ppt (R184) has a whole length. -/
  tai : Nat := 0
  /-- Seconds that a time set in the present tick adds to the counter, from the 1PPS edge on (R591). -/
  shift : Int := 0
  /-- The 1PPS edge of the present tick has been served, and the PM latch of the present boundary. -/
  ppsDone : Bool := false
  latchDone : Bool := false
  /-- The tick before held a 1PPS edge whose latch falls at the present boundary (R184, R386). -/
  latchOwed : Bool := false
  /-- Firmware has been ready since the reset (R588). -/
  ready : Bool := false
  /-- 1PPS edges since the reset. -/
  pps : Nat := 0
  refs : Tab Ref := []
  esmc : Tab Esmc := []
  /-- The QL that each interface sends, and the interfaces that owe an event PDU, each with the boundary by which it is sent (R589). -/
  sendQl : Tab Nat := []
  eventOwed : Tab Nat := []
  /-- The tick at whose boundary the hold-off ends (R580), and the QL at the failure. -/
  holdOff : Option Nat := none
  failQl : Nat := 0xFF
  /-- Remaining phase error in units of 10^-20 s (R583). -/
  err : Int := 0
  /-- y in ppt (R582). -/
  y : Int := 0
  /-- Ticks in state 2 since the reset; the sum of y over the present second and whether all of it lay in state 2. -/
  locked : Nat := 0
  ySum : Int := 0
  yTicks : Nat := 0
  whole : Bool := false
  seconds : List Second := []
  hold : Option Held2 := none
  /-- The oscillator temperature and deviation of the last reading (R586). -/
  osc : Option (Int × Int) := none
  /-- Seconds in state 2 and the sum of the oscillator's own deviation in the present day (R587). -/
  daySeconds : Nat := 0
  daySum : Int := 0
  dayOwed : Bool := false
  /-- The NVM ageing record: the number of the day, and the daily means by day number. -/
  day : Nat := 0
  means : List (Nat × Int) := []
  /-- The NVM holdover table record (Table 6); empty: none. -/
  table : List Byte := []
  /-- Time sets and phase steps that wait: command, TAI seconds or step in ps, first boundary after its service. -/
  sets : List (CmdRef × Nat) := []
  steps : List (CmdRef × Int × Nat) := []
  /-- The present TAI second is an inserted leap second (R597). -/
  leapNow : Bool := false
  /-- The clock outputs that run, each with 1 more than the code of its frequency; any other is driven low (R598). -/
  clkOut : Tab Nat := []
  clkAligned : Tab Nat := []
  pulses : Tab PulseOut := []
  aligns : List AlignJob := []
deriving DecidableEq, Repr

end Sys2Proof.Machine
end

