-- ==== Sys2Proof/Machine/State.lean ====
section
/-!
DEFINITION. Sys2Proof/Machine/State.lean: the state of the block, the state after reset, and the reasons a step can stop.
-/
namespace Sys2Proof.Machine

/-- The state of the AZ6400. Attributes, which are the registers the spec names by path, stand in `attrs` by
`Attr.key`; an unlisted one has its reset value. -/
structure State where
  /-- Commands waiting, first in, first out (the model's queue). -/
  pending : List Instr
  /-- The number of free values used so far (the model's own field). -/
  free : Nat
  /-- What the block has driven out, oldest first. -/
  out : List Out
  /-- The 64-bit tick count (R183). -/
  tick : Tick
  /-- Attribute values in force (R18). -/
  attrs : Tab Int
  /-- Attribute values written and not yet in force (R18). -/
  written : Tab Int
  /-- The keys of the values written since the boundary of the present tick: they wait for the next one (R18). -/
  fresh : List Nat
  /-- PM accumulators of the present second, by attribute key (R386). -/
  acc : Tab Nat
  fuse : Fuse
  power : Power
  sealed : Sealed
  nor : Nor
  boot : Boot
  clk : Clocks
  bar : Bar
  pcie : Pcie
  sessions : Tab Session
  gates : Gates
  /-- The converters of `line0` and `line1` (06). -/
  convs : Tab Conv
  /-- Cell records in NVM, by 12 × port + core (R197). -/
  cellRecords : Tab (List Byte)
  /-- Factory trim values fused at manufacture, by port and element key (R194). -/
  factoryTrims : Tab Int
  /-- The tables of SY_COMMIT bits 1 to 6 (R147), by bit. -/
  tables : Tab GenTable
  /-- Commits that wait for their tick. -/
  commits : List Commit
  /-- The millraces of the line ports (07). -/
  millraces : Tab Millrace
  /-- The transmit sides of the line ports (08). -/
  txs : Tab Tx
  /-- The decoders and encoders of the line ports (09). -/
  fecs : Tab Fec
  /-- Overhead, GCC, feathering and defects of the line ports (10, 11). -/
  lines : Tab Line
  /-- The concatenated groups (12); none: not configured. -/
  groups : Tab (Option Group)
  /-- The client channels (12). -/
  chans : Tab Channel
  /-- The Ethernet interfaces by first lane (11, 12). -/
  cifs : Tab Cif
  /-- Packets that wait to be mapped into their groups, and packets that wait to leave by their interfaces, each in order
  of arrival (R417). -/
  mapq : List Pkt
  egressq : List Pkt
  /-- The client lanes (13). -/
  lanes : Tab Lane
  /-- The board lane table record in NVM (Table 2 of 13). -/
  laneTable : List Byte
  /-- Timestamp record queues, by direction (R453). -/
  stamps0 : List (List Byte)
  stamps1 : List (List Byte)
  /-- Packets numbered so far. -/
  nextPkt : Nat
  memory : Memory
  cipher : Cipher
  timing : Timing
  vault : Vault
  bezel : Bezel
  hk : Hk
  pins : Pins
  tarnish : Tarnish
  perf : Perf
  pm : Pm
deriving DecidableEq, Repr

/-- The machine before power: every field at its reset value. -/
def State.reset : State where
  pending := []
  free := 0
  out := []
  tick := 0
  attrs := []
  written := []
  fresh := []
  acc := []
  fuse := {}
  power := {}
  sealed := {}
  nor := {}
  boot := {}
  clk := {}
  bar := {}
  pcie := {}
  sessions := []
  gates := {}
  convs := []
  cellRecords := []
  factoryTrims := []
  tables := []
  commits := []
  millraces := []
  txs := []
  fecs := []
  lines := []
  groups := []
  chans := []
  cifs := []
  mapq := []
  egressq := []
  lanes := []
  laneTable := []
  stamps0 := []
  stamps1 := []
  nextPkt := 0
  memory := {}
  cipher := {}
  timing := {}
  vault := {}
  bezel := {}
  hk := {}
  pins := {}
  tarnish := {}
  perf := {}
  pm := {}

/-- The machine never faults: every error of the spec is a status code, an event or an alarm. The constructor is for
an access outside the DRAM's address space, which no row of the table can make (safe). -/
inductive Fault where
  /-- Raised by nothing: the device-address width of R463 leaves no address outside DRAM. Safe. -/
  | noSuchAddress
deriving DecidableEq, Repr

/-- Why a command has no meaning. -/
inductive Refusal where
  /-- Answered by an arm of `exec` for a command that has no meaning yet. Safe. -/
  | notModelled (mnemonic : String)
  /-- Answered by a reset pulse on PORST_N of 1 us to 10 us, which "has no defined effect" (R54). Safe. -/
  | undefinedPulse
deriving DecidableEq, Repr

end Sys2Proof.Machine
end

