-- ==== Sys2Proof/Machine/Attrs.lean ====
section
/-!
DEFINITION. Sys2Proof/Machine/Attrs.lean: the attribute store: keys, reset values that differ by index, the value in
force, the value read (R18), counters (R13) and the PM accumulators (R386).
-/
namespace Sys2Proof

/-- The number under which an attribute with indices `i` and `j` stands in the store. -/
def Attr.key (a : Attr) (i j : Nat) : Nat := (a.ctorIdx * 65536 + i) * 65536 + j

/-- The attribute of a key. -/
def Attr.ofKey (k : Nat) : Attr := Attr.ofNat (k / 4294967296)

/-- Holds a number to the attribute's type (R13). -/
def AttrKind.fit : AttrKind → Int → Int
  | .u n, v => wrapU n v
  | .s n, v => wrapS n v
  | .bytes n, v => wrapU (8 * n) v

/-- The size of a value in bytes. -/
def AttrKind.size : AttrKind → Nat
  | .u n => n / 8
  | .s n => n / 8
  | .bytes n => n

end Sys2Proof

namespace Sys2Proof.Machine

/-- The die temperature of thermal levels 1 and 2 at reset, by ordering code (Table 12 of 02). -/
def throttleDefault (c : OrderingCode) (level : Nat) : Int :=
  match c with
  | .ea => if level = 1 then 115 else 120
  | _ => if level = 1 then 105 else 110

/-- The guard of each tarnish domain at reset (Table 1 of 19), in 0.01 %: 2 % for the ring-oscillator domains. -/
def guardDefault (d : Nat) : Int := if d = 3 || (6 ≤ d && d ≤ 9) then 200 else 300

/-- The reset value of an attribute, by index where the tables give it so. -/
def resetValue (f : Fuse) (a : Attr) (i : Nat) : Int :=
  match a with
  | .thermalThrottle1C => throttleDefault f.code 1
  | .thermalThrottle2C => throttleDefault f.code 2
  | .sessionPermission => if i = 0 then 2 else 0
  | .sessionEventMask => if i = 0 then 0x3FFF else 0
  | .timRefQlOverride => if i < 4 then 0x0B else 0xFF
  | .tarnishDomainGuard => guardDefault i
  -- DESIGN CHOICE (log entry 7): the fused factory value is not given; that of the worked example
  | .tarnishDomainGainPerStep => 80
  -- DESIGN CHOICE (log entry 8): NVM holds no address
  | .mgmtNodeAddress => 0xFFFFFFFF
  | a => a.row.reset

/-- The value of an attribute in force. -/
def State.attr (s : State) (a : Attr) (i : Nat := 0) (j : Nat := 0) : Int :=
  Tab.get (resetValue s.fuse a i) s.attrs (a.key i j)

/-- The value in force as a whole number. -/
def State.attrN (s : State) (a : Attr) (i : Nat := 0) (j : Nat := 0) : Nat := (s.attr a i j).toNat

/-- Sets the value in force. -/
def State.setAttr (s : State) (a : Attr) (i j : Nat) (v : Int) : State :=
  { s with attrs := Tab.put (resetValue s.fuse a i) s.attrs (a.key i j) v }

/-- Raises a counter, wrapping at its width (R13). -/
def State.bump (s : State) (a : Attr) (i : Nat := 0) (j : Nat := 0) (n : Int := 1) : State :=
  s.setAttr a i j (a.row.kind.fit (s.attr a i j + n))

/-- Counts in the PM accumulator of an attribute (R386). -/
def State.count (s : State) (a : Attr) (i : Nat := 0) (j : Nat := 0) (n : Nat := 1) : State :=
  { s with acc := Tab.upd 0 s.acc (a.key i j) (fun v => (v + n) % 2 ^ (8 * a.row.kind.size)) }

/-- Keeps the largest value of the second in the accumulator. -/
def State.countMax (s : State) (a : Attr) (i j n : Nat) : State :=
  { s with acc := Tab.upd 0 s.acc (a.key i j) (fun v => max v n) }

/-- The value a write left, which a read returns at once (R18): the written value if one is pending, else the value
in force. -/
def State.attrRead (s : State) (a : Attr) (i j : Nat) : Int :=
  Tab.get (s.attr a i j) s.written (a.key i j)

/-- Leaves a written value to take effect later (R18). The table of written values lists every value pending, whatever
it is, so no value stands for "none". -/
def State.setWritten (s : State) (a : Attr) (i j : Nat) (v : Int) : State :=
  { s with written := Tab.ins s.written (a.key i j) v, fresh := nsIns s.fresh (a.key i j) }

/-- A written value is due at the present boundary: it was written before it. -/
def State.isDue (s : State) (key : Nat) : Bool := !s.fresh.contains key

/-- A value written and pending. -/
def State.pendingValue (s : State) (a : Attr) (i : Nat := 0) (j : Nat := 0) : Option Int :=
  (s.written.find? (fun e => e.1 = a.key i j)).map (·.2)

/-- A pending value takes effect. -/
def State.takeWritten (s : State) (a : Attr) (i : Nat := 0) (j : Nat := 0) : State :=
  match s.pendingValue a i j with
  | none => s
  | some v => { s.setAttr a i j v with written := Tab.erase s.written (a.key i j) }

end Sys2Proof.Machine
end

