-- ==== Sys2Proof/Machine/Operands.lean ====
section
/-!
DEFINITION. Sys2Proof/Machine/Operands.lean: the fields of command entries (Table 14 of 04), the status codes and their
order (R22, R23), the classes and permissions of the commands, and the areas of host memory or of the session data
buffer that a command names (R671).
-/
namespace Sys2Proof.Machine

/-! ### Status codes -/

/-- The value of a status code (Table 6 of 00). -/
def Status.code : Status → Nat
  | .ok => 0x00 | .accepted => 0x01 | .busyDeferred => 0x02 | .eUnknownCmd => 0x10 | .eBadParam => 0x11
  | .eRange => 0x12 | .eState => 0x13 | .ePermission => 0x14 | .eStale => 0x15 | .eDate => 0x16 | .eIntegrity => 0x20
  | .eSignature => 0x21 | .eRollback => 0x22 | .ePoint => 0x30 | .eScalar => 0x31 | .failedInFlight => 0x40
  | .abortedByReset => 0x41 | .lateAtTick => 0x42 | .eInternal => 0x7F

/-- The order in which failure codes apply (R23). -/
def Status.rank : Status → Nat
  | .eUnknownCmd => 0 | .ePermission => 1 | .eBadParam => 2 | .eRange => 3 | .eState => 4 | .eStale => 5 | _ => 6

/-- Of two failures the one that R23 names first; of equal rank the earlier. -/
def Status.before (a b : Status) : Status := if b.rank < a.rank then b else a

/-- The failure that a list of conditions gives (R23): none when no condition holds. -/
def firstFail : List (Bool × Status) → Option Status
  | [] => none
  | (false, _) :: t => firstFail t
  | (true, st) :: t =>
    match firstFail t with
    | none => some st
    | some st' => some (st.before st')

/-! ### Entries -/

/-- The command's opcode. -/
def entryOpcode (e : List Byte) : Nat := fieldAt e 0 2
/-- The fence flag (R140). -/
def entryFence (e : List Byte) : Bool := bitOf (fieldAt e 2 1) 0
/-- The port whose epoch is checked (R118). -/
def entryEpochPort (e : List Byte) : Nat := fieldAt e 3 1
/-- The host's tag. -/
def entryTag (e : List Byte) : Nat := fieldAt e 4 4
/-- The epoch the command carries. -/
def entryEpoch (e : List Byte) : Nat := fieldAt e 8 4

/-- Every byte from 16 to 63 that no (offset, size) pair names is 0 (R16). -/
def unnamedZero (named : List (Nat × Nat)) (e : List Byte) : Bool :=
  (List.range 48).all (fun k => named.any (fun p => p.1 ≤ k + 16 && k + 16 < p.1 + p.2) || byteAt e (k + 16) = 0)

/-- A field of a response: offset, size, value. -/
abbrev Fld := Nat × Nat × Nat

/-- Lays fields over a string of zero bytes (R16). -/
def layFields (n : Nat) (fs : List Fld) : List Byte :=
  fs.foldl (fun l f => overlay l f.1 (leBytes f.2.1 f.2.2)) (List.replicate n 0)

/-- A response entry (Table 15 of 04). -/
def responseEntry (opcode : Nat) (st : Status) (tag : Nat) (tick : Tick) (fs : List Fld) : List Byte :=
  layFields 64 ([(0, 2, opcode), (2, 1, st.code), (4, 4, tag), (8, 8, tick.toNat)] ++ fs)

/-- An event entry before its tick is filled in (Table 26 of 04). -/
def eventEntry (seq code cat index : Nat) (fs : List Fld) : List Byte :=
  layFields 64 ([(0, 2, 0xFFFF), (4, 4, seq), (16, 2, code), (18, 1, cat), (20, 4, index)] ++ fs)

/-! ### The commands -/

/-- The classes of Table 16 (04). -/
inductive CmdClass where
  | urgent | normal | bulk
deriving DecidableEq, Repr

/-- What the command tables say of an opcode: class, least permission (0 any, 1 operator, 2 administrator), whether it
addresses a line port, a client channel, a lane or DRAM (R94), whether it addresses the security port (R2), and whether
the ROM accepts it (R96). -/
structure CmdInfo where
  cls : CmdClass
  perm : Nat
  datapath : Bool := false
  security : Bool := false
  rom : Bool := false
deriving DecidableEq, Repr

/-- The commands of release 2.4 by opcode; any other opcode is not defined (R136). `rom` marks those that R96 lists: SY_ATTR_BATCH is not
among them, so under ROM service it is refused whole, reads of identity attributes included (DESIGN CHOICE, log entry 133). -/
def cmdInfo : Nat → Option CmdInfo
  | 0x0100 => some { cls := .urgent, perm := 0 }
  | 0x0101 => some { cls := .urgent, perm := 0, rom := true }
  | 0x0102 => some { cls := .normal, perm := 0 }
  | 0x0103 => some { cls := .normal, perm := 0 }
  | 0x0104 => some { cls := .urgent, perm := 1, datapath := true }
  | 0x0301 => some { cls := .normal, perm := 2, rom := true }
  | 0x0302 => some { cls := .bulk, perm := 2, rom := true }
  | 0x0303 => some { cls := .normal, perm := 2, rom := true }
  | 0x0304 => some { cls := .normal, perm := 2, rom := true }
  | 0x0305 => some { cls := .normal, perm := 2 }
  | 0x0306 => some { cls := .normal, perm := 2, rom := true }
  | 0x0601 => some { cls := .normal, perm := 1, datapath := true }
  | 0x0602 => some { cls := .normal, perm := 1, datapath := true }
  | 0x0603 => some { cls := .normal, perm := 1, datapath := true }
  | 0x0604 => some { cls := .urgent, perm := 1, datapath := true }
  | 0x0605 => some { cls := .bulk, perm := 1, datapath := true }
  | 0x0606 => some { cls := .normal, perm := 1, datapath := true }
  | 0x0701 => some { cls := .normal, perm := 1, datapath := true }
  | 0x0702 => some { cls := .bulk, perm := 1, datapath := true }
  | 0x0703 => some { cls := .normal, perm := 1, datapath := true }
  | 0x0704 => some { cls := .bulk, perm := 1, datapath := true }
  | 0x0801 => some { cls := .normal, perm := 1, datapath := true }
  | 0x0802 => some { cls := .bulk, perm := 1, datapath := true }
  | 0x0A01 => some { cls := .normal, perm := 1, datapath := true }
  | 0x0A02 => some { cls := .normal, perm := 1, datapath := true }
  | 0x0A03 => some { cls := .bulk, perm := 1, datapath := true }
  | 0x0A04 => some { cls := .urgent, perm := 2, datapath := true }
  | 0x0B01 => some { cls := .normal, perm := 0 }
  | 0x0C01 => some { cls := .normal, perm := 1, datapath := true }
  | 0x0D01 => some { cls := .normal, perm := 1, datapath := true }
  | 0x0D02 => some { cls := .bulk, perm := 1, datapath := true }
  | 0x0D03 => some { cls := .normal, perm := 1, datapath := true }
  | 0x0D04 => some { cls := .bulk, perm := 1, datapath := true }
  | 0x0D05 => some { cls := .normal, perm := 1, datapath := true }
  | 0x0E01 => some { cls := .normal, perm := 1, datapath := true }
  | 0x0E02 => some { cls := .normal, perm := 1, datapath := true }
  | 0x0E03 => some { cls := .normal, perm := 0, datapath := true }
  | 0x0E04 => some { cls := .bulk, perm := 1, datapath := true }
  | 0x0F01 => some { cls := .normal, perm := 1, datapath := true, security := true }
  | 0x0F02 => some { cls := .normal, perm := 1, security := true }
  | 0x0F03 => some { cls := .normal, perm := 2, security := true }
  | 0x1001 => some { cls := .normal, perm := 2, security := true }
  | 0x1002 => some { cls := .normal, perm := 2, security := true }
  | 0x1003 => some { cls := .bulk, perm := 2, datapath := true, security := true }
  | 0x1004 => some { cls := .normal, perm := 2, security := true }
  | 0x1005 => some { cls := .normal, perm := 2, security := true }
  | 0x1101 => some { cls := .urgent, perm := 1 }
  | 0x1102 => some { cls := .normal, perm := 1 }
  | 0x1103 => some { cls := .normal, perm := 1 }
  | 0x1104 => some { cls := .urgent, perm := 0 }
  | 0x1105 => some { cls := .normal, perm := 1 }
  | 0x1106 => some { cls := .bulk, perm := 1 }
  | 0x1201 => some { cls := .urgent, perm := 1 }
  | 0x1202 => some { cls := .normal, perm := 1 }
  | 0x1203 => some { cls := .normal, perm := 2 }
  | 0x1301 => some { cls := .normal, perm := 2 }
  | 0x1302 => some { cls := .normal, perm := 0 }
  | _ => none

/-! ### Sessions and areas -/

/-- A session. -/
def State.sess (s : State) (i : Nat) : Session := Tab.get {} s.sessions i

/-- Replaces a session. -/
def State.setSess (s : State) (i : Nat) (x : Session) : State :=
  { s with sessions := Tab.put {} s.sessions i x }

/-- The place of the data buffer in a session's on-die memory (Table 13, pages 12 and 13). -/
def dataBufferBase : Nat := 49152

/-- An area that runs past the 8 KiB data buffer in on-die mode (R671). -/
def areaBad (s : State) (sid addr len : Nat) : Bool := (s.sess sid).onDie && decide (8192 < addr + len)

/-- The bytes of an area a command reads: the data buffer in on-die mode, else what DMA read. -/
def readArea (s : State) (sid addr len : Nat) (dma : List Byte) : List Byte :=
  if (s.sess sid).onDie then
    (List.range len).map (fun k => Tab.get 0 (s.sess sid).mem (dataBufferBase + addr + k))
  else padTo len dma

/-- Writes bytes into the sparse memory of a session from an offset. -/
def memWrite (m : Tab Byte) (o : Nat) : List Byte → Tab Byte
  | [] => m
  | b :: t => memWrite (Tab.put 0 m o b) (o + 1) t

/-- Writes the result area of a command: the data buffer in on-die mode, else host memory by DMA. -/
def writeArea (s : State) (sid addr : Nat) (data : List Byte) : State :=
  if (s.sess sid).onDie then
    s.setSess sid { s.sess sid with mem := memWrite (s.sess sid).mem (dataBufferBase + addr) data }
  else { s with out := s.out ++ [.hostWrite addr data] }

/-- The epoch attribute of a port named by epoch_port 1 to 7 (Table 14 of 04). -/
def portEpoch (s : State) : Nat → Nat
  | 1 => s.attrN .lineEpoch 0
  | 2 => s.attrN .lineEpoch 1
  | 3 => s.attrN .clientEpoch
  | 4 => s.attrN .timEpoch
  | 5 => s.attrN .secEpoch
  | 6 => s.attrN .memEpoch
  | _ => s.attrN .houseEpoch

/-- Minimal state (Table 8 of 02). -/
def State.minimal (s : State) : Bool := s.attr .powerState = 1

/-- The part is an AZ6400-CN, with the security port fused off (R2). -/
def State.isCN (s : State) : Bool := s.fuse.code = .cn

/-- The conditions every command is judged by (R135, R141, R2, R96, R94, R118). -/
def headerChecks (s : State) (sid : Nat) (info : CmdInfo) (named : List (Nat × Nat)) (e : List Byte) :
    List (Bool × Status) :=
  [(decide (s.attrN .sessionPermission sid < info.perm), .ePermission),
   (decide (1 < fieldAt e 2 1), .eBadParam),
   (decide (7 < entryEpochPort e), .eBadParam),
   (decide (fieldAt e 12 4 ≠ 0), .eBadParam),
   (!unnamedZero named e, .eBadParam),
   (s.isCN && (info.security || entryEpochPort e = 5), .eState),
   (s.boot.service = .rom && !info.rom, .eState),
   (s.minimal && info.datapath, .eState),
   (entryEpochPort e ≠ 0 && entryEpochPort e ≤ 7 && entryEpoch e ≠ portEpoch s (entryEpochPort e), .eStale)]

end Sys2Proof.Machine
end

