-- ==== Sys2Proof/Machine/Ops.lean ====
section
/-!
DEFINITION. Sys2Proof/Machine/Ops.lean: the operations every chapter shares: MSI-X messages (R670), alarms (R126),
responses (R131), events (R149 to R151), and the service of a taken command (R136 to R140, R152).
-/
namespace Sys2Proof.Machine

/-- Records something driven out of the block. -/
def State.emit (s : State) (o : Out) : State := { s with out := s.out ++ [o] }

/-- A pulse event of the performance counters occurs so often at an instance (R639). -/
def State.occurs (s : State) (event place : Nat) (n : Nat := 1) : State :=
  { s with perf := { s.perf with pulses := Tab.upd 0 s.perf.pulses (65536 * event + place) (· + n) } }

/-- The next free value, and the state with its number used (log entry 2). -/
def State.draw (s : State) : Nat × State := (Config.freeValue s.free, { s with free := s.free + 1 })

/-! ### MSI-X -/

/-- The mask bit of a vector, set at reset as the PCI Express Base Specification gives. -/
def vectorMasked (s : State) (v : Nat) : Bool := (Tab.get 1 s.pcie.msixTab (4 * v + 3)).toNat % 2 = 1

/-- A message of the vector can be sent now (R670). -/
def canSend (s : State) (v : Nat) : Bool :=
  s.pcie.linkUp && s.pcie.busMaster && s.pcie.msixEnable && !s.pcie.funcMask && !s.pcie.d3hot && !vectorMasked s v

/-- A message falls due: sent, or held in the pending bit array, at most one a vector (R670). -/
def msix (v : Nat) (s : State) : State :=
  if canSend s v then s.emit (.msix v) else { s with pcie := { s.pcie with pba := nsIns s.pcie.pba v } }

/-- Sends every held message that can now be sent (R670). -/
def flushMsix (s : State) : State :=
  (List.range 10).foldl (fun s v =>
    if s.pcie.pba.contains v && canSend s v then
      { (s.emit (.msix v)) with pcie := { s.pcie with pba := nsDiff s.pcie.pba [v] } }
    else s) s

/-! ### Alarms -/

/-- Bit `i` of a register. -/
def wbit (w : Word) (i : Nat) : Bool := bitOf w.toNat i

/-- Sets an ALARM_SUMMARY bit; vector 8 when the bit becomes 1 and is not masked (R126). -/
def setAlarm (cat : Nat) (s : State) : State :=
  if wbit s.bar.alarms cat then s
  else
    let s := { s with bar := { s.bar with alarms := s.bar.alarms ||| BitVec.ofNat 32 (2 ^ cat) } }
    if wbit s.bar.alarmMask cat then s else msix 8 s

/-! ### Responses and events in rings -/

/-- Entries of the response ring not yet read by the host. -/
def Session.ringUsed (x : Session) : Nat := (x.rspProducer + 512 - x.rspConsumer) % 512

/-- A ring entry can be written now: the session is not closed nor in ring error (R129), and in host-memory mode the
PCIe link is up with bus mastering enabled (R131). -/
def ringReady (s : State) (x : Session) : Bool :=
  (x.state = .opened || x.state = .closing) && decide (x.ringUsed < 256) &&
    (x.onDie || (s.pcie.linkUp && s.pcie.busMaster && !s.pcie.d3hot))

/-- The entries the response hold takes (R131). -/
def Session.holdSize (x : Session) : Nat := if x.onDie then 256 else 512

/-- Writes an entry to the response ring, advances `rsp_producer`, sets the posted bit and sends the vector (R131). -/
def toRing (sid : Nat) (h : Held) (s : State) : State :=
  let x := s.sess sid
  let slot := x.rspProducer % 256
  let s := if x.onDie then s else s.emit (.hostWrite (x.rspBase + 64 * slot) h.bytes)
  let x := { x with
    ring := if x.onDie then Tab.put [] x.ring slot h.bytes else x.ring
    rspProducer := (x.rspProducer + 1) % 512
    eventPosted := x.eventPosted || h.isEvent
    rspPosted := x.rspPosted || !h.isEvent }
  let s := s.setSess sid x
  if (if h.isEvent then x.eventIrq else x.rspIrq) then msix sid s else s

/-- The held entry that is posted next, and the rest: the oldest; under ROM service the oldest response, for no event is posted
then (R131, R162). -/
def nextHeld (s : State) (x : Session) : Option (Held × List Held) :=
  if s.boot.service = .rom then (x.hold.find? (fun h => !h.isEvent)).map (fun h => (h, x.hold.erase h))
  else match x.hold with
    | [] => none
    | h :: t => some (h, t)

/-- Posts held entries in order while the ring takes them (R131). The first argument bounds their number. -/
def drainHold : Nat → Nat → State → State
  | 0, _, s => s
  | n + 1, sid, s =>
    let x := s.sess sid
    match nextHeld s x with
    | none => s
    | some (h, t) => if ringReady s x then drainHold n sid (toRing sid h (s.setSess sid { x with hold := t })) else s

/-- Posts what a session's hold can post. -/
def drain (sid : Nat) (s : State) : State := drainHold 512 sid s

/-- Places an entry in the ring, or behind what waits in the hold (R131). -/
def placeEntry (sid : Nat) (h : Held) (s : State) : State :=
  let x := s.sess sid
  if (nextHeld s x).isNone && ringReady s x then toRing sid h s
  else s.setSess sid { x with hold := x.hold ++ [h] }

/-- Responses still owed to a session's taken commands: two before an interim response, one after (R131). A waiting command counts two
whatever it will post (DESIGN CHOICE, log entry 177). -/
def Session.owed (x : Session) : Nat :=
  x.taken.foldl (fun n t => n + (if t.phase = .waiting || t.phase = .quiet then 2 else 1)) 0

/-- Entries of ring and hold together that are free. A ring that cannot be written now, with the link down or after a ring error,
counts none of its own (DESIGN CHOICE, log entry 128). -/
def freeEntries (s : State) (sid : Nat) : Nat :=
  let x := s.sess sid
  (if ringReady s x then 256 - x.ringUsed else 0) + (x.holdSize - x.hold.length)

/-- An event may be placed in a session's ring or hold (R131). -/
def eventRoom (s : State) (sid : Nat) : Bool := decide ((s.sess sid).owed < freeEntries s sid)

/-- Firmware serves the rings: it runs, and no activation pause holds it (R109). -/
def State.fwServing (s : State) : Bool :=
  s.boot.service = .firmware && !(match s.boot.act with | some a => a.paused | none => false)

/-- Fills the tick of placing into an event entry (R8, Table 15). -/
def stampTick (s : State) (e : List Byte) : List Byte := overlay e 8 (leBytes 8 s.tick.toNat)

/-- Gives one receiving session its copies of logged events, in order, while it has room (R150, R151). -/
def deliverTo (sid : Nat) (s : State) : State :=
  s.bar.log.foldl (fun s ev =>
    if ev.receivers.contains sid && eventRoom s sid then
      let s := placeEntry sid ⟨true, stampTick s ev.entry⟩ s
      { s with bar := { s.bar with log := s.bar.log.map (fun ev' =>
          if ev' = ev then { ev' with receivers := nsDiff ev'.receivers [sid] } else ev') } }
    else s) s

/-- Gives a session its events_lost entry, once it has room and no logged event waits for it (R151). -/
def deliverLost (sid : Nat) (s : State) : State :=
  let x := s.sess sid
  if x.lost ≠ 0 && x.state = .opened && eventRoom s sid && decide (s.bar.log.length < 4096) then
    let e := eventEntry s.bar.eventSeq.toNat 0 12 0xFFFFFFFF [(24, 4, x.lost)]
    let s := s.setSess sid { x with lost := 0 }
    let s := { s with bar := { s.bar with eventSeq := s.bar.eventSeq + 1 } }
    placeEntry sid ⟨true, stampTick s e⟩ s
  else s

/-- Drops events every receiver has taken. -/
def pruneLog (s : State) : State :=
  { s with bar := { s.bar with log := s.bar.log.filter (fun ev => !ev.receivers.isEmpty) } }

/-- Delivers logged events, then events_lost entries, to every session that has room (R151). Firmware does this, so not
during a pause (R111). -/
def deliverAll (s : State) : State :=
  if s.fwServing then
    (List.range 8).foldl (fun s sid => deliverLost sid s)
      (pruneLog ((List.range 8).foldl (fun s sid => deliverTo sid s) s))
  else s

/-- The sessions an event goes to: open, with the category's mask bit set (R150). -/
def receivers (s : State) (cat : Nat) : List Nat :=
  (List.range 8).filter (fun i => (s.sess i).state = .opened && bitOf (s.attrN .sessionEventMask i) cat)

/-- Raises an event: its ALARM_SUMMARY bit (R126), its sequence number (R149), its copies in the log or the count of
events lost (R150, R151). Under ROM service no event is posted (R162). An event that no session receives is not kept, so a full log
does not lose it (DESIGN CHOICE, log entry 129). -/
def raise (code cat index : Nat) (fs : List Fld) (s : State) : State :=
  let s := setAlarm cat s
  if s.boot.service = .rom then s
  else
    let rs := receivers s cat
    let e := eventEntry s.bar.eventSeq.toNat code cat index fs
    let s := { s with bar := { s.bar with eventSeq := s.bar.eventSeq + 1 } }
    if rs.isEmpty then s
    else if 4096 ≤ s.bar.log.length then
      let s := rs.foldl (fun s i => s.setSess i { s.sess i with lost := (s.sess i).lost + 1 }) s
      setAlarm 12 (s.bump .eventsLost)
    else deliverAll { s with bar := { s.bar with log := s.bar.log ++ [⟨e, rs⟩] } }

/-- No channel index (Table 26 of 04). -/
def noIndex : Nat := 0xFFFFFFFF

/-- The tick count as an event or response field of 8 bytes. -/
def tickFld (s : State) (o : Nat) : Fld := (o, 8, s.tick.toNat)

/-- A signed number as an n-byte field value. -/
def sfld (o n : Nat) (v : Int) : Fld := (o, n, (v % ((256 ^ n : Nat) : Int)).toNat)

/-- Advances the epoch of a port, 0 `line0` to 6 `house`, and raises epoch_advanced in the port's category (R117, R667). The
security port of the AZ6400-CN has no epoch. -/
def advanceEpoch (port : Nat) (s : State) : State :=
  if port = 4 && s.isCN then s
  else
    let s := match port with
      | 0 => s.bump .lineEpoch 0
      | 1 => s.bump .lineEpoch 1
      | 2 => s.bump .clientEpoch
      | 3 => s.bump .timEpoch
      | 4 => s.bump .secEpoch
      | 5 => s.bump .memEpoch
      | _ => s.bump .houseEpoch
    raise 0x0301 port noIndex [(24, 1, port + 1), (28, 4, portEpoch s (port + 1))] s

/-! ### Service of commands -/

/-- The record of a taken command. -/
def findTaken (s : State) (c : CmdRef) : Option Taken := (s.sess c.session).taken.find? (fun t => t.id = c.id)

/-- Posts a response to a command (R131). -/
def respond (sid : Nat) (e : List Byte) (st : Status) (fs : List Fld) (s : State) : State :=
  placeEntry sid ⟨false, responseEntry (entryOpcode e) st (entryTag e) s.tick fs⟩ s

/-- Firmware or the ROM can post responses now: not during a pause, nor while firmware restarts (R111, R152). -/
def State.canPost (s : State) : Bool := s.fwServing || s.boot.service = .rom

/-- The batch commands (R145). -/
def isBatch (op : Nat) : Bool := op = 0x0103 || op = 0x0B01 || op = 0x0E03 || op = 0x1003

/-- Posts the final response of a command and drops its record (R136, R152); while nothing can be posted, the record
keeps the response (R111). -/
def finish (c : CmdRef) (st : Status) (fs : List Fld) (s : State) : State :=
  match findTaken s c with
  | none => s
  | some t =>
    let x := s.sess c.session
    if s.canPost then
      respond c.session t.entry st fs
        (s.setSess c.session { x with taken := x.taken.filter (fun t' => t'.id ≠ c.id) })
    else
      s.setSess c.session { x with taken := x.taken.map (fun t' =>
        if t'.id = c.id then { t' with phase := .ended st fs } else t') }

/-- At the end of a pause the responses that waited are posted, in order of taking (R111). -/
def postEnded (s : State) : State :=
  (List.range 8).foldl (fun s i => (s.sess i).taken.foldl (fun s t =>
    match t.phase with
    | .ended st fs => finish ⟨i, t.id⟩ st fs s
    | _ => s) s) s

/-- How far a batch has come; nothing for one that has not started. -/
def Taken.progress (t : Taken) : BatchRun := match t.phase with | .running b _ => b | _ => {}

/-- A batch that has started, with its item list. -/
def Taken.isRunning (t : Taken) : Bool := match t.phase with | .running _ _ => true | _ => false

/-- A command has not been started. -/
def Taken.unstarted (t : Taken) : Bool := t.phase = .waiting || t.phase = .deferred

/-- Posts an interim response and notes it in the record (R136). -/
def interim (c : CmdRef) (st : Status) (ph : TakenPhase) (s : State) : State :=
  match findTaken s c with
  | none => s
  | some t =>
    let x := s.sess c.session
    respond c.session t.entry st []
      (s.setSess c.session { x with taken := x.taken.map (fun t' => if t'.id = c.id then { t' with phase := ph } else t') })

/-- What serving a command answers: a final status with its fields, ACCEPTED with the final response to follow, or nothing yet, for a
batch with items left. -/
inductive Answer where
  | final (st : Status) (fs : List Fld)
  | accept
  | more (run : BatchRun) (input : List Byte)
deriving DecidableEq, Repr

/-- Every command taken before it from its session has posted its final response (the fence of R140). -/
def fenceClear (s : State) (c : CmdRef) : Bool := (s.sess c.session).taken.all (fun t => decide (c.id ≤ t.id))

/-- The class of a record; a command that is not defined has none. -/
def Taken.cls (t : Taken) : Option CmdClass := (cmdInfo (entryOpcode t.entry)).map (·.cls)

/-- The class of a record is bulk. -/
def Taken.isBulk (t : Taken) : Bool := t.cls = some .bulk

/-- The commands of a class that a session may have started and not finished (Table 16 of 04); bulk has no budget. -/
def classBudget : CmdClass → Option Nat
  | .urgent => some 2 | .normal => some 8 | .bulk => none

/-- A command has started and has posted neither ACCEPTED nor a final response (R137). -/
def Taken.inService (t : Taken) : Bool := t.phase = .quiet || t.isRunning

/-- The session is within the budget of the command's class (R137). -/
def withinBudget (s : State) (sid : Nat) (t : Taken) : Bool :=
  match t.cls with
  | none => true
  | some k =>
    match classBudget k with
    | none => true
    | some n => decide (((s.sess sid).taken.filter (fun t' => t'.inService && t'.cls = some k)).length < n)

/-- What a command waits for by itself: it has not started, its fence is clear, its session is within budget, and a deferred one has
seen 10 low load updates (R137, R138, R140). -/
def startable (s : State) (c : CmdRef) (t : Taken) : Bool :=
  t.unstarted && (!entryFence t.entry || fenceClear s c) && withinBudget s c.session t &&
  (t.phase ≠ .deferred || decide (10 ≤ s.bar.lowLoadRun))

/-- How many commands of the classes, in every session, may start by themselves. -/
def startableCount (s : State) (ks : List CmdClass) : Nat :=
  ((List.range 8).map (fun i => ((s.sess i).taken.filter (fun t =>
    (match t.cls with | some k => ks.contains k | none => false) && startable s ⟨i, t.id⟩ t)).length)).sum

/-- The classes served before a class (R139). -/
def CmdClass.above : CmdClass → List CmdClass
  | .urgent => [] | .normal => [.urgent] | .bulk => [.urgent, .normal]

/-- Of the four cores one is left to a command by those of the classes above its own that may start (R139). -/
def classTurn (s : State) (t : Taken) : Bool :=
  match t.cls with | some k => decide (startableCount s k.above < 4) | none => true

/-- A command may start (R137 to R140): what it waits for by itself holds; a core is left for its class, so urgent ones go first and bulk
ones last; and a bulk one follows every bulk command taken earlier in any session that may start. -/
def mayStart (s : State) (c : CmdRef) (t : Taken) : Bool :=
  startable s c t && classTurn s t &&
  (!t.isBulk || (List.range 8).all (fun i => (s.sess i).taken.all (fun t' =>
      !t'.isBulk || !t'.unstarted || decide (t.id ≤ t'.id) ||
      (entryFence t'.entry && !fenceClear s ⟨i, t'.id⟩))))

/-- The mailbox is served for a session: by firmware, or by the ROM for session 0 (R95, R109). -/
def served (s : State) (sid : Nat) : Bool := s.fwServing || (s.boot.service = .rom && sid = 0)

/-- Posts ACCEPTED unless it has been posted (R136). -/
def acceptIfNot (c : CmdRef) (s : State) : State :=
  match findTaken s c with
  | some t => if t.unstarted then interim c .accepted .started s else s
  | none => s

/-- Notes in a command's record how far it has come; nothing is posted. -/
def setPhase (c : CmdRef) (ph : TakenPhase) (s : State) : State :=
  let x := s.sess c.session
  s.setSess c.session { x with taken := x.taken.map (fun t => if t.id = c.id then { t with phase := ph } else t) }

/-- A direct command that ends later has started: no ACCEPTED is posted. -/
def startQuietly (c : CmdRef) (s : State) : State := setPhase c .quiet s

/-- Gives a command the answer of its service. -/
def answer (c : CmdRef) (r : State × Answer) : State :=
  match r with
  | (s, .final st fs) => finish c st fs s
  | (s, .accept) => acceptIfNot c s
  | (s, .more b input) => setPhase c (.running b input) s

/-- Serves a taken command of the opcode (R136): judges it by R23 over the header's conditions and `checks`, answers the
failure, or runs `run` and posts its answer. A batch that has started goes on with `run` alone, when its class has a core (R139). A
command that is not there, has another opcode or form, or may not start leaves the state as it is. -/
def serve (op : Nat) (form : List Byte → Bool) (named : List (Nat × Nat))
    (checks : State → Nat → List Byte → List (Bool × Status))
    (run : State → CmdRef → List Byte → State × Answer) (c : CmdRef) (s : State) : State :=
  match findTaken s c, cmdInfo op with
  | some t, some info =>
    if served s c.session && entryOpcode t.entry = op && form t.entry && (if t.isRunning then classTurn s t else mayStart s c t) then
      match if t.isRunning then none else firstFail (headerChecks s c.session info named t.entry ++ checks s c.session t.entry) with
      | some st => finish c st [] s
      | none => answer c (run s c t.entry)
    else s
  | _, _ => s

/-- A form test that every entry passes. -/
def anyForm (_ : List Byte) : Bool := true

end Sys2Proof.Machine
end

