-- ==== Sys2Proof/Machine/Batch.lean ====
section
/-!
DEFINITION. Sys2Proof/Machine/Batch.lean: the rules of batches that SY_ATTR_BATCH, SY_PM_READ, SY_FLOW and SY_KEY_STORE share
(R145; Tables 21 to 24 of 04).
-/
namespace Sys2Proof.Machine

/-- The named bytes of a batch request (Table 21). -/
def batchNamed : List (Nat × Nat) := [(16, 4), (20, 4), (24, 8), (32, 4), (40, 8)]

/-- The item list and the result area of a batch. -/
def batchIn (s : State) (sid : Nat) (e dma : List Byte) : List Byte := readArea s sid (fieldAt e 24 8) (fieldAt e 20 4) dma

/-- A batch with an area that runs past the data buffer: it completes with E_RANGE, and nothing is read (R671). -/
def batchUnread (s : State) (sid : Nat) (e : List Byte) : Bool :=
  areaBad s sid (fieldAt e 24 8) (fieldAt e 20 4) || areaBad s sid (fieldAt e 40 8) (fieldAt e 32 4)

/-- The conditions on a batch's count and areas. Areas too short for its count, at `item` bytes or more an item and 8 a result, show in the
entry alone (R23). -/
def batchAreas (most item : Nat) (s : State) (sid : Nat) (e : List Byte) : List (Bool × Status) :=
  let n := fieldAt e 16 4
  [(decide (fieldAt e 20 4 < item * n) || decide (fieldAt e 32 4 < 8 * n), .eBadParam),
   (n = 0 || decide (most < n) || batchUnread s sid e, .eRange)]

/-- The item list of a command in service: what was read when it started, or what is read now. -/
def batchInput (s : State) (c : CmdRef) (e dma : List Byte) : List Byte :=
  match findTaken s c with
  | some t => (match t.phase with | .running _ input => input | _ => batchIn s c.session e dma)
  | none => batchIn s c.session e dma

/-- What a session may do now. -/
def State.rights (s : State) (sid : Nat) : Rights := ⟨sid, s.attrN .sessionPermission sid, s.attr .sessionPerfRead sid = 1⟩

/-- A batch that starts, with what its session may do then (R141). -/
def batchStart (s : State) (sid : Nat) : BatchRun := { rights := s.rights sid }

/-- How far a command in service has come. -/
def batchProgress (s : State) (c : CmdRef) : BatchRun :=
  match findTaken s c with
  | some t => if t.isRunning then t.progress else batchStart s c.session
  | none => batchStart s c.session

/-- One item's result is written before the next item starts. -/
def batchItem {α : Type} (sid out : Nat) (run : State → α → State × Status × List Byte) (r : State × BatchRun) (item : α) :
    State × BatchRun :=
  let (s, b) := r
  let (s, st, res) := run s item
  let s := writeArea s sid (out + b.off) res
  (s, if st = .ok then { b with off := b.off + res.length, good := b.good + 1 }
      else { b with off := b.off + res.length, bad := b.bad + 1,
                    first := (match b.first with | none => some (b.good + b.bad, st) | some f => some f) })

/-- The fields of Table 24 at the end of a batch, and its status: that of the first failure. -/
def batchEnd (b : BatchRun) (more : List Fld) : Answer :=
  .final (match b.first with | some f => f.2 | none => .ok)
    ([(16, 4, b.good), (20, 4, b.bad), (24, 4, match b.first with | some f => f.1 | none => 0xFFFFFFFF)] ++ more)

/-- Runs at most `slice` more items of a batch in index order, from where it stands (R137, R145): the response once none is left. -/
def runBatch {α : Type} (c : CmdRef) (slice : Nat) (input : List Byte) (out : Nat)
    (run : State → α → State × Status × List Byte) (items : List α) (more : List Fld) (b : BatchRun) (s : State) : State × Answer :=
  let left := items.drop (b.good + b.bad)
  let r := (left.take slice).foldl (batchItem c.session out run) (s, b)
  if left.length ≤ slice then (r.1, batchEnd r.2 more) else (r.1, .more r.2 input)

/-- Runs items in order while the next one can be served. -/
def batchWhile {α : Type} (sid out : Nat) (ready : State → α → Bool) (run : State → α → State × Status × List Byte) :
    List α → State × BatchRun → State × BatchRun
  | [], r => r
  | x :: t, r => if ready r.1 x then batchWhile sid out ready run t (batchItem sid out run r x) else r

/-- As `runBatch`; a slice also stops before an item that has to wait for memory slots or an unwrap engine (R471, R545). -/
def runBatchWhile {α : Type} (c : CmdRef) (slice : Nat) (input : List Byte) (out : Nat) (ready : State → α → Bool)
    (run : State → α → State × Status × List Byte) (items : List α) (more : List Fld) (b : BatchRun) (s : State) : State × Answer :=
  let r := batchWhile c.session out ready run ((items.drop (b.good + b.bad)).take slice) (s, b)
  if items.length ≤ r.2.good + r.2.bad then (r.1, batchEnd r.2 more) else (r.1, .more r.2 input)

/-- The item list of a batch that is to fail: what it read when it started, the data buffer, or host memory read again, whose bytes are
open. -/
def failList (sid : Nat) (t : Taken) (s : State) : List Byte × State :=
  let a := fieldAt t.entry 24 8
  let n := fieldAt t.entry 20 4
  match t.phase with
  | .running _ input => (input, s)
  | _ =>
    if (s.sess sid).onDie then (readArea s sid a n [], s)
    else
      let d := s.draw
      ((List.range n).map (fun k => Config.hostByte d.1 (a + k)), d.2)

/-- The result FAILED_IN_FLIGHT of the items of a batch from one on: 8 bytes each, and for an item of SY_FLOW with op 5 the place of its
entry besides (R152, R490). -/
def failResults (t : Taken) (first left : Nat) (input : List Byte) : List Byte :=
  (List.range left).flatMap (fun k =>
    let reads := entryOpcode t.entry = 0x0E03 && fieldAt input (72 * (first + k)) 1 = 5
    layFields (if reads then 72 else 8) [(0, 1, Status.failedInFlight.code)])

/-- FAILED_IN_FLIGHT as the result of every item of a batch that has none, and the response fields (R152, Table 24 of 04). -/
def failBatch (sid : Nat) (t : Taken) (s : State) : List Fld × State :=
  let n := fieldAt t.entry 16 4
  let b := t.progress
  let left := n - (b.good + b.bad)
  if !isBatch (entryOpcode t.entry) || decide (4096 < n) || t.phase = .started then ([], s)
  else
    let fs : List Fld := [(16, 4, b.good), (20, 4, b.bad + left),
      (24, 4, match b.first with | some f => f.1 | none => if left = 0 then 0xFFFFFFFF else b.good + b.bad)]
    let o := fieldAt t.entry 40 8 + b.off
    let (input, s) := if entryOpcode t.entry = 0x0E03 then failList sid t s else ([], s)
    let d := failResults t (b.good + b.bad) left input
    (fs, if areaBad s sid o d.length || decide (fieldAt t.entry 32 4 < b.off + d.length) then s else writeArea s sid o d)

end Sys2Proof.Machine
end

