-- ==== Sys2Proof/Machine/Crypto.lean ====
section
/-!
DEFINITION. Sys2Proof/Machine/Crypto.lean: the algorithms of the standards that spec/03, spec/15 and spec/16 name: AES-256 (FIPS 197), its
Galois counter mode (SP 800-38D) and key wrap (SP 800-38F), SHA-384 (FIPS 180-4), and ECDSA and the Diffie-Hellman primitive on P-384
(FIPS 186-5, SP 800-56A). PRESUMED, unsafe: their tables and constants are those of the standards (log entry 33).
-/
namespace Sys2Proof.Machine

/-! ### AES-256 (FIPS 197) -/

/-- The bytes of two strings combined by exclusive or, as long as the first. -/
def xorBytes (a b : List Byte) : List Byte := (List.range a.length).map (fun i => byteAt a i ^^^ byteAt b i)

/-- The product in GF(2^8) with field polynomial x^8 + x^4 + x^3 + x + 1. -/
def aesMul (a b : Nat) : Nat :=
  ((List.range 8).foldl (fun (r : Nat × Nat) i =>
    (if bitOf b i then r.1 ^^^ r.2 else r.1, if 128 ≤ r.2 then (2 * r.2) ^^^ 0x11B else 2 * r.2)) (0, a)).1

/-- The inverse: the power 254, which is 0 for 0. -/
def aesInv (a : Nat) : Nat :=
  ((List.range 7).foldl (fun (r : Nat × Nat) _ => let q := aesMul r.2 r.2; (aesMul r.1 q, q)) (1, a)).1

/-- A byte rotated left. -/
def rotByte (a n : Nat) : Nat := (a * 2 ^ n) % 256 ||| a / 2 ^ (8 - n)

/-- SubBytes and its inverse on one byte. -/
def aesSub (x : Byte) : Byte :=
  let i := aesInv x.toNat
  BitVec.ofNat 8 (i ^^^ rotByte i 1 ^^^ rotByte i 2 ^^^ rotByte i 3 ^^^ rotByte i 4 ^^^ 0x63)
def aesUnsub (x : Byte) : Byte :=
  let i := x.toNat
  BitVec.ofNat 8 (aesInv (rotByte i 1 ^^^ rotByte i 3 ^^^ rotByte i 6 ^^^ 0x05))

/-- The round constant of round `i`, from 1: the power i − 1 of 2. -/
def aesRcon : Nat → Nat
  | 0 => 1
  | 1 => 1
  | n + 1 => aesMul (aesRcon n) 2

/-- The next word of the key schedule after the words so far, latest first: of word number `i`. -/
def aesNextWord (w : List (List Byte)) (i : Nat) : List Byte :=
  let t := w.headD []
  let t := if i % 8 = 0 then xorBytes ((t.drop 1 ++ t.take 1).map aesSub) [BitVec.ofNat 8 (aesRcon (i / 8)), 0, 0, 0]
    else if i % 8 = 4 then t.map aesSub else t
  xorBytes (w.getD 7 []) t

/-- The 15 round keys of a 32-byte key. -/
def aesKeys (key : List Byte) : List (List Byte) :=
  let first := ((List.range 8).map (fun i => bytesAt key (4 * i) 4)).reverse
  let words := ((List.range 52).foldl (fun w i => aesNextWord w (i + 8) :: w) first).reverse
  (List.range 15).map (fun r => (words.drop (4 * r)).take 4 |>.flatten)

/-- ShiftRows and its inverse: byte r + 4c of the result is byte r of the column r places on, or back. -/
def aesShift (s : List Byte) : List Byte := (List.range 16).map (fun k => byteAt s ((k + 4 * (k % 4)) % 16))
def aesUnshift (s : List Byte) : List Byte := (List.range 16).map (fun k => byteAt s ((k + 12 * (k % 4)) % 16))

/-- Each column times the circulant matrix with this first row. -/
def aesMix (m : List Nat) (s : List Byte) : List Byte :=
  (List.range 16).map (fun k => BitVec.ofNat 8 ((List.range 4).foldl (fun v j =>
    v ^^^ aesMul (byteAt s (4 * (k / 4) + j)).toNat (m.getD ((j + 4 - k % 4) % 4) 0)) 0))

/-- One block encrypted: key, block. -/
def aesBlock (key block : List Byte) : List Byte :=
  let ks := aesKeys key
  let s := (List.range 13).foldl (fun s r => xorBytes (aesMix [2, 3, 1, 1] (aesShift (s.map aesSub))) (ks.getD (r + 1) []))
    (xorBytes (padTo 16 block) (ks.getD 0 []))
  xorBytes (aesShift (s.map aesSub)) (ks.getD 14 [])

/-- One block decrypted. -/
def aesUnblock (key block : List Byte) : List Byte :=
  let ks := aesKeys key
  let s := (List.range 13).foldl (fun s r =>
      aesMix [14, 11, 13, 9] (xorBytes ((aesUnshift s).map aesUnsub) (ks.getD (13 - r) [])))
    (xorBytes (padTo 16 block) (ks.getD 14 []))
  xorBytes ((aesUnshift s).map aesUnsub) (ks.getD 0 [])

/-! ### Galois counter mode (SP 800-38D) -/

/-- The product of two blocks as numbers whose most significant bit is the block's first. -/
def gcmMul (x y : Nat) : Nat :=
  ((List.range 128).foldl (fun (r : Nat × Nat) i =>
    (if bitOf x (127 - i) then r.1 ^^^ r.2 else r.1, if r.2 % 2 = 1 then r.2 / 2 ^^^ (0xE1 * 2 ^ 120) else r.2 / 2)) (0, y)).1

/-- The blocks of a string as numbers, the last padded with zeros. -/
def gcmBlocks (d : List Byte) : List Nat := (List.range (ceilDiv d.length 16)).map (fun i => beNat (bytesAt d (16 * i) 16))

/-- The hash of additional data and ciphertext under the subkey. -/
def ghash (h : Nat) (aad text : List Byte) : Nat :=
  (gcmBlocks aad ++ gcmBlocks text ++ [8 * aad.length * 2 ^ 64 + 8 * text.length]).foldl (fun y x => gcmMul (y ^^^ x) h) 0

/-- The text under the counter blocks of a 96-bit nonce from 2 on: encryption and decryption alike. -/
def gcmText (key nonce text : List Byte) : List Byte :=
  xorBytes text ((List.range (ceilDiv text.length 16)).flatMap (fun i => aesBlock key (padTo 12 nonce ++ beBytes 4 (i + 2))))

/-- The tag of additional data and ciphertext. -/
def gcmTag (key nonce aad text : List Byte) : List Byte :=
  xorBytes (beBytes 16 (ghash (beNat (aesBlock key [])) aad text)) (aesBlock key (padTo 12 nonce ++ beBytes 4 1))

/-! ### Key wrap (SP 800-38F, KW) -/

/-- Wraps a plain key of whole semiblocks: KEK, key. -/
def keyWrap (kek plain : List Byte) : List Byte :=
  let n := plain.length / 8
  let r := (List.range (6 * n)).foldl (fun (r : List Byte × List Byte) t =>
    let b := aesBlock kek (r.1 ++ bytesAt r.2 (8 * (t % n)) 8)
    (xorBytes (b.take 8) (beBytes 8 (t + 1)), r.2.take (8 * (t % n)) ++ b.drop 8 ++ r.2.drop (8 * (t % n) + 8)))
    (List.replicate 8 0xA6, plain)
  r.1 ++ r.2

/-- Unwraps: none when the integrity check fails. -/
def keyUnwrap (kek blob : List Byte) : Option (List Byte) :=
  let n := blob.length / 8 - 1
  let r := (List.range (6 * n)).reverse.foldl (fun (r : List Byte × List Byte) t =>
    let b := aesUnblock kek (xorBytes r.1 (beBytes 8 (t + 1)) ++ bytesAt r.2 (8 * (t % n)) 8)
    (b.take 8, r.2.take (8 * (t % n)) ++ b.drop 8 ++ r.2.drop (8 * (t % n) + 8)))
    (blob.take 8, blob.drop 8)
  if r.1 = List.replicate 8 0xA6 then some r.2 else none

/-! ### SHA-384 (FIPS 180-4) -/

/-- The round constants. -/
def shaK : List (BitVec 64) :=
  [0x428A2F98D728AE22, 0x7137449123EF65CD, 0xB5C0FBCFEC4D3B2F, 0xE9B5DBA58189DBBC] ++
  [0x3956C25BF348B538, 0x59F111F1B605D019, 0x923F82A4AF194F9B, 0xAB1C5ED5DA6D8118] ++
  [0xD807AA98A3030242, 0x12835B0145706FBE, 0x243185BE4EE4B28C, 0x550C7DC3D5FFB4E2] ++
  [0x72BE5D74F27B896F, 0x80DEB1FE3B1696B1, 0x9BDC06A725C71235, 0xC19BF174CF692694] ++
  [0xE49B69C19EF14AD2, 0xEFBE4786384F25E3, 0x0FC19DC68B8CD5B5, 0x240CA1CC77AC9C65] ++
  [0x2DE92C6F592B0275, 0x4A7484AA6EA6E483, 0x5CB0A9DCBD41FBD4, 0x76F988DA831153B5] ++
  [0x983E5152EE66DFAB, 0xA831C66D2DB43210, 0xB00327C898FB213F, 0xBF597FC7BEEF0EE4] ++
  [0xC6E00BF33DA88FC2, 0xD5A79147930AA725, 0x06CA6351E003826F, 0x142929670A0E6E70] ++
  [0x27B70A8546D22FFC, 0x2E1B21385C26C926, 0x4D2C6DFC5AC42AED, 0x53380D139D95B3DF] ++
  [0x650A73548BAF63DE, 0x766A0ABB3C77B2A8, 0x81C2C92E47EDAEE6, 0x92722C851482353B] ++
  [0xA2BFE8A14CF10364, 0xA81A664BBC423001, 0xC24B8B70D0F89791, 0xC76C51A30654BE30] ++
  [0xD192E819D6EF5218, 0xD69906245565A910, 0xF40E35855771202A, 0x106AA07032BBD1B8] ++
  [0x19A4C116B8D2D0C8, 0x1E376C085141AB53, 0x2748774CDF8EEB99, 0x34B0BCB5E19B48A8] ++
  [0x391C0CB3C5C95A63, 0x4ED8AA4AE3418ACB, 0x5B9CCA4F7763E373, 0x682E6FF3D6B2B8A3] ++
  [0x748F82EE5DEFB2FC, 0x78A5636F43172F60, 0x84C87814A1F0AB72, 0x8CC702081A6439EC] ++
  [0x90BEFFFA23631E28, 0xA4506CEBDE82BDE9, 0xBEF9A3F7B2C67915, 0xC67178F2E372532B] ++
  [0xCA273ECEEA26619C, 0xD186B8C721C0C207, 0xEADA7DD6CDE0EB1E, 0xF57D4F7FEE6ED178] ++
  [0x06F067AA72176FBA, 0x0A637DC5A2C898A6, 0x113F9804BEF90DAE, 0x1B710B35131C471B] ++
  [0x28DB77F523047D84, 0x32CAAB7B40C72493, 0x3C9EBE0A15C9BEBC, 0x431D67C49C100D4C] ++
  [0x4CC5D4BECB3E42B6, 0x597F299CFC657E2A, 0x5FCB6FAB3AD6FAEC, 0x6C44198C4A475817]

/-- The first hash value of SHA-384. -/
def shaH : List (BitVec 64) :=
  [0xCBBB9D5DC1059ED8, 0x629A292A367CD507, 0x9159015A3070DD17, 0x152FECD8F70E5939] ++
  [0x67332667FFC00B31, 0x8EB44A8768581511, 0xDB0C2E0D64F98FA7, 0x47B5481DBEFA4FA4]

/-- The message schedule of a block of 128 bytes, latest word first. -/
def shaSchedule (block : List Byte) : List (BitVec 64) :=
  (List.range 64).foldl (fun w _ =>
    let a := w.getD 14 0
    let b := w.getD 1 0
    (w.getD 15 0 + (a.rotateRight 1 ^^^ a.rotateRight 8 ^^^ a >>> 7) + w.getD 6 0 +
      (b.rotateRight 19 ^^^ b.rotateRight 61 ^^^ b >>> 6)) :: w)
    ((List.range 16).map (fun i => BitVec.ofNat 64 (beNat (bytesAt block (8 * i) 8)))).reverse

/-- The eight working variables. -/
structure ShaVars where
  a : BitVec 64
  b : BitVec 64
  c : BitVec 64
  d : BitVec 64
  e : BitVec 64
  f : BitVec 64
  g : BitVec 64
  h : BitVec 64
deriving DecidableEq, Repr

/-- One round with its constant plus its schedule word. -/
def shaRound (v : ShaVars) (kw : BitVec 64) : ShaVars :=
  let t1 := v.h + (v.e.rotateRight 14 ^^^ v.e.rotateRight 18 ^^^ v.e.rotateRight 41) + (v.e &&& v.f ^^^ ~~~v.e &&& v.g) + kw
  let t2 := (v.a.rotateRight 28 ^^^ v.a.rotateRight 34 ^^^ v.a.rotateRight 39) + (v.a &&& v.b ^^^ v.a &&& v.c ^^^ v.b &&& v.c)
  ⟨t1 + t2, v.a, v.b, v.c, v.d + t1, v.e, v.f, v.g⟩

/-- One block joins the hash value. -/
def shaBlock (h : List (BitVec 64)) (block : List Byte) : List (BitVec 64) :=
  let x := fun i => h.getD i 0
  let v := (List.zipWith (· + ·) shaK (shaSchedule block).reverse).foldl shaRound ⟨x 0, x 1, x 2, x 3, x 4, x 5, x 6, x 7⟩
  [x 0 + v.a, x 1 + v.b, x 2 + v.c, x 3 + v.d, x 4 + v.e, x 5 + v.f, x 6 + v.g, x 7 + v.h]

/-- The digest, 48 bytes. -/
def sha384 (m : List Byte) : List Byte :=
  let d := m ++ [0x80] ++ List.replicate ((239 - m.length % 128) % 128) 0 ++ beBytes 16 (8 * m.length)
  (((List.range (d.length / 128)).foldl (fun h i => shaBlock h (bytesAt d (128 * i) 128)) shaH).take 6).flatMap
    (fun w => beBytes 8 w.toNat)

/-! ### P-384 (FIPS 186-5, SP 800-186) -/

/-- The field modulus and the group order. -/
def p384p : Nat := 2 ^ 384 - 2 ^ 128 - 2 ^ 96 + 2 ^ 32 - 1
def p384n : Nat := 0xFFFFFFFFFFFFFFFFFFFFFFFFFFFFFFFFFFFFFFFFFFFFFFFFC7634D81F4372DDF581A0DB248B0A77AECEC196ACCC52973

/-- The coefficient b of y² = x³ − 3x + b. -/
def p384b : Nat := 0xB3312FA7E23EE7E4988E056BE3F82D19181D9C6EFE8141120314088F5013875AC656398D8A2ED19D2A85C8EDD3EC2AEF

/-- A point in affine coordinates; none: the point at infinity. -/
abbrev EcPoint := Option (Nat × Nat)

/-- The base point. -/
def p384g : EcPoint := some
  (0xAA87CA22BE8B05378EB1C71EF320AD746E1D3B628BA79B9859F741E082542A385502F25DBF55296C3A545E3872760AB7,
   0x3617DE4A96262C6F5D9E98BF9292DC29F8F41DBD289A147CE9DA3113B5F0B8C00A60B1CE1D7E819D7A431D7C90EA0E5F)

/-- A power modulo m, for exponents below 2^384. -/
def powMod (b e m : Nat) : Nat :=
  (List.range 384).foldl (fun r i => let q := r * r % m; if bitOf e (383 - i) then q * b % m else q) 1

/-- The inverse modulo a prime. -/
def invMod (a m : Nat) : Nat := powMod (a % m) (m - 2) m

/-- The sum of two points. -/
def ecAdd : EcPoint → EcPoint → EcPoint
  | none, q => q
  | p, none => p
  | some (x1, y1), some (x2, y2) =>
    if x1 = x2 && (y1 + y2) % p384p = 0 then none
    else
      let l := if x1 = x2 then (3 * x1 * x1 + (p384p - 3)) * invMod (2 * y1) p384p % p384p
        else (y2 + (p384p - y1)) * invMod (x2 + (p384p - x1)) p384p % p384p
      let x := (l * l + (p384p - x1) + (p384p - x2)) % p384p
      some (x, (l * (x1 + (p384p - x)) + (p384p - y1)) % p384p)

/-- A scalar of 384 bits times a point. -/
def ecMul (k : Nat) (p : EcPoint) : EcPoint :=
  (List.range 384).foldl (fun r i => let q := ecAdd r r; if bitOf k (383 - i) then ecAdd q p else q) none

/-- A point from its 96 bytes (R548): all zeros is the point at infinity. -/
def ecPoint (b : List Byte) : EcPoint :=
  let x := beNat (bytesAt b 0 48)
  let y := beNat (bytesAt b 48 48)
  if x = 0 && y = 0 then none else some (x, y)

/-- The 96 bytes of a point. -/
def ecBytes : EcPoint → List Byte
  | none => List.replicate 96 0
  | some (x, y) => beBytes 48 x ++ beBytes 48 y

/-- The x coordinate, 0 for the point at infinity. -/
def ecX : EcPoint → Nat
  | none => 0
  | some (x, _) => x

/-- Whether 96 bytes are a point of the curve other than the point at infinity. -/
def ecOnCurve (b : List Byte) : Bool :=
  match ecPoint b with
  | none => false
  | some (x, y) => decide (x < p384p) && decide (y < p384p) && y * y % p384p = (x * x * x + (p384p - 3) * x + p384b) % p384p

/-- The public point of a private scalar. -/
def ecPublic (scalar : List Byte) : List Byte := ecBytes (ecMul (beNat scalar) p384g)

/-- The Diffie-Hellman primitive: the x coordinate of scalar times point. -/
def ecShared (scalar peer : List Byte) : List Byte := beBytes 48 (ecX (ecMul (beNat scalar) (ecPoint peer)))

/-- ECDSA verification: public key, digest of 48 bytes, signature. -/
def ecdsaVerify (key digest sig : List Byte) : Bool :=
  let r := beNat (bytesAt sig 0 48)
  let s := beNat (bytesAt sig 48 48)
  let w := invMod s p384n
  let q := ecAdd (ecMul (beNat (bytesAt digest 0 48) * w % p384n) p384g) (ecMul (r * w % p384n) (ecPoint key))
  decide (0 < r) && decide (r < p384n) && decide (0 < s) && decide (s < p384n) && q.isSome && ecX q % p384n = r

/-- ECDSA signature: private scalar, digest of 48 bytes, per-message secret. -/
def ecdsaSign (scalar digest : List Byte) (k : Nat) : List Byte :=
  let r := ecX (ecMul k p384g) % p384n
  beBytes 48 r ++ beBytes 48 (invMod k p384n * ((beNat (bytesAt digest 0 48) + r * beNat scalar) % p384n) % p384n)

end Sys2Proof.Machine
end

