-- ==== Sys2Proof/Machine/Flags.lean ====
section
/-!
DEFINITION. Sys2Proof/Machine/Flags.lean: the status words the block computes: BAR0 words, the interrupt balls, the block
and domain status of spec/05, and what a read of BAR0 answers.
-/
namespace Sys2Proof.Machine

/-! ### Clocks and gated blocks (05) -/

/-- A clock domain. -/
def State.dom (s : State) (d : Nat) : Domain := Tab.get {} s.clk.domains d

/-- The domain runs at ratio 1. -/
def State.domRuns (s : State) (d : Nat) : Bool := (s.dom d).ratio = 1

/-- The domains a block of Table 6 (05) needs: bit number of `block_enable` to domains. -/
def blockDomains : Nat → List Nat
  | 0 => [42, 43] | 1 => [44, 45] | 2 => [58] | 3 => [59] | 4 => [51] | 5 => [52] | 6 => [21] | 7 => [25]
  | 8 => [18] | 9 => [22] | 10 => (List.range 16).map (· + 26) | 11 => [49] | _ => []

/-- A lane domain that dormancy holds stopped (R178): it gates no block. -/
def laneResting (s : State) (d : Nat) : Bool :=
  decide (26 ≤ d) && decide (d < 42) && (s.dom d).ratio = 0 &&
    (List.range 4).all (fun k => s.attr .laneState (4 * (d - 26) + k) = 1)

/-- The bit of a block is set and its clock has reached ratio 1 (R180). The eye scan's clock is that of every lane domain that dormancy
does not hold stopped (DESIGN CHOICE, log entry 46). Bit 12, the image window, is set while a
download is open. -/
def blockReadyBit (s : State) (b : Nat) : Bool :=
  if b = 12 then s.boot.download.isSome
  else b < 12 && bitOf (s.attrN .clockBlockEnable) b && (blockDomains b).all (fun d => s.domRuns d || laneResting s d)

/-- A block is gated (R180). -/
def gated (s : State) (b : Nat) : Bool := !blockReadyBit s b

/-- `device.house.clock.block_ready`. -/
def blockReady (s : State) : Nat := maskOf ((List.range 13).filter (blockReadyBit s))

/-- `device.house.clock.domain_running`: bit i for Di at ratio 1. -/
def domainRunning (s : State) : Nat := maskOf ((List.range 64).filter s.domRuns)

/-- `device.house.clock.domain_ramping`: bit i for Di in a ramp. -/
def domainRamping (s : State) : Nat := maskOf ((List.range 64).filter (fun d => (s.dom d).ramp ≠ .idle))

/-! ### The optics control port (R236, R357, R358, R619) -/

/-- A line of the optics control port that a transaction with this chip select needs is flagged (Table 4 of 18): `OPC_SCK`, the
chip select, `OPC_MOSI`. -/
def opcFlagged (s : State) (cs : Nat) : Bool :=
  let f := s.attrN .pinsFault
  bitOf f 7 || bitOf f (8 + cs) || bitOf f 10

/-- The present boundary in units of 320 ns, the time of a byte at 25 MHz (R237). -/
def opcNow (s : State) : Nat := 4 * s.tick.toNat

/-- A frame of so many bytes begins on the port, when the frame before it has ended. -/
def opcBegin (cs : Nat) (mosi : List Byte) (bytes : Nat) (s : State) : State :=
  let start := max (opcNow s) s.pins.opcUntil
  { (s.emit (.opcFrame cs start mosi bytes)) with pins := { s.pins with opcUntil := start + bytes } }

/-- A frame of the hardware, which takes the port ahead of the transactions of firmware that have not begun (R237, R358): not made, and
counted, while a line is flagged. -/
def opcSend (cs : Nat) (mosi : List Byte) (bytes : Nat) (s : State) : State :=
  if opcFlagged s cs then s.bump .pinsOpcSkipped else opcBegin cs mosi bytes s

/-- A transaction of firmware waits for the port. -/
def opcQueue (cs : Nat) (mosi : List Byte) (s : State) : State :=
  { s with pins := { s.pins with opcWaits := s.pins.opcWaits ++ [(cs, mosi)] } }

/-- The transactions of firmware begin, in their order, that can begin before the next boundary. -/
def opcDrain (s : State) : State :=
  s.pins.opcWaits.foldl (fun s w =>
    if s.pins.opcUntil < opcNow s + 4 then
      let s := { s with pins := { s.pins with opcWaits := s.pins.opcWaits.drop 1 } }
      opcSend w.1 w.2 w.2.length s
    else s) s

/-- The frame that writes an 8-bit register of the optical engine (R237). -/
def opcByteFrame (reg value : Nat) : List Byte := [0x02] ++ beBytes 2 reg ++ beBytes 1 value

/-- The frame that writes a beacon word, and the one that reads one (R358). -/
def opcWordFrame (reg word : Nat) : List Byte := [0x02] ++ beBytes 2 reg ++ beBytes 4 word
def opcReadFrame (reg : Nat) : List Byte := [0x0B] ++ beBytes 2 reg

/-! ### Image headers and the directory (03) -/

/-- The regions of the NOR (Table 1 of 03). -/
inductive NorRegion where
  | directory (copy : Nat)
  | slot (k : Nat)
  | nvm
  | unused
deriving DecidableEq, Repr

/-- The region a NOR address lies in; addresses above 0x01FF_FFFF are not used (R77). -/
def norRegion (a : Nat) : NorRegion :=
  if a < 0x8000 then .directory 0
  else if a < 0x10000 then .directory 1
  else if a < 0xC10000 then .slot 0
  else if a < 0x1810000 then .slot 1
  else if a < 0x2000000 then .nvm
  else .unused

/-- The NOR address of block b of a slot (R77, R80). -/
def norBlockAddr (slot b : Nat) : Nat := 0x10000 + 0xC00000 * slot + 4096 * b

/-- The bytes of a directory that its check word covers. The spec gives no layout for them: DESIGN CHOICE, log entry 120. -/
def Dir.bytes (d : Dir) : List Byte :=
  let mark := fun (m : SlotMark) => match m with | .invalid => 0 | .unconfirmed => 1 | .confirmed => 2
  leBytes 8 d.seq ++ leBytes 8 d.preferred ++ leBytes 1 (mark d.markA) ++ leBytes 1 (mark d.markB) ++ leBytes 1 (b01 d.trialA) ++
    leBytes 1 (b01 d.trialB)

/-- The check word of a copy verifies (R78). -/
def DirCopy.good (c : DirCopy) : Bool := c.check = crc32c c.dir.bytes

/-- The contents of a copy whose check word verifies. -/
def dirOf (c : Option DirCopy) : Option Dir :=
  match c with | some c => if c.good then some c.dir else none | none => none

/-- The directory in use: the copy whose check word verifies with the higher sequence number; with both copies erased, slot A
preferred and both slots confirmed (R78). Two copies of which none verifies, though not both are erased, are read in the same way
(DESIGN CHOICE, log entry 121). -/
def Nor.dir (n : Nor) : Dir :=
  match dirOf n.copy0, dirOf n.copy1 with
  | some a, some b => if a.seq < b.seq then b else a
  | some a, none => a
  | none, some b => b
  | none, none => {}

/-- The mark of a slot. -/
def Dir.mark (d : Dir) (slot : Nat) : SlotMark := if slot = 0 then d.markA else d.markB

/-- A block of a slot; an unlisted one is erased. -/
def Nor.block (n : Nor) (slot b : Nat) : List Byte :=
  let l := Tab.get [] n.blocks (norBlockAddr slot b)
  if l.isEmpty then List.replicate 4096 0xFF else l

/-- A field of a slot's header block (Table 2 of 03). -/
def Nor.header (n : Nor) (slot o k : Nat) : Nat := fieldAt (n.block slot 0) o k

/-- `security_version` of the running image, 0 when none runs. -/
def runningVersion (s : State) : Nat :=
  match s.boot.running with | some k => s.nor.header k 6 2 | none => 0

/-! ### BAR0 words -/

/-- GLOBAL_STATUS (Table 3 of 04). -/
def globalStatus (s : State) : Nat :=
  s.attrN .firmwareLoadPct * 256 + 8 * s.attrN .clockPllCoast + 4 * b01 s.minimal + 2 * b01 s.power.straps.hostif
    + b01 s.pcie.linkUp

/-- PERF_CTRL (Table 5 of 04). -/
def perfCtrl (s : State) : Nat :=
  8 * b01 s.bar.frozen + 4 * b01 s.bar.snapshotPending + b01 s.bar.freeze

/-- The code of a session state (Table 9 of 04). -/
def SessionState.code : SessionState → Nat
  | .closed => 0 | .opened => 1 | .closing => 2 | .ringError => 3

/-- SESSION_CTRL (Table 9 of 04). -/
def sessionCtrl (s : State) (i : Nat) : Nat :=
  let x := s.sess i
  4096 * x.state.code + 1024 * s.attrN .sessionPerfRead i + 256 * s.attrN .sessionPermission i
    + 8 * b01 x.eventIrq + 4 * b01 x.rspIrq + 2 * b01 x.onDie + b01 x.enable

/-- SESSION_STATUS (Table 10 of 04). -/
def sessionStatus (s : State) (i : Nat) : Nat :=
  let x := s.sess i
  2 ^ 31 * b01 x.cfgIgnored + 2 ^ 30 * b01 x.ringErrorBit + 2 ^ 29 * b01 x.eventPosted + 2 ^ 28 * b01 x.rspPosted
    + 65536 * x.hold.length + x.taken.length

/-- BOOT_STATUS (Table 4 of 03). -/
def bootStatus (s : State) : Nat :=
  let b := s.boot
  let slot := b.running.getD 0
  2 ^ 28 * b.stage + 2 ^ 27 * slot
    + 2 ^ 26 * b01 (b.running.isSome && s.nor.dir.mark slot = .confirmed)
    + 2 ^ 25 * b01 (b.service = .rom) + 65536 * runningVersion s + 128 * s.attrN .firmwareOtpCounter

/-- BOOT_REASON (Table 5 of 03). -/
def bootReason (s : State) : Nat :=
  let b := s.boot
  2 ^ 24 * b.reason + 2 ^ 20 * b.resultA + 65536 * b.resultB + 16 * b.failBlock + 4 * s.sealed.failCount
    + 2 * b.failSlot

/-- ALARM_N is driven low: an unmasked alarm (R126), or the sequencer after a failed rail start (R55). -/
def alarmLow (s : State) : Bool := s.power.sequencerAlarm || (s.bar.alarms &&& ~~~s.bar.alarmMask) ≠ 0

/-- HSPI_IRQ_N is driven low (R132). -/
def hspiIrqLow (s : State) : Bool :=
  alarmLow s || (List.range 8).any (fun i =>
    ((s.sess i).rspPosted && (s.sess i).rspIrq) || ((s.sess i).eventPosted && (s.sess i).eventIrq))

/-! ### Gates -/

/-- Word `w` of a STATE array: 1 for a stopped gate, so 0 for those of the released set (R153). -/
def gateWord (released : List Nat) (w : Nat) : Nat :=
  maskOf ((List.range 32).filter (fun b => !released.contains (32 * w + b)))

/-! ### The ring window -/

/-- The byte at an offset of a session's 64 KiB of window pages (Table 13 of 04, R131). -/
def windowByte (x : Session) (o : Nat) : Byte :=
  let page := o / 4096
  if page < 4 then Tab.get 0 x.mem o
  else if page < 12 then
    if x.onDie && page < 8 then byteAt (Tab.get [] x.ring ((o - 16384) / 64)) (o % 64)
    else
      let k := if x.onDie then (o - 32768) / 64 else (o - 16384) / 64
      match x.hold[k]? with | some h => byteAt h.bytes (o % 64) | none => 0
  else if page < 14 then Tab.get 0 x.mem o
  else 0

/-- What a read of the aligned word at an offset of BAR0 answers, by Table 1 of 04 (an unassigned offset reads 0). -/
def barWord (s : State) (o : Nat) : Nat :=
  if o = 0x0000 then 0x5A480100
  else if o = 0x0004 then globalStatus s
  else if o = 0x0008 then s.tick.toNat % 2 ^ 32
  else if o = 0x000C then s.bar.tickHi.toNat
  else if o = 0x0010 then perfCtrl s
  else if o = 0x0014 then s.bar.snapTick.toNat % 2 ^ 32
  else if o = 0x0018 then s.bar.snapTickHi.toNat
  else if o = 0x0020 then 256 * s.bar.ringSession + s.bar.ringPage
  else if o = 0x0024 then 2 * b01 s.bar.spiFraming + b01 s.bar.spiBusError
  else if 0x1000 ≤ o ∧ o < 0x1800 then
    let i := (o - 0x1000) / 256
    let x := s.sess i
    match o % 256 with
    | 0x00 => sessionCtrl s i
    | 0x04 => sessionStatus s i
    | 0x08 => x.cmdBase % 2 ^ 32
    | 0x0C => x.cmdBase / 2 ^ 32
    | 0x10 => x.rspBase % 2 ^ 32
    | 0x14 => x.rspBase / 2 ^ 32
    | 0x18 => x.cmdProducer
    | 0x1C => x.cmdConsumer
    | 0x20 => x.rspProducer
    | 0x24 => x.rspConsumer
    | _ => 0
  else if 0x2000 ≤ o ∧ o < 0x2200 then gateWord s.gates.chC2l ((o - 0x2000) / 4)
  else if 0x2200 ≤ o ∧ o < 0x2400 then gateWord s.gates.chL2c ((o - 0x2200) / 4)
  else if 0x2C00 ≤ o ∧ o < 0x2C40 then gateWord s.gates.grpC2l ((o - 0x2C00) / 4)
  else if 0x2C40 ≤ o ∧ o < 0x2C80 then gateWord s.gates.grpL2c ((o - 0x2C40) / 4)
  else if o = 0x2E00 then 256 * b01 s.gates.pending
  else if o = 0x2E04 then s.bar.gateTick.toNat % 2 ^ 32
  else if o = 0x2E08 then s.bar.gateTickHi.toNat
  else if 0xD000 ≤ o ∧ o < 0xE000 then
    let x := s.sess s.bar.ringSession
    leNat ((List.range 4).map (fun k => windowByte x (4096 * s.bar.ringPage + (o - 0xD000) + k)))
  else if 0xE000 ≤ o ∧ o < 0xF000 then
    leNat ((List.range 4).map (fun k => Tab.get 0 s.bar.imageWindow (o - 0xE000 + k)))
  else if 0xF000 ≤ o ∧ o < 0xF0A0 then
    (Tab.get (if (o - 0xF000) / 4 % 4 = 3 then 1 else 0) s.pcie.msixTab ((o - 0xF000) / 4)).toNat
  else if o = 0xF800 then maskOf s.pcie.pba
  else if o = 0xFF00 then bootStatus s
  else if o = 0xFF04 then bootReason s
  else if o = 0xFF08 then s.bar.alarms.toNat
  else if o = 0xFF0C then s.bar.alarmMask.toNat
  else 0

/-- The image window at this offset is gated (R180). -/
def gatedOffset (s : State) (o : Nat) : Bool := decide (0xE000 ≤ o) && decide (o < 0xF000) && gated s 12

/-- BAR0 logic is powered and clocked. -/
def barAlive (s : State) : Bool :=
  match s.power.phase with
  | .booting | .active | .minimal => true
  | _ => false

end Sys2Proof.Machine
end

