-- ==== Sys2Proof/Machine/Image.lean ====
section
/-!
DEFINITION. Sys2Proof/Machine/Image.lean: the boot directory, the check of an image, and the image commands (spec/03).
-/
namespace Sys2Proof.Machine

/-! ### The directory (R78) -/

/-- The copy in use: 0 or 1; 1 when neither verifies, so that copy 0 is written first. -/
def Nor.inUse (n : Nor) : Nat :=
  match dirOf n.copy0, dirOf n.copy1 with
  | some a, some b => if a.seq < b.seq then 1 else 0
  | some _, none => 0
  | none, _ => 1

/-- A copy with its check word (R57, R78). -/
def Dir.copy (d : Dir) : DirCopy := ⟨d, crc32c d.bytes⟩

/-- Rewrites the copy that is not in use with the next sequence number, its check word last (R57, R78). -/
def dirWrite (f : Dir → Dir) (s : State) : State :=
  let d := { f s.nor.dir with seq := s.nor.dir.seq + 1 }
  { s with nor := if s.nor.inUse = 0 then { s.nor with copy1 := some d.copy } else { s.nor with copy0 := some d.copy } }

/-- Writes a block of a slot, where its address lies in an image slot (R77, R79). -/
def norWrite (slot b : Nat) (data : List Byte) (s : State) : State :=
  match norRegion (norBlockAddr slot b) with
  | .slot _ => { s with nor := { s.nor with blocks := Tab.put [] s.nor.blocks (norBlockAddr slot b) data } }
  | _ => s

/-- A directory with the mark of a slot replaced; its trial is unused (DESIGN CHOICE, log entry 180). -/
def Dir.withMark (slot : Nat) (m : SlotMark) (d : Dir) : Dir :=
  if slot = 0 then { d with markA := m, trialA := false } else { d with markB := m, trialB := false }

/-- A directory in which a slot's trial is used. -/
def Dir.tried (slot : Nat) (d : Dir) : Dir := if slot = 0 then { d with trialA := true } else { d with trialB := true }

/-- A slot's trial is used. -/
def Dir.trial (d : Dir) (slot : Nat) : Bool := if slot = 0 then d.trialA else d.trialB

/-! ### The check of an image (R80 to R84) -/

/-- What the check of a slot finds: the result code of Table 8, 1 for an image that passes; whether the key digest is what fails;
and the first block that fails R80. -/
structure ImageCheck where
  code : Nat
  keyBad : Bool := false
  failBlock : Option Nat := none
deriving DecidableEq, Repr

/-- R80: the check word of a block. -/
def blockGood (b : List Byte) : Bool := b.length = 4096 && fieldAt b 4092 4 = crc32c (b.take 4092)

/-- The digest of an image key in OTP; empty for an unprogrammed slot. -/
def otpDigest (s : State) (k : Nat) : List Byte := Tab.get [] s.fuse.keyDigest k

/-- R83, but for the key digest. A `key_index` above 3, which Table 2 excludes and R83 does not list, is counted among the invalid
headers that are reported E_INTEGRITY (DESIGN CHOICE, log entry 122). -/
def headerGood (h : List Byte) : Bool :=
  h.take 4 = asciiBytes "ZUHM" && fieldAt h 4 2 = 1 && decide (3 ≤ fieldAt h 16 4) && decide (fieldAt h 16 4 ≤ 3072) &&
    decide (fieldAt h 6 2 ≤ 256) && fieldAt h 14 2 = 0 && decide (fieldAt h 24 1 ≤ 3) && fieldAt h 25 7 = 0 &&
    fieldAt h 128 3964 = 0

/-- The digest slot is programmed and holds the SHA-384 digest of the header's public key (R83). -/
def keyGood (s : State) (h : List Byte) : Bool :=
  let d := otpDigest s (fieldAt h 24 1)
  !d.isEmpty && d = sha384 (bytesAt h 32 96)

/-- R82: the signature block and its signature. -/
def signatureGood (s : State) (slot : Nat) (h : List Byte) : Bool :=
  let n := fieldAt h 16 4
  let sig := s.nor.block slot (n - 1)
  let body := (List.range (n - 1)).flatMap (fun b => s.nor.block slot b)
  ecdsaVerify (bytesAt h 32 96) (sha384 body) (bytesAt sig 0 96)

/-- R84 over a slot. `norOk` says that the NOR responds. -/
def checkImage (s : State) (slot : Nat) (norOk : Bool) : ImageCheck :=
  let h := s.nor.block slot 0
  if !norOk then { code := 2 }
  else if !headerGood h then { code := 3 }
  else if !keyGood s h then { code := 3, keyBad := true }
  else match (List.range (fieldAt h 16 4)).find? (fun b => !blockGood (s.nor.block slot b)) with
    | some b => { code := 4, failBlock := some b }
    | none =>
      if !signatureGood s slot h then { code := 5 }
      else if decide ((fieldAt h 6 2 : Int) < s.attr .firmwareOtpCounter) then { code := 6 }
      else { code := 1 }

/-- The status with which SY_IMAGE_VERIFY reports a check (R105). A NOR that does not respond fails the block check. -/
def ImageCheck.status (k : ImageCheck) : Status :=
  if k.code = 1 then .ok
  else if k.keyBad || k.code = 5 then .eSignature
  else if k.code = 6 then .eRollback
  else .eIntegrity

/-! ### The commands (R100 to R108, R114) -/

/-- SY_IMAGE_BEGIN (R102). -/
def execSyImageBegin (c : CmdRef) (s : State) : Host.Outcome State Fault Refusal :=
  .next (serve 0x0301 anyForm [(16, 1), (20, 4)]
    (fun s _ e =>
      let slot := fieldAt e 16 1
      [(decide (1 < slot) || decide (fieldAt e 20 4 < 3) || decide (3072 < fieldAt e 20 4), .eRange),
       (s.boot.running = some slot || s.boot.download.isSome || s.boot.act.isSome, .eState)])
    (fun s _ e =>
      let slot := fieldAt e 16 1
      let s := dirWrite (Dir.withMark slot .invalid) s
      ({ s with boot := { s.boot with
          download := some (slot, fieldAt e 20 4)
          staged := if s.boot.staged = some slot then none else s.boot.staged } }, .final .ok [])) c s)

/-- The image window as one block (R101). -/
def windowBlock (s : State) : List Byte := (List.range 4096).map (fun k => Tab.get 0 s.bar.imageWindow k)

/-- SY_IMAGE_WRITE (R103, R104). -/
def execSyImageWrite (c : CmdRef) (s : State) : Host.Outcome State Fault Refusal :=
  .next (serve 0x0302 anyForm [(16, 4), (20, 4)]
    (fun s _ e =>
      [((match s.boot.download with | some d => decide (d.2 ≤ fieldAt e 16 4) | none => false), .eRange),
       (s.boot.download.isNone, .eState)])
    (fun s _ e =>
      let b := windowBlock s
      match s.boot.download with
      | none => (s, .final .eState [])
      | some d =>
        if crc32c b = fieldAt e 20 4 && blockGood b then
          (norWrite d.1 (fieldAt e 16 4) b s, .final .ok [])
        else (s, .final .eIntegrity [])) c s)

/-- SY_IMAGE_VERIFY (R105): the check begins. -/
def execSyImageVerify (c : CmdRef) (s : State) : Host.Outcome State Fault Refusal :=
  .next (serve 0x0303 anyForm [(16, 1)]
    (fun s _ e => [(decide (1 < fieldAt e 16 1), .eRange), (s.boot.act.isSome, .eState)])
    (fun s c e => ({ s with boot := { s.boot with verify := s.boot.verify ++ [⟨fieldAt e 16 1, c⟩] } }, .accept)) c s)

/-- IMAGE_VERIFY_DONE (R105, R106): the oldest check ends; with E_STATE where an activation has begun since. A NOR that does not
respond shows no header: its fields read 0 (DESIGN CHOICE, log entry 166). -/
def execImageVerifyDone (norOk : Bool) (s : State) : Host.Outcome State Fault Refusal :=
  .next (match s.boot.verify with
    | [] => s
    | j :: t =>
      let s := { s with boot := { s.boot with verify := t } }
      let k := checkImage s j.slot norOk
      let h := if norOk then s.nor.block j.slot 0 else []
      let fs : List Fld := [(16, 4, k.failBlock.getD 0xFFFFFFFF), (20, 2, if k.code = 3 then 0 else fieldAt h 6 2),
        (22, 2, fieldAt h 12 2), (24, 4, fieldAt h 8 4)]
      if s.boot.act.isSome then finish j.cmd .eState [] s
      else
      let s := if k.code = 1 then
          let s := dirWrite (Dir.withMark j.slot .unconfirmed) s
          { s with boot := { s.boot with
              download := (match s.boot.download with
                | some d => if d.1 = j.slot then none else some d
                | none => none)
              staged := if s.boot.service = .firmware then some j.slot else s.boot.staged } }
        else s
      finish j.cmd k.status fs s)

/-- SY_IMAGE_ACTIVATE of mode 1. -/
def isPreferredForm (e : List Byte) : Bool := fieldAt e 17 1 = 1

/-- SY_IMAGE_ACTIVATE_PREFERRED (R107). -/
def execSyImageActivatePreferred (c : CmdRef) (s : State) : Host.Outcome State Fault Refusal :=
  .next (serve 0x0304 isPreferredForm [(16, 1), (17, 1)]
    (fun s _ e =>
      let slot := fieldAt e 16 1
      [(decide (1 < slot), .eRange), (decide (slot ≤ 1) && s.nor.dir.mark slot = .invalid, .eState)])
    (fun s _ e => (dirWrite (fun d => { d with preferred := fieldAt e 16 1 }) s, .final .ok [])) c s)

/-- SY_IMAGE_ACTIVATE_HITLESS (R108): mode 0, and any mode Table 13 does not give. The staged copy is re-checked. -/
def execSyImageActivateHitless (c : CmdRef) (s : State) : Host.Outcome State Fault Refusal :=
  .next (serve 0x0304 (fun e => !isPreferredForm e) [(16, 1), (17, 1)]
    (fun s _ e =>
      let slot := fieldAt e 16 1
      let release := fieldAt (s.nor.block slot 0) 12 2
      [(decide (1 < slot) || decide (1 < fieldAt e 17 1), .eRange),
       (s.boot.staged ≠ some slot || s.boot.running = some slot ||
          release / 256 ≠ s.attrN .firmwareSyentRelease / 256 || s.boot.act.isSome, .eState)])
    (fun s c e =>
      let slot := fieldAt e 16 1
      let k := checkImage s slot true
      if k.code ≠ 1 then (s, .final k.status [])
      else (startQuietly c { s with boot := { s.boot with act := some ⟨slot, s.boot.running.getD 0, c, false, false⟩ } }, .accept)) c s)

/-- SY_IMAGE_CONFIRM (R114): the running slot is confirmed, and the anti-rollback counter rises to its version. -/
def execSyImageConfirm (c : CmdRef) (s : State) : Host.Outcome State Fault Refusal :=
  .next (serve 0x0305 anyForm [] (fun _ _ _ => [])
    (fun s _ _ =>
      match s.boot.running with
      | none => (s, .final .eState [])
      | some slot =>
        let done := s.nor.dir.mark slot = .confirmed
        let s := if done then s
          else
            let s := dirWrite (Dir.withMark slot .confirmed) s
            s.setAttr .firmwareOtpCounter 0 0 (max (s.attr .firmwareOtpCounter) (fieldAt (s.nor.block slot 0) 6 2 : Nat))
        (s, .final .ok [(16, 2, s.attrN .firmwareOtpCounter)])) c s)

/-! ### Slots as attributes (Table 15) -/

/-- `slot[i].state`. -/
def slotStateCode (s : State) (slot : Nat) : Nat :=
  match s.nor.dir.mark slot with | .invalid => 0 | .unconfirmed => 1 | .confirmed => 2

end Sys2Proof.Machine
end

