-- ==== Sys2Proof/Machine/Clocks.lean ====
section
/-!
DEFINITION. Sys2Proof/Machine/Clocks.lean: the divider ramp of the clock domains (spec/05).
-/
namespace Sys2Proof.Machine

/-- The tick of the next boundary: before tick 0 has begun, that of tick 0 (R669). -/
def nextBoundary (s : State) : Nat := if s.clk.ticking then s.tick.toNat + 1 else 0

/-- Replaces a clock domain. -/
def State.setDom (s : State) (d : Nat) (x : Domain) : State :=
  { s with clk := { s.clk with domains := Tab.put {} s.clk.domains d x } }

/-- The next divider ratio towards 1 (R175). -/
def ratioDown : Nat → Nat
  | 16 => 12 | 12 => 8 | 8 => 6 | 6 => 4 | 4 => 3 | 3 => 2 | _ => 1

/-- The next divider ratio towards a stop; 0 is stopped (R175). -/
def ratioUp : Nat → Nat
  | 1 => 2 | 2 => 3 | 3 => 4 | 4 => 6 | 6 => 8 | 8 => 12 | 12 => 16 | _ => 0

/-- A domain may run at all: D60 to D63 never start, D46 to D49 not on the AZ6400-CN, D56 not with spi_only (R165). -/
def domainExists (s : State) (d : Nat) : Bool :=
  decide (d < 60) && !(s.isCN && decide (46 ≤ d) && decide (d ≤ 49)) && !(s.power.straps.hostif && d = 56)

/-- A request to start a domain: step 8 of Table 5, or a stop under way turns back (R175, R176). -/
def domainStart (s : State) (d : Nat) : State :=
  let x := s.dom d
  if !domainExists s d then s
  else match x.ramp with
    | .idle => if x.ratio = 0 then s.setDom d ⟨16, .starting⟩ else s
    | .stopping => s.setDom d { x with ramp := .starting }
    | _ => s

/-- A request to stop a domain: step 1 of Table 5, or a start under way turns back (R175, R176). -/
def domainStop (s : State) (d : Nat) : State :=
  let x := s.dom d
  match x.ramp with
  | .idle => if x.ratio = 0 then s else s.setDom d ⟨ratioUp x.ratio, .stopping⟩
  | .starting => s.setDom d { x with ramp := .stopping }
  | _ => s

/-- One step of a ramp. A source switch climbs to 16, changes the source and comes down again. -/
def rampStep (d : Nat) (s : State) : State :=
  let x := s.dom d
  match x.ramp with
  | .idle => s
  | .starting =>
    let r := ratioDown x.ratio
    s.setDom d ⟨r, if r = 1 then .idle else .starting⟩
  | .stopping =>
    let r := ratioUp x.ratio
    s.setDom d ⟨r, if r = 0 then .idle else .stopping⟩
  | .switching =>
    if x.ratio = 16 then
      let s := s.setDom d ⟨16, .starting⟩
      if d = 1 then { s with clk := { s.clk with d01House := true } } else s
    else s.setDom d { x with ratio := ratioUp x.ratio }

/-- DIVIDER_RAMP_STEP (R175). -/
def execDividerRampStep (domain : Fin 64) (s : State) : Host.Outcome State Fault Refusal := .next (rampStep domain s)

/-- The domains of a line port that feathering stops: converters, millrace, decoder and transmit (R178). -/
def featherDomains (p : Nat) : List Nat :=
  if p = 0 then [2, 3, 4, 5, 6, 7, 8, 9, 18, 19, 20] else [10, 11, 12, 13, 14, 15, 16, 17, 22, 23, 24]

/-- The framer domain of a line port. -/
def framerDomain (p : Nat) : Nat := if p = 0 then 21 else 25

/-- The domain of a client lane (Table 2 of 05). -/
def laneDomain (lane : Nat) : Nat := 26 + lane / 4

/-- A line port is feathered, on its way there or not yet back: its datapath domains are stopped, or stop (R178). -/
def portAsleep (s : State) (p : Nat) : Bool := s.attr .featherState p = 3 || s.attr .featherState p = 4

/-- A domain runs for something else than a peripheral block: the datapath of a line port that is not asleep, framers, client lanes that
are configured and not dormant, and the vault (R178, R179). -/
def domainNeeded (s : State) (d : Nat) : Bool :=
  if d = 18 then !portAsleep s 0
  else if d = 22 then !portAsleep s 1
  else if 26 ≤ d && decide (d < 42) then
    (List.range 4).any (fun k => s.attr .laneIfFirst (4 * (d - 26) + k) ≠ 0xFF && s.attr .laneState (4 * (d - 26) + k) ≠ 1)
  else d = 21 || d = 25 || d = 49

/-- Every domain of a list stands at ratio 1. -/
def allRun (s : State) (l : List Nat) : Bool := l.all s.domRuns

/-- Every domain of a list is stopped. -/
def allStopped (s : State) (l : List Nat) : Bool := l.all (fun d => (s.dom d).ratio = 0)

/-- The domains that run in minimal state (Table 2 of 05). -/
def minimalDomains : List Nat := [0, 1, 50, 56, 57, 59]

/-- Stops every domain not in the list, without a ramp (R177). -/
def stopAtOnce (keep : List Nat) (s : State) : State :=
  { s with clk := { s.clk with domains := s.clk.domains.filter (fun e => keep.contains e.1) } }

end Sys2Proof.Machine
end

