-- ==== Sys2Proof/Machine/Modes.lean ====
section
/-!
DEFINITION. Sys2Proof/Machine/Modes.lean: the line modes and what follows from them: per-tick arithmetic (Table 3 of 08),
sails and dispersion ranges (Tables 3 to 5 of 07), known symbols (R284), the distribution matcher (R281 to R283), and the
filters' index rules.
-/
namespace Sys2Proof.Machine

/-! ### Modes -/

/-- Sails of a mode code (Table 3 of 08). -/
def modeSails : Nat → Nat
  | 0 | 1 => 16 | 2 => 12 | _ => 8

/-- Symbol rate in MBd. -/
def modeRate : Nat → Nat
  | 0 | 1 => 270000 | 2 => 202500 | _ => 135000

/-- Codewords per tick. -/
def modeCodewords : Nat → Nat
  | 0 => 504 | 1 => 378 | 2 => 252 | _ => 126

/-- Tributary slots. -/
def modeSlots : Nat → Nat
  | 0 => 128 | 1 => 96 | 2 => 64 | _ => 32

/-- Payload bits per tick. -/
def modePayloadBits (m : Nat) : Nat := modeSlots m * 32000

/-- Overhead bits per tick: payload ÷ 125. -/
def modeOverheadBits (m : Nat) : Nat := modePayloadBits m / 125

/-- Frame bits: codewords of k = 8,192. -/
def modeFrameBits (m : Nat) : Nat := modeCodewords m * 8192

/-- Coded bits: codewords of n = 9,216. -/
def modeCodedBits (m : Nat) : Nat := modeCodewords m * 9216

/-- DP symbols per tick: 21,600 slots in every sail. -/
def modeSymbols (m : Nat) : Nat := modeSails m * 21600

/-- Data symbols: all but 675 known symbols per pair of sails (R249). -/
def modeDataSymbols (m : Nat) : Nat := modeSymbols m - modeSails m / 2 * 675

/-- The change between two modes is soft: the symbol rate stays (R291). -/
def softChange (a b : Nat) : Bool := modeRate a = modeRate b

/-- The range of bulk dispersion, its coarse step and its fine step, in ps/nm (Table 3 of 07). -/
def cdRange (m : Nat) : Int := if modeRate m = 270000 then 50000 else if modeRate m = 202500 then 87500 else 160000
def cdCoarse (m : Nat) : Int := if modeRate m = 270000 then 2000 else if modeRate m = 202500 then 3500 else 8000
def cdFine (m : Nat) : Int := if modeRate m = 270000 then 100 else if modeRate m = 202500 then 175 else 400

/-- The first sail slot of a mode (Table 4 of 07): sail i stands in slot i + this. -/
def modeFirstSlot : Nat → Nat
  | 0 | 1 => 2 | 2 => 4 | _ => 6

/-- The band of a sail slot carries a sail in a mode; the others are idle slots (R247). -/
def bandUsed (m band : Nat) : Bool := decide (modeFirstSlot m ≤ band) && decide (band < modeFirstSlot m + modeSails m)

/-- Bin `e` of the 5,120, slot × 256 + bin, carries signal: no guard bin, and no bin of an idle slot (R247, R263). -/
def binUsed (m e : Nat) : Bool := e % 256 ≠ 255 && bandUsed m (e / 256)

/-- The centre of sail slot `s` in MHz: (s - 9.5) × 17.28 GHz (R247). -/
def slotCentreMHz (s : Nat) : Int := (2 * (s : Int) - 19) * 8640

/-! ### Dispersion search (R245) -/

/-- The coarse candidates of the full search. -/
def coarseFull (m : Nat) : List Int :=
  (List.range (2 * (cdRange m / cdCoarse m).toNat + 1)).map (fun (k : Nat) => -cdRange m + (k : Int) * cdCoarse m)

/-- The coarse candidates of the window search: multiples of the coarse step around the set value, in range. -/
def coarseWindow (m : Nat) (set : Int) (window : Nat) : List Int :=
  let n := window / (cdCoarse m).toNat
  ((List.range (2 * n + 1)).map (fun (k : Nat) => set + ((k : Int) - (n : Int)) * cdCoarse m)).filter
    (fun v => decide (-cdRange m ≤ v) && decide (v ≤ cdRange m))

/-- The 41 fine candidates around the best coarse one; one outside the range is omitted. -/
def fineAround (m : Nat) (best : Int) : List Int :=
  ((List.range 41).map (fun (k : Nat) => best - cdCoarse m + (k : Int) * cdFine m)).filter
    (fun v => decide (-cdRange m ≤ v) && decide (v ≤ cdRange m))

/-! ### Known symbols (R249, R284) -/

/-- A pilot stands in the slot of a sail (Table 5 of 07). -/
def isPilot (sail slot : Nat) : Bool :=
  if sail % 2 = 0 then slot % 64 = 0 && decide (4096 ≤ slot) && decide (slot ≤ 64 * 337)
  else slot % 64 = 32 && decide (4096 ≤ slot) && decide (slot ≤ 64 * 336 + 32)

/-- A slot of a sail carries a known symbol: the training block or a pilot. -/
def isKnown (sail slot : Nat) : Bool := decide (slot < 64) || isPilot sail slot

/-- Known slots of an even or an odd sail before a slot. -/
def knownBefore (odd : Bool) (slot : Nat) : Nat :=
  min slot 64 + (if odd then min 337 ((slot + 31) / 64) - 64 else min 338 ((slot + 63) / 64) - 64)

/-- Data symbols of a frame before a slot (R280). -/
def dataBefore (m slot : Nat) : Nat := modeSails m * slot - modeSails m / 2 * (knownBefore false slot + knownBefore true slot)

/-- The sails that carry a data symbol in a slot. -/
def dataSails (m slot : Nat) : List Nat := (List.range (modeSails m)).filter (fun i => !isKnown i slot)

/-- The slot of data symbol `n` of a frame: the last before which there are no more than `n`. -/
def dataSlot (m n : Nat) : Nat :=
  (List.range 15).reverse.foldl (fun t k => if dataBefore m (t + 2 ^ k) ≤ n then t + 2 ^ k else t) 0

/-- Slot and sail of data symbol `n` in the fill order: slot by slot, in each the sails in order, known slots skipped (R280). -/
def dataPlace (m n : Nat) : Nat × Nat :=
  let t := dataSlot m n
  (t, (dataSails m t).getD (n - dataBefore m t) 0)

/-- The number of the data symbol that stands in a slot of a sail. -/
def dataIndex (m sail slot : Nat) : Nat := dataBefore m slot + ((dataSails m slot).filter (fun i => decide (i < sail))).length

/-- One step of a generator register of `n` bits with taps `n` and `t`: register r1 is bit 0. -/
def lfsrStep (n t r : Nat) : Nat := (2 * r + b01 (bitOf r (n - 1) != bitOf r (t - 1))) % 2 ^ n

/-- The first bits a generator puts out. The output is the last register bit. -/
def lfsrBits (n t : Nat) : Nat → Nat → List Bool
  | 0, _ => []
  | k + 1, r => bitOf r (n - 1) :: lfsrBits n t k (lfsrStep n t r)

/-- The 256 bits of the training block of a mode: generator x^9 + x^5 + 1, seed 0x1FF − mode code. -/
def trainingBits (m : Nat) : List Bool := lfsrBits 9 5 256 (0x1FF - m)

/-- The first `4 × k` pilot bits of a sail: generator x^15 + x^14 + 1, seed i + 1. -/
def pilotBits (sail k : Nat) : List Bool := lfsrBits 15 14 (4 * k) (sail + 1)

/-- A dimension of a known symbol in units of 1 ÷ √2: 1 − 2b. -/
def knownValue (b : Bool) : Int := if b then -1 else 1

/-! ### Distribution matcher (R281 to R283) -/

/-- A line of Table 4 of 08: label levels, B, W and the bits per level, top first. -/
structure MatcherRow where
  symbols : Nat
  coded : Nat
  levels : List Nat
deriving DecidableEq, Repr

/-- Table 4 of 08. -/
def matcherRow : Nat → MatcherRow
  | 0 => ⟨75, 1024, [190, 262, 272]⟩
  | 1 => ⟨25, 256, [76, 80]⟩
  | 2 => ⟨225, 2048, [548, 600]⟩
  | _ => ⟨75, 512, [212]⟩

/-- Real dimensions of a block: D = 4B. -/
def MatcherRow.dims (r : MatcherRow) : Nat := 4 * r.symbols

/-- The binomial coefficient. -/
def binom (n k : Nat) : Nat := (List.range k).foldl (fun a i => a * (n - i) / (i + 1)) 1

/-- n_l: the smallest n, no greater than D ÷ 2, with C(D, n) ≥ 2^k (R282). -/
def levelOnes (d k : Nat) : Nat := ((List.range (d / 2 + 1)).find? (fun n => decide (2 ^ k ≤ binom d n))).getD (d / 2)

/-- The r-th binary sequence of length d with n ones, in lexicographic order with 0 before 1 (R282). -/
def unrank : Nat → Nat → Nat → List Bool
  | 0, _, _ => []
  | d + 1, n, r =>
    let c := binom d n
    if r < c then false :: unrank d n r else true :: unrank d (n - 1) (r - c)

/-- The integer that bits spell, the first most significant. -/
def bitsNat (l : List Bool) : Nat := l.foldl (fun a b => 2 * a + b01 b) 0

/-- The label bits of every level of a block, from its coded bits after the signs. -/
def labelLevels (d : Nat) : List Nat → List Bool → List (List Bool)
  | [], _ => []
  | k :: t, bits => unrank d (levelOnes d k) (bitsNat (bits.take k)) :: labelLevels d t (bits.drop k)

/-- The inverse Gray code of bits given top first, as a number. -/
def inverseGray (l : List Bool) : Nat :=
  (l.foldl (fun (a : Nat × Bool) b => (2 * a.1 + b01 (a.2 != b), a.2 != b)) (0, false)).1

/-- The values of a block of coded bits, in units of the scale s_m: sign × (2a + 1) per dimension (R282, R283). -/
def matcherBlock (m : Nat) (bits : List Bool) : List Int :=
  let r := matcherRow m
  let d := r.dims
  let lab := labelLevels d r.levels (bits.drop d)
  (List.range d).map (fun t =>
    let a := inverseGray (lab.map (fun l => l.getD t false))
    if bits.getD t false then -(2 * (a : Int) + 1) else 2 * (a : Int) + 1)

/-- E_m × D^levels, where each level is 1 with probability n_l ÷ D and the levels are independent (R283): the scale is
s_m = 1 ÷ √(2 × E_m). The accumulator lists the ones taken so far as Gray bits, with the weight. -/
def meanEnergy (d : Nat) : List Nat → List Bool → Nat → Nat
  | [], g, w => let a := inverseGray g; w * (2 * a + 1) ^ 2
  | n :: t, g, w => meanEnergy d t (g ++ [true]) (w * n) + meanEnergy d t (g ++ [false]) (w * (d - n))

/-- E_m × D^levels of a mode. -/
def modeEnergy (m : Nat) : Nat :=
  let r := matcherRow m
  meanEnergy r.dims (r.levels.map (levelOnes r.dims)) [] 1

/-! ### Tables of the transmit and receive chains -/

/-- The entry of a bin in the static response and pre-emphasis tables (R254, R287): its byte offset. -/
def binOffset (slot bin : Nat) : Nat := (slot * 256 + bin) * 8

/-- The pattern of a table that was never written: 1.0 in every real part for the per-bin tables, 0 for pre-distortion. -/
def tablePattern (bit o : Nat) : Byte := if bit = 3 || bit = 4 then 0 else if o % 4 = 1 then 0x40 else 0

/-- Bytes of a generation. -/
def tableRead (bit : Nat) (t : Tab Byte) (o n : Nat) : List Byte :=
  (List.range n).map (fun k => Tab.get 0 t (o + k) ^^^ tablePattern bit (o + k))

/-- q(x) of R288: floor((x + 64) ÷ 4) clamped to 0 to 31, of a value in LSB. -/
def predistQ (x : Rat) : Nat := (clampInt 0 31 ((x + 64) / 4).floor).toNat

/-- The index of a pre-distortion entry from three successive samples (R288). -/
def predistIndex (before now after : Rat) : Nat := predistQ before * 1024 + predistQ now * 32 + predistQ after

/-- The code a DAC sample is clipped to (R290). -/
def clipCode (x : Int) : Int := clampInt (-64) 63 x

/-! ### Resampler (R238 to R243) -/

/-- The deskew delay of channel c in output samples (R243). -/
def deskewDelay (c : Nat) : Nat := 192 - 64 * c

/-- The lag of channel c at the resampler output (R242). -/
def resamplerLag (c : Nat) : Nat := 64 * c

/-- Gain of a setting in 0.01 dB (R232). -/
def gainCentiDb (setting : Nat) : Int := 50 * (setting : Int)

/-- `timing_offset_ppb` of a ratio word: (1 ÷ ratio − 1) × 10^9, rounded (R240). -/
def timingPpb (ratio : Nat) : Int := roundDiv (((2 ^ 44 : Nat) : Int) * 1000000000 - (ratio : Int) * 1000000000) ratio

/-- The loop's rate lies within ±100 ppm (R240). -/
def ratioInRange (ratio : Nat) : Bool :=
  let d : Int := (((2 ^ 44 : Nat) : Int) - (ratio : Int)) * 10000
  decide (-(ratio : Int) ≤ d) && decide (d ≤ (ratio : Int))

end Sys2Proof.Machine
end

