-- ==== Sys2Proof/Machine/Access.lean ====
section
/-!
DEFINITION. Sys2Proof/Machine/Access.lean: access to the line, group, channel and interface records, and the lookups among
slots, groups and channels (spec/10 to spec/12).
-/
namespace Sys2Proof.Machine

/-- The overhead, GCC, feathering and defect record of a line port. -/
def State.line (s : State) (p : Nat) : Line := Tab.get {} s.lines p

/-- Replaces it. -/
def State.setLine (s : State) (p : Nat) (x : Line) : State := { s with lines := Tab.put {} s.lines p x }

/-- A group; none when it is not configured. -/
def State.group (s : State) (g : Nat) : Option Group := Tab.get none s.groups g

/-- Replaces a group. -/
def State.setGroup (s : State) (g : Nat) (x : Option Group) : State := { s with groups := Tab.put none s.groups g x }

/-- Changes a configured group. -/
def State.updGroup (s : State) (g : Nat) (f : Group → Group) : State := s.setGroup g ((s.group g).map f)

/-- A client channel. -/
def State.chan (s : State) (c : Nat) : Channel := Tab.get {} s.chans c

/-- Replaces a client channel. -/
def State.setChan (s : State) (c : Nat) (x : Channel) : State := { s with chans := Tab.put {} s.chans c x }

/-- An Ethernet interface by its first lane. -/
def State.cif (s : State) (l : Nat) : Cif := Tab.get {} s.cifs l

/-- Replaces an interface. -/
def State.setCif (s : State) (l : Nat) (x : Cif) : State := { s with cifs := Tab.put {} s.cifs l x }

/-! ### Members -/

/-- The line port and the slot of a member. -/
def memberPort (m : Nat) : Nat := m / 128
def memberSlot (m : Nat) : Nat := m % 128

/-- The configured groups, by number. -/
def allGroups (s : State) : List (Nat × Group) :=
  s.groups.filterMap (fun e => e.2.map (fun x => (e.1, x)))

/-- A group exists from the boundary at which it was created on (R427). -/
def Group.exists (s : State) (x : Group) : Bool := decide (x.born ≤ s.tick.toNat)

/-- The groups that exist. -/
def groupList (s : State) : List (Nat × Group) := (allGroups s).filter (fun e => e.2.exists s)

/-- A group that exists. -/
def State.groupNow (s : State) (g : Nat) : Option Group := (s.group g).filter (Group.exists s)

/-- The group whose configured list holds a member (R397). -/
def cfgGroupOf (s : State) (m : Nat) : Option (Nat × Group) := (allGroups s).find? (fun e => e.2.cfg.contains m)

/-- The group whose receive active set holds a member (R401). -/
def rxGroupOf (s : State) (m : Nat) : Option (Nat × Group) := (groupList s).find? (fun e => e.2.rx.contains m)

/-- A slot of the port is in a configured group, and passes a test. -/
def portMember (s : State) (p : Nat) (f : Nat → Bool) : Bool :=
  (allGroups s).any (fun e => e.2.cfg.any (fun m => memberPort m = p && f (memberSlot m)))

/-- The indices `i` for which an attribute of one index, whose reset value is not `v`, has the value `v`. -/
def indicesWith (s : State) (a : Attr) (v : Int) : List Nat :=
  s.attrs.filterMap (fun e => if e.1 / 4294967296 = a.ctorIdx && e.2 = v then some (e.1 / 65536 % 65536) else none)

/-- The client channels mapped to a group (R405). -/
def channelsOf (s : State) (g : Nat) : List Nat := indicesWith s .chGroup (g : Int)

/-- The client channels that leave through an interface. -/
def channelsAt (s : State) (l : Nat) : List Nat := indicesWith s .chEgressIf (l : Int)

/-- The slots of the line port in the transmit mode, and in the receive mode. -/
def txSlots (s : State) (p : Nat) : Nat := modeSlots (s.attrN .lineMode p)
def rxSlots (s : State) (p : Nat) : Nat := modeSlots (s.attrN .lineRxMode p)

/-- A line port is ACTIVE (Table 7 of 10). -/
def portActive (s : State) (p : Nat) : Bool := s.attr .featherState p = 0

/-- The recovered clock of a line port is the selected reference (R31). -/
def clockSelected (s : State) (p : Nat) : Bool := s.attr .timSelected = 4 + (p : Int)

/-- The first lanes of the configured interfaces (R394): 1 is a 400GBASE-R interface of four lanes, 2 an 800GBASE-R one of
eight (log entry 113). -/
def ifConfigured (s : State) (l : Nat) : Bool := s.attr .laneIfType l ≠ 0

/-- `device.client.lane[i].state` (Table 4). -/
def laneState (s : State) (l : Nat) : Nat := s.attrN .laneState l

/-- Lanes of an interface. -/
def ifLanes (s : State) (l : Nat) : List Nat := (List.range (if s.attr .laneIfType l = 1 then 4 else 8)).map (l + ·)

/-! ### Accepted overhead fields -/

/-- The accepted fields of a port return to their initial values (R341). -/
def rxFieldsReset (p : Nat) (s : State) : State :=
  let x := s.line p
  let s := s.setLine p { x with
    ql := {}, bdi := {}, ttiBuf := none, ttiLast := [], ttiRun := 0, ttiOk := false, mfasRef := none
    slots := x.slots.map (fun e => (e.1, { e.2 with bdi := {}, psl := {}, gd := {}, pslOk := false, gdOk := false, cand := 0, first := 0, gap := 0, lost := 0 }))
    feather := { x.feather with rxCode := 0, rxSeq := 0, rx := {}, other := 0 } }
  let s := (((s.setAttr .alfQlRx p 0 0xFF).setAttr .alfBdiRx p 0 0).setAttr .alfTtiRx p 0 0)
  { s with attrs := s.attrs.filter (fun e =>
      !(e.1 / 65536 % 65536 = p &&
        (e.1 / 4294967296 = Attr.slotPslRx.ctorIdx || e.1 / 4294967296 = Attr.slotGdRx.ctorIdx ||
         e.1 / 4294967296 = Attr.slotBdiRx.ctorIdx))) }

/-! ### Rails (R51, R52) -/

/-- Nominal voltage of a rail in mV, by its row of Table 5 (02). -/
def railNominal : Nat → Nat
  | 0 => 750 | 1 => 850 | 2 => 900 | 3 => 1800 | 4 => 850 | 5 => 1100 | 6 => 800 | _ => 1800

/-- The present target of a rail: nominal plus its tarnish offset in steps of 5 mV (R51). -/
def railTarget (s : State) (r : Nat) : Int := railNominal r + 5 * Tab.get 0 s.power.railSteps r

end Sys2Proof.Machine
end

