-- ==== Sys2Proof/Machine/Stamps.lean ====
section
/-!
DEFINITION. Sys2Proof/Machine/Stamps.lean: the time counter as time stamps read it, Ethernet parsing, the recognition of PTP
messages and the timestamp records (spec/13).
-/
namespace Sys2Proof.Machine

/-! ### Time stamps (R450) -/

/-- A time in units of 10^-20 s, rounded to the nearest 250 ps, in ps. -/
def roundStamp (t : Nat) : Nat := (t + 12500000000) / 25000000000 * 250

/-- The time counter so many ps after the present boundary, as a stamp in ps; past a 1PPS edge at which a time was set, with the
seconds set (R591). -/
def stampAt (s : State) (ps : Nat) : Nat :=
  let t := s.timing.tai + ps * 100000000
  if t / 100000000000000000000 = s.timing.tai / 100000000000000000000 then roundStamp t
  else roundStamp ((t : Int) + s.timing.shift * 100000000000000000000).toNat

/-- The 12 bytes of a stamp: seconds, nanoseconds, fraction of a nanosecond in 1/65,536. -/
def stampBytes (ps : Nat) : List Byte :=
  leBytes 6 (ps / 1000000000000) ++ leBytes 4 (ps / 1000 % 1000000000) ++ leBytes 2 (ps % 1000 * 65536 / 1000)

/-- The position term P of a header at group stream byte `q`, in units of 10^-20 s (R451). -/
def positionTerm (set : List Nat) (mode : Nat → Nat) (q : Nat) : Nat :=
  let m := set.getD (q % set.length) 0
  let slot := memberSlot m
  let f := 129024 * (slot / 32) + 1024 + 32 * (q / set.length) + slot % 32
  let c := 9216 * (8 * f / 8192) + 8 * f % 8192
  c * 1280000 * 100000000 / modeCodedBits (mode (memberPort m))

/-- The line egress stamp of a header at byte `q` of the frame of the present tick (R451). -/
def lineEgressStamp (s : State) (x : Group) (q : Nat) : Nat :=
  roundStamp (s.timing.tai + 152000000000000 + positionTerm x.tx (fun p => s.attrN .lineMode p) q)

/-! ### Ethernet frames (R452, R476) -/

/-- An EtherType that begins a VLAN tag (PRESUMED: IEEE 802.1Q customer and service tags). -/
def isVlanType (t : Nat) : Bool := t = 0x8100 || t = 0x88A8

/-- A frame past at most two VLAN tags: the tags' VID fields (bit 15 set, VID in bits 11 to 0), the EtherType, and the
offset of what follows it. -/
structure Ether where
  vids : List Nat
  etype : Nat
  body : Nat
deriving DecidableEq, Repr

/-- The big-endian 16-bit field at an offset. -/
def be16 (l : List Byte) (o : Nat) : Nat := beNat (bytesAt l o 2)

/-- Walks past VLAN tags from the type field at an offset. -/
def etherFrom (l : List Byte) : Nat → Nat → List Nat → Ether
  | 0, o, v => ⟨v, be16 l o, o + 2⟩
  | n + 1, o, v =>
    if isVlanType (be16 l o) then etherFrom l n (o + 4) (v ++ [32768 + be16 l (o + 2) % 4096])
    else ⟨v, be16 l o, o + 2⟩

/-- Parses a frame from its destination address on. -/
def ether (l : List Byte) : Ether := etherFrom l 2 12 []

/-- Offset of the layer-4 header of an IPv4 packet, when it is the first or only fragment. -/
def ipv4L4 (l : List Byte) (o : Nat) : Option Nat :=
  if be16 l (o + 6) % 8192 = 0 then some (o + 4 * ((byteAt l o).toNat % 16)) else none

/-- The offset of the PTP header of a PTP message (R452): EtherType 0x88F7, or UDP to port 319 or 320. -/
def ptpOffset (l : List Byte) : Option Nat :=
  let x := ether l
  let udp := fun (o : Nat) => if be16 l (o + 2) = 319 || be16 l (o + 2) = 320 then some (o + 8) else none
  if x.etype = 0x88F7 then some x.body
  else if x.etype = 0x0800 then
    if (byteAt l (x.body + 9)).toNat = 17 then (ipv4L4 l x.body).bind udp else none
  else if x.etype = 0x86DD then
    if (byteAt l (x.body + 6)).toNat = 17 then udp (x.body + 40) else none
  else none

/-- The record of Table 8 as far as ingress gives it, for a PTP message of a channel with `ts_capture` = 1; empty for any
other packet. The places of domainNumber, sourcePortIdentity and sequenceId are those of IEEE 1588-2019. -/
def stampRecord (s : State) (chan dir place stamp : Nat) (frame : List Byte) : List Byte :=
  match ptpOffset frame with
  | none => []
  | some o =>
    if s.attr .chTsCapture chan = 1 then
      leBytes 2 chan ++ leBytes 1 dir ++ leBytes 1 0 ++ bytesAt frame o 1 ++ bytesAt frame (o + 4) 1
        ++ leBytes 2 (be16 frame (o + 30)) ++ bytesAt frame (o + 20) 10 ++ leBytes 1 place ++ leBytes 1 0
        ++ leBytes 4 0 ++ stampBytes stamp ++ List.replicate 12 0
    else []

/-! ### Record queues (R453) -/

/-- Queues a record in its direction; one that finds its queue full is counted, and the record that fills it raises
`ts_overflow`. -/
def queueRecord (dir : Nat) (r : List Byte) (s : State) : State :=
  let q := if dir = 0 then s.stamps0 else s.stamps1
  if 8192 ≤ q.length then s.bump .clientTsOverflows
  else
    let s := if dir = 0 then { s with stamps0 := q ++ [r] } else { s with stamps1 := q ++ [r] }
    if q.length = 8191 then raise 0x0D02 2 noIndex [(24, 1, dir)] s else s

/-- A packet leaves: its record, if it has one, takes the egress place and stamp. -/
def stampLeave (k : Pkt) (place stamp : Nat) (s : State) : State :=
  if k.record.isEmpty then s
  else queueRecord k.dir (overlay (overlay k.record 19 (leBytes 1 place)) 36 (stampBytes stamp)) s

/-- A packet is discarded: its record says so. -/
def stampDiscard (k : Pkt) (s : State) : State :=
  if k.record.isEmpty then s
  else queueRecord k.dir (overlay (overlay k.record 3 (leBytes 1 1)) 19 (leBytes 1 0xFF)) s

/-! ### Descriptors (R419) -/

/-- Packets of the cipher stage. -/
def cipherCount (s : State) : Nat :=
  let c := s.cipher
  c.entry.length + (c.loads.map (fun l => l.waiting.length)).sum + c.exits.length

/-- Descriptors in use across classification, cipher and buffering. -/
def descriptorsUsed (s : State) : Nat :=
  s.memory.missq.length + cipherCount s + s.mapq.length + s.egressq.length

/-- A packet of a class is refused while too few of the 131,072 descriptors are free. -/
def refused (s : State) (cls : Nat) : Bool :=
  let free := 131072 - descriptorsUsed s
  if cls = 4 then decide (free < 16384) else if cls = 3 then decide (free < 4096) else free = 0

end Sys2Proof.Machine
end

