-- ==== Sys2Proof/Machine/Lanes.lean ====
section
/-!
DEFINITION. Sys2Proof/Machine/Lanes.lean: client lanes: the board lane table, start-up, sweeps, relock, dormancy, eye scans and
the reading of timestamp records (spec/13).
-/
namespace Sys2Proof.Machine

/-- A client lane. -/
def State.lane (s : State) (l : Nat) : Lane := Tab.get {} s.lanes l

/-- Replaces a client lane. -/
def State.setLane (s : State) (l : Nat) (x : Lane) : State := { s with lanes := Tab.put {} s.lanes l x }

/-- The state of a lane changes, with its event (R440, R457). -/
def setLaneState (l v : Nat) (s : State) : State :=
  if laneState s l = v then s
  else raise 0x0D01 2 l [(24, 1, v), tickFld s 32] (s.setAttr .laneState l 0 v)

/-- The lanes that act with a lane: those of its interface, or the lane alone. -/
def laneMates (s : State) (l : Nat) : List Nat :=
  let f := s.attrN .laneIfFirst l
  if f = 0xFF then [l] else ifLanes s f

/-! ### The board lane table (R437 to R439) -/

/-- A lane table record is used only when magic, format and check word hold (R438). -/
def laneTableOk (t : List Byte) : Bool :=
  bytesAt t 0 4 = asciiBytes "ZLAN" && byteAt t 4 = 1 && fieldAt t 1056 4 = crc32c (bytesAt t 0 1056)

/-- The entry of a lane as it is used: not valid when the table is not. -/
def laneEntry (s : State) (l : Nat) : List Byte :=
  if laneTableOk s.laneTable then bytesAt s.laneTable (32 + 16 * l) 16 else List.replicate 16 0

/-- The valid flag of an entry. -/
def entryValid (e : List Byte) : Bool := bitOf (byteAt e 0).toNat 0

/-- The settings of a lane whose entry is not valid: the transmit defaults 0, 63 and 0 (R441). -/
def defaultEntry : List Byte := overlay (List.replicate 16 0) 13 (leBytes 1 63)

/-- The settings a start takes from the table: the entry, or the defaults. -/
def startEntry (s : State) (l : Nat) : List Byte :=
  let e := laneEntry s l
  if entryValid e then e else defaultEntry

/-- An entry outside Table 3 or R438. -/
def entryBad (e : List Byte) : Bool :=
  let tap := fun (k : Nat) => fieldInt e (4 + k) 1
  let pre := fieldInt e 12 1
  let main : Int := fieldAt e 13 1
  let post := fieldInt e 14 1
  decide (7 < fieldAt e 0 1) || decide (36 < fieldAt e 1 1) || decide (31 < fieldAt e 2 1) || byteAt e 3 ≠ 0 ||
  (List.range 8).any (fun k =>
    if k = 2 then decide (tap k < 1) || decide (63 < tap k) else decide (tap k < -32) || decide (31 < tap k)) ||
  decide (pre < -16) || decide (0 < pre) || decide (main < 32) || decide (63 < main) || decide (post < -16) ||
  decide (0 < post) || byteAt e 15 ≠ 0 || decide (64 < -pre + main - post)

/-- The record with entries laid over it, the next sequence number and its check word. A record that is not used is
replaced by one whose other entries are not valid. -/
def laneTableWith (t : List Byte) (board : Nat) (first : Nat) (entries : List Byte) : List Byte :=
  let old := if laneTableOk t then t else []
  let body := asciiBytes "ZLAN" ++ leBytes 1 1 ++ leBytes 3 0 ++ leBytes 4 board ++
    leBytes 4 (fieldAt old 12 4 + 1) ++ leBytes 16 0 ++
    overlay (bytesAt old 32 1024) (16 * first) entries
  body ++ leBytes 4 (crc32c body)

/-- Writes a lane's entry into NVM, keeping the board_id. -/
def writeEntry (l : Nat) (e : List Byte) (s : State) : State :=
  { s with laneTable := laneTableWith s.laneTable (fieldAt s.laneTable 8 4) l e }

/-! ### Start, sweep, lock -/

/-- An eye scan of a lane is cut short (R449). -/
def cutScan (l : Nat) (s : State) : State :=
  let x := s.lane l
  s.setLane l { x with scan := x.scan.map (fun j => { j with cut := true }) }

/-- A lane takes its settings from the table (R436, R440). -/
def loadEntry (l : Nat) (s : State) : State :=
  let e := startEntry s l
  let s := s.setLane l { s.lane l with settings := e }
  (s.setAttr .laneCtleCode l 0 (fieldAt e 1 1)).setAttr .laneEqSource l 0 0

/-- A lane begins to sweep (R441). -/
def startSweep (j : SweepJob) (l : Nat) (s : State) : State :=
  let s := cutScan l s
  setLaneState l 3 (s.setLane l { s.lane l with sweep := some j, retryFrom := none, attempts := 0, woken := none })

/-- A start-up or recovery sweep: written back when `sweep_writeback` is 1 (R442). -/
def ownSweep (s : State) (l : Nat) : SweepJob := { writeback := s.attr .laneSweepWriteback l = 1 }

/-- LANE_START (R440): the settings are loaded; the lane starts, or sweeps when its entry is not valid. -/
def startLane (s : State) (l : Nat) : State :=
  let s := loadEntry l (domainStart s (laneDomain l))
  let s := s.setLane l { s.lane l with attempts := 0, retryFrom := none, sweep := none, woken := none }
  if entryValid (laneEntry s l) then setLaneState l 2 s else startSweep (ownSweep s l) l s

/-- The lanes that sweep for a command stop: the command completes (R454). -/
def stopSweep (st : Status) (l : Nat) (s : State) : State :=
  let x := s.lane l
  match x.sweep with
  | none => s
  | some j =>
    let s := s.setLane l { x with sweep := none }
    match j.cmd with | some c => finish c st [] s | none => s

/-- A lane begins a relock attempt with fixed settings (R443); each counts. -/
def relockAttempt (l : Nat) (s : State) : State :=
  s.bump .laneRelocks l |>.setLane l { s.lane l with attemptStart := s.tick.toNat, retryFrom := none }

/-- A lane relocks: state 5, its entry reloaded, with the settings of a lane without a valid entry where it has none (R443; log entry
61). -/
def relock (l : Nat) (s : State) : State :=
  let s := loadEntry l (cutScan l s)
  relockAttempt l (setLaneState l 5 (s.setLane l { s.lane l with attempts := 0 }))

/-- The code a sweep chooses of its 37 scores: the highest, the lower code on a tie (R441). -/
def bestCode (scores : List Nat) : Nat :=
  ((List.range 37).foldl (fun (b : Nat) k => if scores.getD b 0 < scores.getD k 0 then k else b) 0)

/-- The score of a code: the smallest of its three openings. -/
def sweepScores (r : SweepResult) : List Nat := r.openings.map (fun o => min o.1 (min o.2.1 o.2.2))

/-- A receive FFE tap within its range (Table 3). -/
def tapInRange (k : Nat) (v : Int) : Int := if k = 2 then max 1 (min 63 v) else max (-32) (min 31 v)

/-- The settings after a sweep: CTLE, VGA and receive FFE from the result, within Table 3, all else as before. -/
def sweptEntry (old : List Byte) (r : SweepResult) : List Byte :=
  overlay (overlay old 1 [BitVec.ofNat 8 (bestCode (sweepScores r)), BitVec.ofNat 8 r.vga.val]) 4
    ((List.range 8).map (fun k => BitVec.ofInt 8 (tapInRange k (r.ffe.getD k 0))))

/-- A lane's sweep ends with a result (R441, R442). What is written back joins the entry as NVM holds it by then. -/
def sweepDone (s : State) (q : Nat × SweepResult) : State :=
  let x := s.lane q.1
  match x.sweep with
  | none => s
  | some j =>
    let e := sweptEntry x.settings q.2
    let s := s.setLane q.1 { x with sweep := none, settings := e }
    let s := s.setAttr .laneCtleCode q.1 0 (bestCode (sweepScores q.2))
    if j.writeback then
      let w := sweptEntry (startEntry s q.1) q.2
      writeEntry q.1 (overlay w 0 [byteAt w 0 ||| 1]) (s.setAttr .laneEqSource q.1 0 0)
    else s.setAttr .laneEqSource q.1 0 1

/-- LANE_SWEEP_DONE (R441, R442, R455): the lanes that sweep on an interface, with a result each, in rising order. -/
def execLaneSweepDone (lane : Fin 64) (results : List SweepResult) (s : State) : Host.Outcome State Fault Refusal :=
  let ls := (laneMates s lane).filter (fun l => laneState s l = 3 && (s.lane l).sweep.isSome)
  let cmd := (ls.filterMap (fun l => ((s.lane l).sweep.bind (·.cmd)))).head?
  let fs : List Fld := ((List.range results.length).map (fun k =>
    let sc := sweepScores (results.getD k ⟨[], 0, []⟩)
    (16 + 2 * k, 2, bestCode sc + 256 * (sc.getD (bestCode sc) 0 % 256))))
  .next (if ls.isEmpty || ls.length ≠ results.length then s
    else
      let s := (ls.zip results).foldl sweepDone s
      match cmd with | some c => finish c .ok fs s | none => s)

/-- LANE_LOCKED (R440, R443, R446): clock recovery and PCS lock are reached. -/
def execLaneLocked (lane : Fin 64) (s : State) : Host.Outcome State Fault Refusal :=
  let x := s.lane lane
  let st := laneState s lane
  .next (if s.domRuns (laneDomain lane) &&
      ((st = 2 && (x.woken.isNone || entryValid (laneEntry s lane))) || (st = 3 && x.sweep.isNone) || (st = 5 && x.retryFrom.isNone)) then
    let s := if x.woken.isSome then loadEntry lane s else s
    setLaneState lane 4 (s.setLane lane { s.lane lane with attempts := 0, woken := none })
    else s)

/-- LANE_LOCK_LOST (R443): loss of lock for 64 consecutive ticks. -/
def execLaneLockLost (lane : Fin 64) (s : State) : Host.Outcome State Fault Refusal :=
  .next (if laneState s lane = 4 then relock lane s else s)

/-- RELOCK_ATTEMPT_TIMEOUT (R443): an attempt is bounded by 5 ms; after 3 failures the lane sweeps or waits. -/
def execRelockAttemptTimeout (lane : Fin 64) (s : State) : Host.Outcome State Fault Refusal :=
  let x := s.lane lane
  .next (if laneState s lane = 5 && x.retryFrom.isNone && decide (x.attemptStart + msTicks 5 ≤ s.tick.toNat) then
    if x.attempts + 1 < 3 then relockAttempt lane (s.setLane lane { x with attempts := x.attempts + 1 })
    else if s.attr .laneAutoSweep lane = 1 then startSweep (ownSweep s lane) lane s
    else s.setLane lane { x with attempts := 3, retryFrom := some x.attemptStart }
    else s)

/-- RELOCK_RETRY (R443): a lane without auto_sweep tries again every 100 ms. -/
def execRelockRetry (lane : Fin 64) (s : State) : Host.Outcome State Fault Refusal :=
  .next (match (s.lane lane).retryFrom with
    | some t =>
      if laneState s lane = 5 && decide (t + msTicks 100 ≤ s.tick.toNat) then relockAttempt lane s else s
    | none => s)

/-! ### Interfaces and dormancy (R432, R444 to R447) -/

/-- Stops a lane domain whose four lanes are all dormant (R178, R444). -/
def restDomain (l : Nat) (s : State) : State :=
  if (List.range 4).all (fun k => laneState s (l / 4 * 4 + k) = 1) then domainStop s (laneDomain l) else s

/-- A dormancy request stops sweeps and eye scans at once (R454). -/
def dormancyRequest (l : Nat) (s : State) : State :=
  (laneMates s l).foldl (fun s k => cutScan k (stopSweep .eState k s)) s

/-- One lane becomes dormant. -/
def laneSleep (s : State) (l : Nat) : State :=
  let s := cutScan l (stopSweep .eState l s)
  let s := s.setLane l { s.lane l with settings := [], attempts := 0, retryFrom := none, woken := none }
  restDomain l (setLaneState l 1 (s.setAttr .laneDormant l 0 1))

/-- One lane leaves dormancy (Table 5, step 1): state 2, a new generation, and nothing of before is used (R447). A lane of no interface
is off; its domain runs all the same (R178). -/
def laneWake (s : State) (l : Nat) : State :=
  let s := (s.setAttr .laneDormant l 0 0).bump .laneGeneration l
  if s.attr .laneIfFirst l = 0xFF then
    setLaneState l 0 (domainStart (s.setLane l { s.lane l with settings := [] }) (laneDomain l))
  else
    let s := loadEntry l (domainStart s (laneDomain l))
    setLaneState l 2 (s.setLane l { s.lane l with attempts := 0, retryFrom := none, sweep := none, woken := some s.tick.toNat })

/-- Step 3 of Table 5 has passed for a woken lane: its entry is reloaded, and a lane without a valid one sweeps in place of step 4. The step
is taken at its bound of 1 ms (R446; DESIGN CHOICE, log entry 185). -/
def laneReloads (l : Nat) (s : State) : State :=
  match (s.lane l).woken with
  | none => s
  | some t =>
    if laneState s l ≠ 2 || decide (s.tick.toNat < t + msTicks 1) then s
    else
      let s := loadEntry l (s.setLane l { s.lane l with woken := none })
      if entryValid (laneEntry s l) then s else startSweep (ownSweep s l) l s

/-- A written `dormant` takes effect at a tick boundary on the lanes it applies to (R444, R446). -/
def dormantEffect (l : Nat) (v : Int) (s : State) : State :=
  (laneMates s l).foldl (fun s k =>
    if v = 1 then (if laneState s k = 1 then s.setAttr .laneDormant k 0 1 else laneSleep s k)
    else if laneState s k = 1 then laneWake s k else s.setAttr .laneDormant k 0 0) s

/-- A write of `dormant` of one value, made before the present boundary, takes effect at it. -/
def takeDormant (l : Nat) (v : Int) (s : State) : State :=
  let k := Attr.key .laneDormant l 0
  if s.clk.ticking && s.isDue k && s.written.any (fun e => e.1 = k && e.2 = v) then
    dormantEffect l v { s with written := Tab.erase s.written k }
  else s

/-- LANE_DORMANT_ENTRY (R444). -/
def execLaneDormantEntry (lane : Fin 64) (s : State) : Host.Outcome State Fault Refusal := .next (takeDormant lane 1 s)

/-- LANE_DORMANT_EXIT (R446). -/
def execLaneDormantExit (lane : Fin 64) (s : State) : Host.Outcome State Fault Refusal := .next (takeDormant lane 0 s)

/-- A lane leaves its interface: off, unless it is dormant. -/
def laneOff (s : State) (l : Nat) : State :=
  let s := cutScan l (stopSweep .eState l s)
  let s := (s.setAttr .laneIfFirst l 0 0xFF).setLane l { s.lane l with settings := [], attempts := 0, retryFrom := none, woken := none }
  if laneState s l = 1 then s else setLaneState l 0 s

/-- A lane joins an interface that is rebuilt: it leaves the one it was in, and starts, or is dormant with it. -/
def laneJoins (l : Nat) (asleep : Bool) (s : State) (k : Nat) : State :=
  let s := if s.attr .laneIfFirst k = 0xFF then s else laneOff s k
  let s := s.setAttr .laneIfFirst k 0 l
  if !asleep then startLane s k else if laneState s k = 1 then s else laneSleep s k

/-- A written `if_type` takes effect (R432): the old interface goes, with the lanes it still has, and the lanes of the new one start. Where
a lane of it is dormant, the interface is rebuilt dormant (R454; log entry 186). -/
def ifTypeEffect (l : Nat) (v : Int) (s : State) : State :=
  if s.attr .laneIfType l = v then s
  else
    let s := if ifConfigured s l then ((ifLanes s l).filter (fun k => s.attr .laneIfFirst k = l)).foldl laneOff s else s
    let s := s.setCif l {}
    let s := s.setAttr .laneIfType l 0 v
    if v = 0 then s
    else (ifLanes s l).foldl (laneJoins l ((ifLanes s l).any (fun k => laneState s k = 1))) s

/-- The firmware stops: running sweeps stop and their lanes relock with their entries, eye scans stop with nothing kept
(R454, R152). At an activation pause only the sweeps stop. -/
def lanesAtFwReset (scans : Bool) (s : State) : State :=
  (List.range 64).foldl (fun s l =>
    let s := if laneState s l = 3 && (s.lane l).sweep.isSome then
        let s := stopSweep .failedInFlight l s
        let s := loadEntry l s
        relockAttempt l (setLaneState l 5 (s.setLane l { s.lane l with attempts := 0 }))
      else s
    match (s.lane l).scan with
    | some j =>
      if scans then finish j.cmd .failedInFlight [] (s.setLane l { s.lane l with scan := none }) else s
    | none => s) s

/-- `lane_table_bad` when the record is not used (R438), as firmware starts. -/
def laneTableCheck (s : State) : State := if laneTableOk s.laneTable then s else raise 0x0D03 2 noIndex [] s

/-! ### Commands (R448, R449, R453, R455) -/

/-- SY_LANE_SWEEP (R455). -/
def execSyLaneSweep (c : CmdRef) (s : State) : Host.Outcome State Fault Refusal :=
  .next (serve 0x0D01 anyForm [(16, 2)]
    (fun s _ e =>
      let l := fieldAt e 16 1
      let f := s.attrN .laneIfFirst l
      [(decide (63 < l) || decide (1 < fieldAt e 17 1), .eRange),
       ((f ≠ 0xFF && f ≠ l) || (laneMates s l).any (fun k =>
          decide (laneState s k ≤ 1) || (s.lane k).sweep.isSome), .eState)])
    (fun s c e =>
      let l := fieldAt e 16 1
      let s := interim c .accepted .started s
      ((laneMates s l).foldl (fun s k => startSweep ⟨some c, fieldAt e 17 1 = 1⟩ k s) s, .accept))
    c s)

/-- The conditions of both forms of SY_LANE_TABLE. -/
def laneTableChecks (s : State) (sid : Nat) (e : List Byte) : List (Bool × Status) :=
  let n := fieldAt e 18 1
  [(decide (1 < fieldAt e 16 1) || n = 0 || decide (64 < fieldAt e 17 1 + n) || areaBad s sid (fieldAt e 24 8) (16 * n),
    .eRange)]

/-- SY_LANE_TABLE op 0 (R439): every field is checked before anything changes. It takes invalid values of op too. -/
def execSyLaneTableWrite (c : CmdRef) (dma : List Byte) (s : State) : Host.Outcome State Fault Refusal :=
  .next (serve 0x0D02 (fun e => fieldAt e 16 1 ≠ 1) [(16, 3), (20, 4), (24, 8)]
    (fun s sid e =>
      let n := fieldAt e 18 1
      let d := readArea s sid (fieldAt e 24 8) (16 * n) dma
      (decide (s.attrN .sessionPermission sid < 2), .ePermission) :: laneTableChecks s sid e ++
      [((List.range n).any (fun k => entryBad (bytesAt d (16 * k) 16)), .eRange)])
    (fun s c e =>
      let d := readArea s c.session (fieldAt e 24 8) (16 * fieldAt e 18 1) dma
      ({ s with laneTable := laneTableWith s.laneTable (fieldAt e 20 4) (fieldAt e 17 1) d }, .final .ok []))
    c s)

/-- SY_LANE_TABLE op 1 (R455): the entries as the record holds them. -/
def execSyLaneTableRead (c : CmdRef) (s : State) : Host.Outcome State Fault Refusal :=
  .next (serve 0x0D02 (fun e => fieldAt e 16 1 = 1) [(16, 3), (20, 4), (24, 8)] laneTableChecks
    (fun s c e =>
      (writeArea s c.session (fieldAt e 24 8) (bytesAt s.laneTable (32 + 16 * fieldAt e 17 1) (16 * fieldAt e 18 1)),
        .final .ok [(20, 4, fieldAt s.laneTable 8 4)]))
    c s)

/-- Steps of a range from `a` to `b` by `k`. -/
def gridSteps (a b : Int) (k : Nat) : Nat := if k = 0 || decide (b < a) then 0 else (b - a).toNat / k + 1

/-- The points of an eye scan's grid (R448). -/
def scanPoints (e : List Byte) : Nat :=
  gridSteps (fieldInt e 20 1) (fieldInt e 21 1) (fieldAt e 22 1) * gridSteps (fieldInt e 23 1) (fieldInt e 24 1) (fieldAt e 25 1)

/-- SY_EYE_SCAN (R448, R449). -/
def execSyEyeScan (c : CmdRef) (s : State) : Host.Outcome State Fault Refusal :=
  .next (serve 0x0D03 anyForm [(16, 3), (20, 6)]
    (fun s _ e =>
      let l := fieldAt e 16 1
      let x := s.lane l
      let d := fieldAt e 18 1
      [(decide (63 < l) || decide (2 < fieldAt e 17 1) || decide (d < 10) || decide (30 < d) ||
          decide (fieldInt e 20 1 < -32) || decide (31 < fieldInt e 21 1) || fieldAt e 22 1 = 0 ||
          decide (64 < fieldAt e 22 1) || decide (fieldInt e 23 1 < -63) || decide (63 < fieldInt e 24 1) ||
          fieldAt e 25 1 = 0 || decide (127 < fieldAt e 25 1) || scanPoints e = 0 || decide (4096 < scanPoints e), .eRange),
       (laneState s l ≠ 4 || x.scan.isSome || x.sweep.isSome || gated s 10 || decide (2 ≤ s.attr .thermalLevel), .eState)])
    (fun s c e =>
      let l := fieldAt e 16 1
      (s.setLane l { s.lane l with scan := some { cmd := c, points := scanPoints e, start := s.tick.toNat, gen := s.attrN .laneGeneration l, dwell := fieldAt e 18 1 } }, .accept))
    c s)

/-- EYE_SCAN_DONE (R448, R449): the counts measured; all of them, or those before the scan was cut short. -/
def execEyeScanDone (lane : Fin 64) (counts : List Nat) (s : State) : Host.Outcome State Fault Refusal :=
  let x := s.lane lane
  .next (match x.scan with
    | none => s
    | some j =>
      if !j.cut && counts.length ≠ j.points then s
      else
        let d := (counts.take j.points).flatMap (fun n => leBytes 4 (min n (2 ^ j.dwell)))
        let s := s.setLane lane { x with scan := none, eye := some ⟨j.gen, j.start, padTo (ceilDiv d.length 64 * 64) d⟩ }
        finish j.cmd (if j.cut then .eState else .ok)
          [(16, 2, min counts.length j.points), (20, 4, j.gen), (24, 8, j.start)] s)

/-- SY_EYE_READ (R447, R449): the layout of SY_CAPTURE_READ, with the lane and the generation in place of port and
sequence. -/
def execSyEyeRead (c : CmdRef) (s : State) : Host.Outcome State Fault Refusal :=
  .next (serve 0x0D04 anyForm [(16, 3), (20, 4), (24, 4), (28, 4), (32, 8)]
    (fun s sid e =>
      let l := fieldAt e 16 1
      let o := fieldAt e 20 4
      let n := fieldAt e 24 4
      let r := (s.lane l).eye
      [(decide (63 < l) || decide (1 < fieldAt e 17 1) || decide (1 < fieldAt e 18 1) || o % 64 ≠ 0 || n % 64 ≠ 0 ||
          decide (n < 64) || decide (65536 < n) || ((s.sess sid).onDie && decide (8192 < n)) ||
          areaBad s sid (fieldAt e 32 8) n ||
          (match r with | some b => decide (b.data.length < o + n) | none => false), .eRange),
       ((match r with | some b => b.gen ≠ fieldAt e 28 4 | none => true) || gated s 10, .eState),
       ((match r with | some b => decide (b.gen < s.attrN .laneGeneration l) | none => false), .eStale)])
    (fun s c e =>
      let l := fieldAt e 16 1
      let n := fieldAt e 24 4
      match (s.lane l).eye with
      | none => (s, .final .eState [])
      | some b =>
        let s := writeArea s c.session (fieldAt e 32 8) (bytesAt b.data (fieldAt e 20 4) n)
        let s := if fieldAt e 18 1 = 1 then s.setLane l { s.lane l with eye := none } else s
        (s, .final .ok [(16, 4, n), (24, 8, b.start)]))
    c s)

/-- The record queue of a direction. -/
def stampQueue (s : State) (dir : Nat) : List (List Byte) := if dir = 0 then s.stamps0 else s.stamps1

/-- SY_TS_READ (R453, Table 9). -/
def execSyTsRead (c : CmdRef) (s : State) : Host.Outcome State Fault Refusal :=
  .next (serve 0x0D05 anyForm [(16, 1), (20, 4), (24, 8)]
    (fun s sid e =>
      let n := fieldAt e 20 4
      [(decide (1 < fieldAt e 16 1) || n = 0 || decide (8192 < n) || ((s.sess sid).onDie && decide (170 < n)) ||
          areaBad s sid (fieldAt e 24 8) (48 * n), .eRange)])
    (fun s c e =>
      let dir := fieldAt e 16 1
      let q := stampQueue s dir
      let n := min (fieldAt e 20 4) q.length
      let s := if n = 0 then s else writeArea s c.session (fieldAt e 24 8) (q.take n).flatten
      let s := if dir = 0 then { s with stamps0 := q.drop n } else { s with stamps1 := q.drop n }
      (s, .final .ok [(16, 4, n), (20, 4, q.length - n)]))
    c s)

end Sys2Proof.Machine
end

