-- ==== Sys2Proof/Machine/Code.lean ====
section
/-!
DEFINITION. Sys2Proof/Machine/Code.lean: the Facet code: its parity checks, its encoder, and the layered decoding of a codeword (R300 to
R307 of spec/09).
-/
namespace Sys2Proof.Machine

/-! ### Bits and bytes (R335) -/

/-- The bits of a byte, most significant first. -/
def byteBits (b : Byte) : List Bool := (List.range 8).map (fun i => b.getLsbD (7 - i))

/-- The bits of a byte string in the order in which they are sent. -/
def bytesBits (l : List Byte) : List Bool := l.flatMap byteBits

/-- The byte that bits spell, most significant first. -/
def bitsByte (l : List Bool) : Byte := BitVec.ofNat 8 (l.foldl (fun a b => 2 * a + b01 b) 0)

/-- `n` bytes from bits. -/
def bitsBytes (n : Nat) (l : List Bool) : List Byte := (List.range n).map (fun k => bitsByte ((l.drop (8 * k)).take 8))

/-! ### The code (R300 to R303) -/

/-- The shift of a nonzero block (r, c) of H; none for a zero block (R301, Table 1). -/
def facetShift (r c : Nat) : Option Nat :=
  if c < 32 then some (r * (4 * c + 1) % 256)
  else match r, c with
    | 0, 32 => some 0
    | 1, 32 => some 17 | 1, 33 => some 0
    | 2, 32 => some 94 | 2, 33 => some 203 | 2, 34 => some 0
    | 3, 32 => some 151 | 3, 33 => some 58 | 3, 34 => some 229 | 3, 35 => some 0
    | _, _ => none

/-- Exclusive-OR of two bit lists. -/
def xorBits (a b : List Bool) : List Bool := List.zipWith (fun x y => x != y) a b

/-- The circulant P^s applied to a block of 256 values: value i of the result is value (i + s) mod 256. -/
def rotBlock {α : Type} (s : Nat) (l : List α) : List α := l.drop (s % 256) ++ l.take (s % 256)

/-- The sum over the blocks of one block row: blocks are given in column order from column `c`. -/
def rowSum (r : Nat) : Nat → List (List Bool) → List Bool
  | _, [] => List.replicate 256 false
  | c, b :: t =>
    match facetShift r c with
    | some s => xorBits (rotBlock s b) (rowSum r (c + 1) t)
    | none => rowSum r (c + 1) t

/-- The parity blocks after so many rows, from information and earlier parity blocks (R303). -/
def parityBlocks (info : List (List Bool)) : Nat → List (List Bool)
  | 0 => []
  | r + 1 =>
    let p := parityBlocks info r
    p ++ [rowSum r 0 (info ++ p)]

/-- The codeword of 8,192 information bits: the bits, then 1,024 parity bits (R303). -/
def facetEncode (u : List Bool) : List Bool := u ++ (parityBlocks (chunks 32 256 u) 4).flatten

/-- Every check of R301 holds. -/
def syndromeZero (x : List Bool) : Bool :=
  (List.range 4).all (fun r => (rowSum r 0 (chunks 36 256 x)).all (fun b => !b))

/-! ### Decoding (R306, R307) -/

/-- A codeword in decode: its a-posteriori values by block column, and the check messages of each block row by the row's nonzero blocks. -/
structure Soft where
  app : List (List Int) := []
  msg : List (List (List Int)) := []
deriving DecidableEq, Repr

/-- The nonzero blocks of a block row: column and shift. -/
def layerBlocks (r : Nat) : List (Nat × Nat) := (List.range 36).filterMap (fun c => (facetShift r c).map (fun s => (c, s)))

/-- The message of a check to one of its bits, from what the other bits tell it: the product of the signs, and the smallest magnitude
less the offset, held to 6 bits. -/
def checkMsg (others : List Int) : Int :=
  let least : Nat := match others.map Int.natAbs with
    | [] => 0
    | a :: t => t.foldl min a
  let v := clampInt 0 31 ((least : Int) - (Config.minSumOffset : Int))
  if others.countP (fun x => decide (x < 0)) % 2 = 1 then -v else v

/-- One layer (R306): every check of block row `r` takes what its bits tell it and answers, and the a-posteriori values, held to 8 bits,
take the answers up. -/
def layerStep (r : Nat) (x : Soft) : Soft :=
  let blocks := layerBlocks r
  let old := x.msg.getD r []
  let told := blocks.mapIdx (fun j b =>
    List.zipWith (· - ·) (rotBlock b.2 (x.app.getD b.1 [])) ((old.getD j []) ++ List.replicate 256 0))
  let answers := (List.range blocks.length).map (fun j => (List.range 256).map (fun i =>
    checkMsg ((told.map (fun l => l.getD i 0)).eraseIdx j)))
  let app := (List.range blocks.length).foldl (fun (a : List (List Int)) j =>
    let b := blocks.getD j (0, 0)
    a.set b.1 (rotBlock (256 - b.2) (List.zipWith (fun p q => clampInt (-128) 127 (p + q)) (told.getD j []) (answers.getD j [])))) x.app
  { app := app, msg := x.msg.set r answers }

/-- A codeword after so many layers, from its LLRs. -/
def decodeLayers (llrs : List Int) : Nat → Soft
  | 0 => { app := chunks 36 256 llrs, msg := List.replicate 4 [] }
  | n + 1 => layerStep (n % 4) (decodeLayers llrs n)

/-- The hard decision on a value: a positive value favours 0 (R257). -/
def hardBit (v : Int) : Bool := decide (v < 0)

/-- The hard decisions after so many layers (R306). -/
def hardBits (llrs : List Int) (layers : Nat) : List Bool := (decodeLayers llrs layers).app.flatten.map hardBit

/-- The first iteration, of at most `cap`, at whose end every check holds (R307). -/
def stopIter (llrs : List Int) (cap : Nat) : Option Nat :=
  ((List.range cap).map (· + 1)).find? (fun k => syndromeZero (hardBits llrs (4 * k)))

end Sys2Proof.Machine
end

