-- ==== Sys2Proof/Machine/Signal.lean ====
section
/-!
DEFINITION. Sys2Proof/Machine/Signal.lean: what the stages of the millrace do to the samples of a received frame, from the resampler to
the soft demapper (R226 and R238 to R257 of spec/07).
-/
namespace Sys2Proof.Machine

/-! ### Complex values -/

/-- Sum, product and multiple of complex values. -/
def cAdd (a b : Cpx) : Cpx := (a.1 + b.1, a.2 + b.2)
def cMul (a b : Cpx) : Cpx := (a.1 * b.1 - a.2 * b.2, a.1 * b.2 + a.2 * b.1)
def cScale (k : Rat) (a : Cpx) : Cpx := (k * a.1, k * a.2)

/-- A complex value turned by so many quadrants. -/
def cTurn : Nat → Cpx → Cpx
  | 0, a => a
  | n + 1, a => cTurn n (-a.2, a.1)

/-- The square root of a number from 0 up, to 64 places after the binary point: the spec gives the square roots it names no precision
(DESIGN CHOICE, log entry 136). -/
def sqrtRat (v : Rat) : Rat := (Nat.sqrt (v.num.toNat * 2 ^ 128 / v.den) : Rat) / 2 ^ 64

/-- The scale s_m of a mode's values, 1 ÷ √(2 E_m) (R283). -/
def modeScale (m : Nat) : Rat :=
  let r := matcherRow m
  sqrtRat (((r.dims ^ r.levels.length : Nat) : Rat) / ((2 * modeEnergy m : Nat) : Rat))

/-- A number rounded to the nearest whole one, a half upwards. -/
def roundRat (v : Rat) : Int := (v + 1 / 2).floor

/-- The s16 at an offset of a table of factors, 16,384 meaning 1.0 (R254). -/
def factorAt (bit : Nat) (t : Tab Byte) (o : Nat) : Rat := (fieldInt (tableRead bit t o 2) 0 2 : Rat) / 16384

/-- The factors of a bin for X and Y in a table of bit `bit` of SY_COMMIT (R254, R287). -/
def binFactors (bit : Nat) (t : Tab Byte) (slot bin : Nat) : Cpx × Cpx :=
  let o := binOffset slot bin
  ((factorAt bit t o, factorAt bit t (o + 2)), (factorAt bit t (o + 4), factorAt bit t (o + 6)))

/-! ### Resampler and deskew (R238 to R243) -/

/-- The code of a channel at a place counted from the reference sample. -/
def Samples.code (x : Samples) (c : Nat) (i : Int) : Byte :=
  if i < 0 then (x.before.getD c []).getD (-i - 1).toNat 0 else (x.codes.getD c []).getD i.toNat 0

/-- The core that takes sample `k` of a channel, and the phase within it (R189). -/
def sampleCore (channel k : Nat) : Nat := 2 * channel + k % 2
def samplePhase (k : Nat) : Nat := k / 2 % 48

/-- The offset residual of the slice that takes sample `k` of a channel. -/
def sampleResidual (residuals : List (List Int)) (channel k : Nat) : Int :=
  (residuals.getD (sampleCore channel k) []).getD (samplePhase k) 0

/-- A code with its slice's digital residual added, to the nearest code and within 8 bits (R191, R192, R216). -/
def residualCode (code : Byte) (residual : Int) : Byte :=
  BitVec.ofInt 8 (clampInt (-128) 127 (roundDiv (256 * code.toInt + residual) 256))

/-- What applies to the input samples of a clock: the last settings whose clock has come (R241, R244). -/
def RxFrame.settingAt (f : RxFrame) (clock : Int) : RxSet :=
  (f.sets.filter (fun (e : RxSet) => decide ((e.clock : Int) ≤ clock))).getLastD (f.sets.headD ⟨0, [], [], 0⟩)

/-- What applies to the input sample that stands at a position. -/
def RxFrame.setting (f : RxFrame) (pos : Int) : RxSet := f.settingAt ((f.taken : Int) + pos / 2 ^ 44 / 256)

/-- The sample of a channel at a place counted from the reference sample, with the residual of its slice (R189, R191, R194). -/
def RxFrame.corrected (f : RxFrame) (c : Nat) (i : Int) : Rat :=
  let k := 256 * (f.taken : Int) + i
  ((residualCode (f.samples.code c i) (sampleResidual (f.settingAt (k / 256)).residuals c k.toNat)).toInt : Rat)

/-- A tap of the prototype filter of 4,609 taps, which is symmetric about tap 2,304 (R238). -/
def protoTap (n : Nat) : Rat := Config.prototype (min n (4608 - n))

/-- The interpolator at a position in 2^-44 input samples: 72 input samples, weighted by the phase that the top 6 bits of the fraction
select (R238, R239). -/
def interpolate (x : Int → Rat) (pos : Int) : Rat :=
  let i := pos / 2 ^ 44
  let phase := (pos % 2 ^ 44 / 2 ^ 38).toNat
  ((List.range 72).map (fun j => protoTap (64 * j + phase) * x (i - j))).sum

/-- The position of output sample `k` of a frame before skew: from the accumulator at the last 1,024th sample, on by the ratio (R239,
R240). -/
def RxFrame.position (f : RxFrame) (k : Int) : Int :=
  let n := min (k / 1024).toNat (f.segs.length - 1)
  let g := f.segs.getD n (0, 2 ^ 44)
  (g.1 : Int) + (k - 1024 * (n : Int)) * (g.2 : Int)

/-- A skew setting in 2^-44 input samples (R241). -/
def skewUnits (fs : Int) : Int := roundDiv (fs * (3456 * 2 ^ 44)) 10000000

/-- Output sample `k` of a channel (R238 to R241). -/
def RxFrame.resampled (f : RxFrame) (c : Nat) (k : Int) : Rat :=
  let pos := f.position k
  interpolate (f.corrected c) (pos + skewUnits ((f.setting pos).skew.getD c 0))

/-- What the engine puts out for a channel at an instant counted in output samples: blocks of 64 in turn leave channel `c` behind by 64 × c
(R242). -/
def RxFrame.engineOut (f : RxFrame) (c : Nat) (r : Int) : Rat := f.resampled c (r - resamplerLag c)

/-- What the deskew stage puts out at an instant: every channel at the same output sample (R243). -/
def RxFrame.deskewed (f : RxFrame) (c : Nat) (r : Int) : Rat := f.engineOut c (r - deskewDelay c)

/-! ### Bulk filter, sail split and equaliser (R244 to R248) -/

/-- Output sample `k` of a polarisation, X or Y, as a complex value. It stands 192 samples late, which the deskew stage adds to XI. -/
def RxFrame.field (f : RxFrame) (y : Bool) (k : Int) : Cpx :=
  (f.deskewed (if y then 2 else 0) (k + 192), f.deskewed (if y then 3 else 1) (k + 192))

/-- A polarisation past the bulk filter, under the setting in force at each sample, and past the shift that removes the carrier offset of
so many kHz (R244, R256). -/
def RxFrame.shifted (f : RxFrame) (y : Bool) (k : Int) : Cpx :=
  cMul (Config.rotor (-(f.carrier : Rat) * (k : Rat) / 345600000)) (Config.bulk (f.setting (f.position k)).bulk (f.field y) k)

/-- The tracking block of a slot (R250). -/
def blockOf (slot : Nat) : Nat := min (slot / 64) 336

/-- The taps of a sail in a block: those that stand from it or from a block before it; none for none trained. -/
def RxFrame.tapsAt (f : RxFrame) (sail block : Nat) : Option TapSet :=
  match (Tab.get [] f.taps sail).find? (fun e => decide (e.1 ≤ block)) with
  | some e => e.2
  | none => none

/-- The first output sample of a slot, which lasts 20.48 of them. -/
def slotSample (slot : Nat) : Nat := slot * 512 / 25

/-- A bin of a sail past the equaliser, for a slot of its block: the static table, then the adaptive taps, from which the quadratic phase
is taken of what the bulk setting at that slot has moved by since they were computed (R246, R248). Bin 255 is a guard bin. -/
def RxFrame.equalised (f : RxFrame) (p sail slot bin : Nat) : Cpx × Cpx :=
  if 255 ≤ bin then ((0, 0), (0, 0))
  else
    let band := sail + modeFirstSlot f.mode
    let st := binFactors (1 + p) f.static band bin
    let x := cMul st.1 (Config.analyse (f.shifted false) (blockOf slot) (256 * band + bin))
    let y := cMul st.2 (Config.analyse (f.shifted true) (blockOf slot) (256 * band + bin))
    match f.tapsAt sail (blockOf slot) with
    | none => (x, y)
    | some t =>
      let m := Config.taps t.draw bin
      let turn := Config.quadratic ((f.setting (f.position (slotSample slot))).bulk - t.bulk) (256 * band + bin)
      (cMul turn (cAdd (cMul m.1 x) (cMul m.2.1 y)), cMul turn (cAdd (cMul m.2.2.1 x) (cMul m.2.2.2 y)))

/-! ### Carrier recovery and soft demapper (R256, R257) -/

/-- A slot of a sail before its phase is recovered. -/
def RxFrame.unturned (f : RxFrame) (p sail slot : Nat) : Cpx × Cpx := Config.slotSymbol (f.equalised p sail slot) slot

/-- A slot of a sail after carrier recovery: turned by its own phase, and by the quadrant that pilots and training block tell. -/
def RxFrame.symbol (f : RxFrame) (p sail slot : Nat) : Cpx × Cpx :=
  let r := Config.phase (f.unturned p sail) slot
  let q := f.quads.getD sail 0
  let v := f.unturned p sail slot
  (cTurn q (cMul r v.1), cTurn q (cMul r v.2))

/-- The real dimensions of data symbol `n` of a frame in the order XI, XQ, YI, YQ, with the SNR of the sail (R257, R280). -/
def RxFrame.dims (f : RxFrame) (p n : Nat) : List (Rat × Nat) :=
  let at' := dataPlace f.mode n
  let v := f.symbol p at'.2 at'.1
  let snr := Config.snr (f.symbol p at'.2)
  [(v.1.1, snr), (v.1.2, snr), (v.2.1, snr), (v.2.2, snr)]

/-- How far the real dimensions of a block lie from the block of the shaped constellation that coded bits label, each dimension by the
weight of its sail's SNR (R257, R283). -/
def blockDistance (m : Nat) (dims : List (Rat × Nat)) (bits : List Bool) : Rat :=
  ((dims.zip (matcherBlock m bits)).map (fun e =>
    (Config.weight e.1.2 : Rat) * (e.1.1 - modeScale m * (e.2 : Rat)) ^ 2)).sum

/-- The coded bits of a block that a number spells, the first most significant. -/
def blockBits (w n : Nat) : List Bool := (List.range w).map (fun i => bitOf n (w - 1 - i))

/-- How far the nearest block lies in which a coded bit has a value (R257). -/
def bitDistance (m : Nat) (dims : List (Rat × Nat)) (i : Nat) (v : Bool) : Rat :=
  let w := (matcherRow m).coded
  let all := (List.range (2 ^ w)).filter (fun n => bitOf n (w - 1 - i) = v)
  (all.map (fun n => blockDistance m dims (blockBits w n))).foldl min (blockDistance m dims ((List.range w).map (fun j => v && j = i)))

/-- The soft demapper (R257): an LLR is positive where the nearest block with the bit at 0 is nearer than that with 1, and grows with the
difference (DESIGN CHOICE: the nearest block of each value stands for all, log entry 136). -/
def softBit (m : Nat) (dims : List (Rat × Nat)) (i : Nat) : Int :=
  let d := bitDistance m dims i true - bitDistance m dims i false
  if 0 ≤ d then (Config.llrLevel d : Int) else -(Config.llrLevel (-d) : Int)

/-- The LLR of a coded bit of a frame: 6 bits, -31 to +31 (R257). -/
def RxFrame.llr (f : RxFrame) (p bit : Nat) : Int :=
  let r := matcherRow f.mode
  let first := bit / r.coded * r.symbols
  clampInt (-31) 31 (softBit f.mode ((List.range r.symbols).flatMap (fun j => f.dims p (first + j))) (bit % r.coded))

/-- The LLRs of a codeword of a frame. -/
def RxFrame.llrs (f : RxFrame) (p index : Nat) : List Int := (List.range 9216).map (fun b => f.llr p (9216 * index + b))

/-- The sail that carried a coded bit of a frame: a sign bit stands in one dimension; what a label bit tells is spread over its block
(R265, R281). -/
def bitSail (m bit : Nat) : Nat :=
  let r := matcherRow m
  let t := bit % r.coded
  if t < r.dims then (dataPlace m (bit / r.coded * r.symbols + t / 4)).2 else Config.labelSail m bit % modeSails m

/-- The clock at which a matcher block leaves the demapper, with the LLRs of its coded bits: 2,160 clocks after the sample that carries its
last data symbol (R227, R308). -/
def RxFrame.blockClock (f : RxFrame) (block : Nat) : Nat :=
  let r := matcherRow f.mode
  f.taken + 2160 + (dataPlace f.mode (r.symbols * (block + 1) - 1)).1 * 8 / 100

/-- The clock at which the first LLR of a codeword leaves the demapper (R308). -/
def RxFrame.firstClock (f : RxFrame) (index : Nat) : Nat := f.blockClock (9216 * index / (matcherRow f.mode).coded)

/-- The clock at which the last LLR of a codeword leaves the demapper: that of the last matcher block it takes bits of (R308). -/
def RxFrame.entryClock (f : RxFrame) (index : Nat) : Nat :=
  f.blockClock ((9216 * (index + 1) - 1) / (matcherRow f.mode).coded)

/-! ### Snapshot rows (R266) -/

/-- A row of a snapshot as four values: resampler output and deskew output in 1/256 LSB, or a symbol with 4,096 meaning 1.0. -/
def RxFrame.row (f : RxFrame) (p point sail r : Nat) : List Rat :=
  match point with
  | 0 => (List.range 4).map (fun c => 256 * f.engineOut c r)
  | 1 => (List.range 4).map (fun c => 256 * f.deskewed c ((r : Int) + 192))
  | _ =>
    let v := f.symbol p sail r
    [4096 * v.1.1, 4096 * v.1.2, 4096 * v.2.1, 4096 * v.2.2]

/-- The 65,536 bytes of a snapshot: 8,192 rows of four s16. -/
def RxFrame.rows (f : RxFrame) (p point sail : Nat) : List Byte :=
  (List.range 8192).flatMap (fun r => (f.row p point sail r).flatMap (fun v => intBytes 2 (clampInt (-32768) 32767 (roundRat v))))

end Sys2Proof.Machine
end

