-- ==== Sys2Proof/Machine/Transmit.lean ====
section
/-!
DEFINITION. Sys2Proof/Machine/Transmit.lean: what the stages of the transmit chain make of a frame, from the encoder to the DAC codes
(R277 to R290 of spec/08).
-/
namespace Sys2Proof.Machine

/-! ### Encoder and matcher (R280 to R283, R303, R305) -/

/-- Error injection inverts a coded bit of the frame: the count of coded bits reaches the period there (R305). -/
def TxFrame.inverted (f : TxFrame) (i : Nat) : Bool := f.period ≠ 0 && (f.count + i + 1) % f.period = 0

/-- The coded bits of a frame: its codewords in order, each of 8,192 frame bits, with the injected errors (R280, R303, R305). -/
def TxFrame.coded (f : TxFrame) : List Bool :=
  ((chunks (modeCodewords f.mode) 8192 (bytesBits f.bytes)).flatMap facetEncode).mapIdx (fun i b => b != f.inverted i)

/-- A real dimension of data symbol `n`: the value of the matcher's block in units of s_m = 1 ÷ √(2 E_m) (R281 to R283). -/
def TxFrame.dim (f : TxFrame) (n d : Nat) : Rat :=
  let r := matcherRow f.mode
  let bits := (f.coded.drop (n / r.symbols * r.coded)).take r.coded
  modeScale f.mode * ((matcherBlock f.mode bits).getD (4 * (n % r.symbols) + d) 0 : Int)

/-! ### Known symbols (R284) -/

/-- The index of a pilot slot among the pilots of its sail. -/
def pilotIndex (sail slot : Nat) : Nat := (slot - 32 * (sail % 2)) / 64 - 64

/-- A real dimension of a known slot: (1 − 2b) ÷ √2, where b is bit 4p + d of the training block or of the sail's pilots. -/
def knownDim (m sail slot d : Nat) : Rat :=
  let b := if slot < 64 then (trainingBits m).getD (4 * slot + d) false
    else (pilotBits sail (pilotIndex sail slot + 1)).getD (4 * pilotIndex sail slot + d) false
  sqrtRat (1 / 2) * (knownValue b : Rat)

/-- The symbol of a polarisation in a slot of a sail. -/
def TxFrame.symbol (f : TxFrame) (y : Bool) (sail slot : Nat) : Cpx :=
  let d := if y then 2 else 0
  if isKnown sail slot then (knownDim f.mode sail slot d, knownDim f.mode sail slot (d + 1))
  else (f.dim (dataIndex f.mode sail slot) d, f.dim (dataIndex f.mode sail slot) (d + 1))

/-! ### Shaping, pre-emphasis and pre-distortion (R286 to R289) -/

/-- The frame of a tick among frames. -/
def frameAt (fs : List TxFrame) (n : Int) : Option TxFrame := fs.find? (fun f => decide ((f.tick : Int) = n))

/-- The frame that the direction left service with: it is out until the boundary of tick `n` (R210). -/
def TxFrame.cutAt (n : Nat) (f : TxFrame) : TxFrame := if n ≤ f.tick + 2 && f.cut.isNone then { f with cut := some n } else f

/-- The symbols of a sail slot around the frame of tick `n`, by slot from its slot 0. -/
def bandSymbol (fs : List TxFrame) (n : Nat) (y : Bool) (band : Nat) (slot : Int) : Cpx :=
  match frameAt fs (n + slot / 21600) with
  | some f => if bandUsed f.mode band then f.symbol y (band - modeFirstSlot f.mode) (slot % 21600).toNat else (0, 0)
  | none => (0, 0)

/-- The gain of a root-raised-cosine filter of roll-off 0.02 at a bin of a sail, whose centre is bin 127: a sail of 250 bins (R286). It is
the cosine of (2k − 245) × 9° at k bins from the centre: of 9°, 27°, 45°, 63° and 81°, by half angles from those of 18° and 54°. -/
def rrcGain (bin : Nat) : Rat :=
  let c18 := sqrtRat ((5 + sqrtRat 5) / 8)
  let c54 := sqrtRat ((5 - sqrtRat 5) / 8)
  match ((bin : Int) - 127).natAbs with
  | 123 => sqrtRat ((1 + c18) / 2)
  | 124 => sqrtRat ((1 + c54) / 2)
  | 125 => sqrtRat (1 / 2)
  | 126 => sqrtRat ((1 - c54) / 2)
  | 127 => sqrtRat ((1 - c18) / 2)
  | k => if k < 123 then 1 else 0

/-- A bin of the spectrum of frame `f`: each sail shaped in its slot, times its factor of the pre-emphasis table; idle slots and guard
bins are 0 (R286, R287). -/
def TxFrame.spectrum (f : TxFrame) (fs : List TxFrame) (p : Nat) (y : Bool) (block : Int) (e : Nat) : Cpx :=
  let band := e / 256
  let bin := e % 256
  if !binUsed f.mode e then (0, 0)
  else
    let k := binFactors (5 + p) f.emphasis band bin
    cMul (if y then k.2 else k.1) (cScale (rrcGain bin) (Config.spread (bandSymbol fs f.tick y band) block bin))

/-- The frequency of a bin in kHz from the middle of the band: 67.5 MHz apart about the centre of its slot (R286). -/
def binKHz (e : Nat) : Int := 1000 * slotCentreMHz (e / 256) + ((e % 256 : Nat) - 127 : Int) * 67500

/-- The tones of a transform block of frame `f`: each sail slot about its centre. -/
def TxFrame.tones (f : TxFrame) (fs : List TxFrame) (p : Nat) (y : Bool) (block : Int) : List (Int × Cpx) :=
  (List.range 5120).map (fun e => (binKHz e, f.spectrum fs p y block e))

/-- A sample of a channel in LSB before quantisation, under the frame's scale. -/
def TxFrame.sample (f : TxFrame) (fs : List TxFrame) (p c : Nat) (n : Int) : Rat :=
  let v := Config.synthesise (f.tones fs p (decide (2 ≤ c))) n
  f.scales.getD c 0 * (if c % 2 = 0 then v.1 else v.2)

/-- A pre-distortion entry of a channel in LSB (R288). -/
def distortionAt (p : Nat) (t : Tab Byte) (c index : Nat) : Rat :=
  (fieldInt (tableRead (3 + p) t (c * 65536 + 2 * index) 2) 0 2 : Rat) / 256

/-- A sample past the pre-distortion lookup (R288). -/
def TxFrame.distorted (f : TxFrame) (fs : List TxFrame) (p c : Nat) (n : Int) : Rat :=
  let x := f.sample fs p c
  x n + distortionAt p f.distortion c (predistIndex (x (n - 1)) (x n) (x (n + 1)))

/-! ### Skew and DAC level (R290) -/

/-- A sample past the skew correction. -/
def TxFrame.level (f : TxFrame) (fs : List TxFrame) (p c n : Nat) : Rat :=
  Config.delay (f.skew.getD c 0) (f.distorted fs p c) n

/-- The nearest code, before it is clipped. -/
def TxFrame.nearest (f : TxFrame) (fs : List TxFrame) (p c n : Nat) : Int := roundRat (f.level fs p c n)

/-- The code that the DAC of a channel takes as sample `n` of a frame. -/
def TxFrame.code (f : TxFrame) (fs : List TxFrame) (p c n : Nat) : Byte := BitVec.ofInt 8 (clipCode (f.nearest fs p c n))

/-- The samples of a frame that are clipped. -/
def TxFrame.clipped (f : TxFrame) (fs : List TxFrame) (p c : Nat) : Nat :=
  (List.range 442368).countP (fun n => decide (f.nearest fs p c n ≠ clipCode (f.nearest fs p c n)))

/-- The mean square of a channel over a frame. -/
def TxFrame.meanSquare (f : TxFrame) (fs : List TxFrame) (p c : Nat) : Rat :=
  ((List.range 442368).map (fun n => f.level fs p c n ^ 2)).sum / 442368

/-- The scale that brings a channel whose frame before was `f` to an RMS of so many 1/16 LSB; none: that frame was at zero. -/
def TxFrame.nextScale (f : TxFrame) (fs : List TxFrame) (p c rms : Nat) : Option Rat :=
  let v := f.meanSquare fs p c
  if v = 0 then none else some (f.scales.getD c 0 * (rms : Rat) / 16 / sqrtRat v)

/-- The code at the DAC of a channel so many samples after the boundary of tick 0: frame n leaves 324 clocks after the boundary of tick
n + 1 (R278); 0 while no frame is sent, and from the boundary at which the direction left service (R210). -/
def dacCode (fs : List TxFrame) (p c at' : Nat) : Byte :=
  let t : Int := (at' : Int) - 324 * 256
  match frameAt fs (t / 442368 - 1) with
  | some f => if f.cut.any (fun n => decide (n * 442368 ≤ at')) then 0 else f.code fs p c (t % 442368).toNat
  | none => 0

end Sys2Proof.Machine
end

