-- ==== Sys2Proof/Machine/Conv.lean ====
section
/-!
DEFINITION. Sys2Proof/Machine/Conv.lean: trims, cell records, rotation steps, diagnostics and captures (spec/06).
-/
namespace Sys2Proof.Machine

/-! ### Access -/

/-- The converters of a line port. -/
def State.conv (s : State) (p : Nat) : Conv := Tab.get {} s.convs p

/-- Replaces the converters of a line port. -/
def State.setConv (s : State) (p : Nat) (x : Conv) : State := { s with convs := Tab.put {} s.convs p x }

/-- The transmit side of a line port. -/
def State.tx (s : State) (p : Nat) : Tx := Tab.get {} s.txs p

/-- Replaces the transmit side of a line port. -/
def State.setTx (s : State) (p : Nat) (x : Tx) : State := { s with txs := Tab.put {} s.txs p x }

/-- A core before calibration: the last slice, or the last unary group, is the spare (R188, R190). -/
def coreReset (c : Nat) : Core := { spare := some (if c < 8 then 48 else 7) }

/-- A core of a line port. -/
def State.core (s : State) (p c : Nat) : Core := Tab.get (coreReset c) (s.conv p).cores c

/-- Replaces a core. -/
def State.setCore (s : State) (p c : Nat) (x : Core) : State :=
  s.setConv p { s.conv p with cores := Tab.put (coreReset c) (s.conv p).cores c x }

/-- The key of a trim of an element; trims are numbered 0 and 1 for selections and 2 to 5 for fine trims in the order
of Table 2 (06). -/
def trimKey (core el trim : Nat) : Nat := (core * 64 + el) * 8 + trim

/-- The key of a learned delta: trim and temperature point 0 to 4 (R194). -/
def elementKey (core el trim point : Nat) : Nat := trimKey core el trim * 8 + point

/-- The die site of a core's converter, 0 to 5 in Table 4 (06), offset by 6 for `line1` (R196). -/
def coreSite (p c : Nat) : Nat := 6 * p + (if c < 8 then c / 2 else 4 + (c - 8) / 2)

/-- The site temperature of a core in 1/16 degree C. -/
def siteTemp (s : State) (p c : Nat) : Int := s.attr .hkSiteC (coreSite p c)

/-- The channel a core serves, 0 XI to 3 YQ. -/
def coreChannel (c : Nat) : Nat := if c < 8 then c / 2 else c - 8

/-- Raises a converter event naming the core's channel and direction (R224). -/
def convEvent (p c code : Nat) (s : State) : State :=
  raise code p (coreChannel c) [(24, 1, b01 (decide (8 ≤ c)))] s

/-! ### Elements and their trims (R189 to R193) -/

/-- The elements a core rotates: 49 slices, or the 8 unary groups (R200, R205). -/
def rotating (c : Nat) : Nat := if c < 8 then 49 else 8

/-- The places of a core's active elements in order: the phases of an ADC core, the thermometer bits of a DAC core. -/
def Core.places (k : Core) (c : Nat) : List Nat :=
  if k.holders.isEmpty then List.range (rotating c - 1) else k.holders

/-- The unit cells of a DAC group that are selected, and those it has (R190): 16 of 18 in a unary group, the weight of one more in a
binary group, groups 8 to 11 with weights 8, 4, 2 and 1. -/
def groupWeight (g : Nat) : Nat := if g < 8 then 16 else 2 ^ (11 - g)
def groupUnits (g : Nat) : Nat := if g < 8 then 18 else groupWeight g + 1

/-- The sets of units that a group can leave out, in order: a pair in a unary group, one unit in a binary group. -/
def unitsOut (g : Nat) : List (List Nat) :=
  if g < 8 then (List.range 18).flatMap (fun i => (List.range' (i + 1) (17 - i)).map (fun j => [i, j]))
  else (List.range (groupUnits g)).map (fun i => [i])

/-- The units of a group that its selection switches into the output current. -/
def selectedUnits (g selection : Nat) : List Nat :=
  (List.range (groupUnits g)).filter (fun u => !((unitsOut g).getD selection []).contains u)

/-- The groups of a DAC core that a 7-bit code, counted from 0 to 127, turns on: its upper three bits as a thermometer over the active
unary groups, its lower four bits on the binary groups (R190). -/
def dacGroups (k : Core) (c code : Nat) : List Nat :=
  (k.places c).take (code / 16 % 8) ++ (List.range 4).filterMap (fun b => if bitOf code b then some (11 - b) else none)

/-- The output current of a DAC core for a code, in LSB: the selected units of every group that is on. -/
def dacCurrent (s : State) (p c code : Nat) : Nat :=
  ((dacGroups (s.core p c) c code).map (fun g =>
    (selectedUnits g (Tab.get 0 (s.conv p).trims (trimKey c g 0)).toNat).length)).sum

/-- The selection or range of a trim in its steps (Table 2); none: the element has no such trim. -/
def trimRange (c el trim : Nat) : Option (Int × Int) :=
  if c < 8 then
    match trim with
    | 0 => some (0, 3) | 1 => some (0, 2) | 2 => some (-32, 31) | 3 => some (-64, 63) | 4 => some (-128, 127)
    | 5 => some (-64, 63) | _ => none
  else
    match trim with
    | 0 => some (0, (unitsOut el).length - 1) | 2 => some (-32, 31) | 3 => some (-16, 15) | _ => none

/-- A trim held within its range. -/
def trimClamp (key : Nat) (v : Int) : Int :=
  match trimRange (key / 512) (key / 8 % 64) (key % 8) with | some r => clampInt r.1 r.2 v | none => 0

/-- The trims of an element in the order in which calibration corrects it (R191): selections, analogue fine trims, and last the digital
residual. -/
def trimOrder (c : Nat) : List Nat := if c < 8 then [0, 1, 2, 3, 4, 5] else [0, 2, 3]

/-- The settings or range of a cell-level parameter (Table 3, row by row); none: the core has no such row. -/
def paramRange (c row : Nat) : Option (Int × Int) :=
  if c < 8 then
    match row with | 0 => some (0, 7) | 1 => some (-20, 19) | 2 => some (-128, 127) | 3 => some (-10, 20) | _ => none
  else match row with | 0 => some (0, 63) | 1 => some (0, 15) | 2 => some (-10, 20) | _ => none

/-- An error that trims from `lo` to `hi` can bring within a limit. -/
def reaches (err lo hi limit : Int) : Bool := decide (-limit ≤ err + hi) && decide (err + lo ≤ limit)

/-- Errors within 2 LSB, 1 % and 1 ps (R204). -/
def withinLimits (offset gain time : Int) : Bool :=
  decide (offset.natAbs ≤ 512) && decide (gain.natAbs ≤ 100) && decide (time.natAbs ≤ 1000)

/-- A selection and fine trims within Table 2 bring an element within the limits of R204. -/
def selectionFits (c el : Nat) (e : ElementError) : Bool :=
  if c < 8 then
    decide (e.first < 4) && decide (e.second < 3) &&
      reaches e.offset (-576) 559 512 && reaches e.gain (-128) 126 100 && reaches e.time (-3200) 3175 1000
  else
    decide (e.first < (unitsOut el).length) &&
      reaches e.offset 0 0 512 && reaches e.gain (-32) 31 100 && reaches e.time (-800) 750 1000

/-- An element can be trimmed within the limits under some selection that was measured (R204). -/
def trimmable (c el : Nat) (l : List ElementError) : Bool := l.any (selectionFits c el)

/-! ### Interpolation -//-! ### Interpolation -/

/-- The temperature of a point in 1/16 degree C: -10, 20, 50, 80 and 110 (R194). -/
def pointTemp (k : Nat) : Int := -160 + 480 * (k : Int)

/-- The point nearest a temperature; half-way takes the hotter (R195), also at 5 degrees C, which R195 does not name (DESIGN CHOICE, log
entry 193). -/
def nearestPoint (t : Int) : Nat := (clampInt 0 4 ((t + 160 + 240) / 480)).toNat

/-- Factory value plus learned delta at a point. -/
def pointValue (s : State) (p key k : Nat) : Int :=
  Tab.get 0 s.factoryTrims (p * 2 ^ 20 + key * 8 + k) + Tab.get 0 (s.conv p).deltas (key * 8 + k)

/-- The target of a trim at a temperature (R195), within its range (R192): selections from the nearer point, fine trims interpolated and
rounded, a half-way value away from zero. -/
def trimTarget (s : State) (p key : Nat) (t : Int) : Int :=
  trimClamp key (
    if key % 8 < 2 then pointValue s p key (nearestPoint t)
    else if t ≤ -160 then pointValue s p key 0
    else if 1760 ≤ t then pointValue s p key 4
    else
      let k := ((t + 160) / 480).toNat
      let f := (t + 160) % 480
      roundDiv (pointValue s p key k * (480 - f) + pointValue s p key (k + 1) * f) 480)

/-- Every trim key with a factory value or a learned delta on a port; any other target is 0. -/
def trimKeys (s : State) (p : Nat) : List Nat :=
  nsUnion ((s.conv p).deltas.foldl (fun l e => nsIns l (e.1 / 8)) [])
    ((s.factoryTrims.filter (fun e => e.1 / 2 ^ 20 = p)).map (fun e => e.1 % 2 ^ 20 / 8))

/-- TRIM_INTERPOLATION (R195): recomputes every target of a port from its site temperature. -/
def execTrimInterpolation (port : Fin 2) (s : State) : Host.Outcome State Fault Refusal :=
  let x := s.conv port
  let keys := nsUnion (trimKeys s port) (x.targets.map (·.1))
  .next (s.setConv port { x with targets := keys.foldl (fun t k =>
    Tab.put 0 t k (trimTarget s port k (siteTemp s port (k / 512)))) x.targets })

/-- At a tick boundary every fine trim moves by at most one step towards its target; a selection moves only where the
element is the spare (R195). -/
def trimStep (p : Nat) (s : State) : State :=
  let x := s.conv p
  let keys := nsUnion (x.targets.map (·.1)) (x.trims.map (·.1))
  s.setConv p { x with trims := keys.foldl (fun t k =>
    let now := Tab.get 0 x.trims k
    let goal := Tab.get 0 x.targets k
    if k % 8 < 2 then
      (if (s.core p (k / 512)).spare = some (k / 8 % 64) then Tab.put 0 t k goal else t)
    else Tab.put 0 t k (now + clampInt (-1) 1 (goal - now))) x.trims }

/-! ### Cell records -/

/-- The learned deltas of one core. -/
def coreDeltas (x : Conv) (c : Nat) : Tab Int := x.deltas.filter (fun e => e.1 / 4096 = c)

/-- The learned deltas with those of one core replaced. -/
def replaceDeltas (x : Conv) (c : Nat) (new : Tab Int) : Tab Int :=
  new.foldl (fun t e => Tab.put 0 t e.1 e.2) (x.deltas.filter (fun e => e.1 / 4096 ≠ c))

/-- A core's record in NVM (Table 5); none: erased. -/
def State.record (s : State) (p c : Nat) : Option (List Byte) :=
  match Tab.get [] s.cellRecords (12 * p + c) with | [] => none | b => some b

/-- The elements that a record holds (R197). -/
def coreElements (c : Nat) : Nat := if c < 8 then 49 else 12

/-- The bytes of a record: 2,028 for an ADC core, 548 for a DAC core (R197). -/
def recordLength (c : Nat) : Nat := 64 + coreElements c * 40 + 4

/-- Where a trim stands within the 8 bytes of a point: offset and bytes. The spec lays out the 8 bytes no further: DESIGN CHOICE, log
entry 134. -/
def trimPlace (c trim : Nat) : Nat × Nat :=
  if c < 8 then
    match trim with | 0 => (0, 1) | 1 => (1, 1) | 2 => (2, 1) | 3 => (3, 1) | 4 => (4, 2) | _ => (6, 1)
  else match trim with | 0 => (0, 2) | 2 => (2, 1) | _ => (3, 1)

/-- The learned deltas of an element at one point, as 8 bytes. -/
def pointBytes (x : Conv) (c el point : Nat) : List Byte :=
  (trimOrder c).foldl (fun b t => overlay b (trimPlace c t).1
    (intBytes (trimPlace c t).2 (Tab.get 0 x.deltas (elementKey c el t point)))) (List.replicate 8 0)

/-- The cell-level parameters of a core: a s16 for each row of Table 3 (DESIGN CHOICE, log entry 134). -/
def cellBytes (x : Conv) (c : Nat) : List Byte :=
  padTo 28 ((List.range 4).flatMap (fun row => intBytes 2 (Tab.get 0 x.params (c * 8 + row))))

/-- A record as Table 5 lays it out. -/
def recordBytes (s : State) (p c seq : Nat) : List Byte :=
  let x := s.conv p
  let k := s.core p c
  withCrc (asciiBytes "ZCAL" ++ leBytes 1 1 ++ leBytes 1 c ++ leBytes 1 p ++ leBytes 1 0 ++ leBytes 8 (s.attrN .identityDieId)
    ++ leBytes 4 (s.attrN .lineEpoch p) ++ leBytes 4 seq ++ intBytes 2 k.stamp ++ leBytes 2 (recordLength c)
    ++ leBytes 8 (maskOf k.retired) ++ cellBytes x c
    ++ (List.range (coreElements c)).flatMap (fun el => (List.range 5).flatMap (fun pt => pointBytes x c el pt)))

/-- The fields of a record. -/
def recordDie (b : List Byte) : Nat := fieldAt b 8 8
def recordEpoch (b : List Byte) : Nat := fieldAt b 16 4
def recordSeq (b : List Byte) : Nat := fieldAt b 20 4
def recordStamp (b : List Byte) : Int := fieldInt b 24 2
def recordRetired (b : List Byte) : List Nat := bitsBelow 64 (fieldAt b 28 8)

/-- The learned deltas that a record of core `c` holds. -/
def recordDeltas (b : List Byte) (c : Nat) : Tab Int :=
  (List.range (coreElements c)).foldl (fun t el => (List.range 5).foldl (fun t pt => (trimOrder c).foldl (fun t tr =>
    Tab.put 0 t (elementKey c el tr pt) (fieldInt b (64 + 40 * el + 8 * pt + (trimPlace c tr).1) (trimPlace c tr).2)) t) t) []

/-- The cell-level parameters that a record of core `c` holds. -/
def recordParams (b : List Byte) (c : Nat) : Tab Int :=
  (List.range 4).foldl (fun t row => Tab.put 0 t (c * 8 + row) (fieldInt b (36 + 2 * row) 2)) []

/-- Step 1 of R199: check word, magic, format and length hold. -/
def recordGood (b : List Byte) (c : Nat) : Bool :=
  b.length = recordLength c && fieldAt b (b.length - 4) 4 = crc32c (b.take (b.length - 4)) &&
    b.take 4 = asciiBytes "ZCAL" && fieldAt b 4 1 = 1 && fieldAt b 26 2 = recordLength c

/-- Writes a core's record with the next sequence number (R57, R197, R198). -/
def writeRecord (p c : Nat) (s : State) : State :=
  let r := recordBytes s p c (match s.record p c with | some b => recordSeq b + 1 | none => 1)
  { (s.setCore p c { s.core p c with lastWrite := s.tick.toNat }) with
      cellRecords := Tab.put [] s.cellRecords (12 * p + c) r }

/-- A learned value of a core has moved by more than one step since its last record (R198). -/
def movedEnough (s : State) (p c : Nat) : Bool :=
  let old := match s.record p c with | some r => recordDeltas r c | none => []
  let now := coreDeltas (s.conv p) c
  (nsUnion (old.map (·.1)) (now.map (·.1))).any (fun k =>
    decide (1 < (Tab.get 0 now k - Tab.get 0 old k).natAbs))

/-- CELL_RECORD_WRITE (R198): no sooner than 6 h after the last write. -/
def execCellRecordWrite (port : Fin 2) (core : Fin 12) (s : State) : Host.Outcome State Fault Refusal :=
  .next (if s.boot.service = .firmware && movedEnough s port core &&
      decide ((s.core port core).lastWrite + sTicks 21600 ≤ s.tick.toNat)
    then writeRecord port core s else s)

/-- The four checks of R199 in order: 1 to 4 for the step that fails, 0 for a record that passes. -/
def recordCheck (s : State) (p c : Nat) : Nat :=
  match s.record p c with
  | none => 1
  | some r =>
    if !recordGood r c then 1
    else if recordDie r ≠ s.attrN .identityDieId then 2
    else if recordEpoch r ≠ s.attrN .lineEpoch p then 3
    else if 240 < (recordStamp r - siteTemp s p c).natAbs then 4
    else 0

/-- Loads and checks one core's record (R199): a record that passes puts its values in use; any other leaves every
learned delta at 0 and the core without valid values. -/
def loadRecord (p c : Nat) (s : State) : State :=
  let x := s.conv p
  match recordCheck s p c, s.record p c with
  | 0, some r =>
    (s.setConv p { x with
      deltas := replaceDeltas x c (recordDeltas r c)
      params := (recordParams r c).foldl (fun t e => Tab.put 0 t e.1 e.2) (x.params.filter (fun e => e.1 / 8 ≠ c)) }).setCore p c
      { s.core p c with retired := recordRetired r, stamp := recordStamp r, valid := true }
  | n, r =>
    let s := (s.setConv p { x with deltas := replaceDeltas x c [] }).setCore p c { s.core p c with valid := false }
    if n = 1 && r.isSome then convEvent p c 0x0604 (s.bump .convRecordsReplaced p) else s

/-- Loads the records of every core of a port. -/
def loadRecords (p : Nat) (s : State) : State := (List.range 12).foldl (fun s c => loadRecord p c s) s

/-! ### Capture -/

/-- A bank of the capture unit. -/
def Capture.bank (k : Capture) (b : Nat) : Option CapBank := if b = 0 then k.bank0 else k.bank1

/-- Replaces a bank. -/
def Capture.setBank (k : Capture) (b : Nat) (v : Option CapBank) : Capture :=
  if b = 0 then { k with bank0 := v } else { k with bank1 := v }

/-- Replaces a port's capture unit and brings `capture.bank_full` up to date. -/
def setCap (p : Nat) (k : Capture) (s : State) : State :=
  (s.setConv p { s.conv p with cap := k }).setAttr .convCaptureBankFull p 0 (b01 k.bank0.isSome + 2 * b01 k.bank1.isSome)

/-- A trigger overruns (R218). -/
def capOverrun (p : Nat) (s : State) : State :=
  let tx := match (s.conv p).cap.armed with | some c => c.point = 2 | none => false
  raise 0x0607 p noIndex [(24, 1, b01 tx)] (s.bump .convCaptureOverruns p)

/-- A trigger arrives at an armed unit: 0 starts at the next boundary, 1 queued, 2 overrun (R217, R218). -/
def capTrigger (p : Nat) (s : State) : Nat × State :=
  let k := (s.conv p).cap
  if k.bank0.isSome && k.bank1.isSome then (2, capOverrun p s)
  else if k.running.isSome || k.triggered then
    if k.queued then (2, capOverrun p s) else (1, setCap p { k with queued := true } s)
  else (0, setCap p { k with triggered := true } s)

/-- An event of the port that triggers captures armed for it (R217). -/
def capNotify (p trig : Nat) (s : State) : State :=
  match (s.conv p).cap.armed with
  | some c => if c.trigger = trig then (capTrigger p s).2 else s
  | none => s

/-- Counts a swap or a gain step in the running capture (R219). -/
def capCount (p : Nat) (isSwap : Bool) (s : State) : State :=
  let k := (s.conv p).cap
  match k.running with
  | some r =>
    let r := if isSwap then { r with swaps := r.swaps + 1 } else { r with gains := r.gains + 1 }
    setCap p { k with running := some r } s
  | none => s

/-- A bank stamped on another die, or in an epoch of the port that has passed (R118). -/
def bankStale (s : State) (p : Nat) (b : CapBank) : Bool :=
  b.epoch ≠ s.attrN .lineEpoch p || b.dieId ≠ s.attrN .identityDieId

/-- The offset residuals of the ADC cores in use, by phase: each of the slice that holds the phase (R189, R191). -/
def residualsNow (s : State) (p : Nat) : List (List Int) :=
  (List.range 8).map (fun c => ((s.core p c).places c).map (fun e => Tab.get 0 (s.conv p).trims (trimKey c e 5)))

/-- A running capture notes what the converters apply to the samples of the present tick (R216). -/
def captureMark (p : Nat) (s : State) : State :=
  let x := s.conv p
  match x.cap.running with
  | some r =>
    if r.cfg.point = 1 then
      let marks := (s.tick.toNat, residualsNow s p) :: r.marks.filter (fun o => o.1 ≠ s.tick.toNat)
      s.setConv p { x with cap := { x.cap with running := some { r with marks := marks } } }
    else s
  | none => s

/-- A triggered capture starts at a tick boundary, in a free bank (R217, R218). -/
def captureStart (p : Nat) (s : State) : State :=
  let k := (s.conv p).cap
  match k.armed, k.running with
  | some cfg, none =>
    if k.triggered && s.clk.ticking then
      let b := k.nextBank.getD (if k.bank0.isNone then 0 else 1)
      let r : CapRun := {
        bank := b, firstTick := s.tick.toNat, dieId := s.attrN .identityDieId, epoch := s.attrN .lineEpoch p, cfg := cfg
        frames := (s.tx p).frames }
      captureMark p (setCap p { k with triggered := false, nextBank := none, running := some r } s)
    else s
  | _, _ => s

/-- CAPTURE_START (R217, R218). -/
def execCaptureStart (port : Fin 2) (s : State) : Host.Outcome State Fault Refusal := .next (captureStart port s)

/-- Channels of a channel mask. -/
def maskChannels (m : Nat) : Nat := (bitsBelow 4 m).length

/-- A 7-bit code as a sign-extended byte (R216). -/
def dacByte (code : Byte) : Byte := (code.setWidth 7).signExtend 8

/-- Sample `k` of a channel as the resampler takes it: with the offset residual of the slice that took it, both as they were in its tick
(R189, R191, R216). -/
def residualByte (r : CapRun) (channel k : Nat) (code : Byte) : Byte :=
  let m := r.marks.find? (fun m => decide (m.1 ≤ r.firstTick + k / 442368))
  residualCode code (sampleResidual (m.elim [] (·.2)) channel k)

/-- What a capture stores of sample `k` of a channel (R216): at points 0 and 1 from the codes that the ADCs converted, at point 2 what the
DACs took of the frames sent. -/
def captureByte (s : State) (p : Nat) (r : CapRun) (codes : List (List Byte)) (channel k : Nat) : Byte :=
  let code := (codes.getD channel []).getD k 0
  match r.cfg.point with
  | 0 => code
  | 1 => residualByte r channel k code
  | _ => dacByte (dacCode ((s.tx p).frames ++ r.frames) p channel (r.firstTick * 442368 + k))

/-- The bytes of a capture: channel by channel in mask order, one sample in 2^d, from sample 0 of its first tick on (R216, R217, R219). -/
def captureBytes (s : State) (p : Nat) (r : CapRun) (codes : List (List Byte)) : List Byte :=
  (bitsBelow 4 r.cfg.mask).flatMap (fun ch => (List.range r.cfg.length).map (fun i =>
    captureByte s p r codes ch (i * 2 ^ r.cfg.decim)))

/-- The place of the last sample of a capture. -/
def CapCfg.lastSample (cfg : CapCfg) : Nat := (cfg.length - 1) * 2 ^ cfg.decim

/-- A capture is whole: the tick of its last sample has begun, and of the ADCs every channel of its mask has shown that sample. -/
def captureWhole (s : State) (r : CapRun) (codes : List (List Byte)) : Bool :=
  decide (r.firstTick + r.cfg.lastSample / 442368 ≤ s.tick.toNat) &&
  (r.cfg.point = 2 || (bitsBelow 4 r.cfg.mask).all (fun ch => decide (r.cfg.lastSample < (codes.getD ch []).length)))

/-- CAPTURE_DONE (R218, R219): the codes of the channels XI, XQ, YI and YQ from sample 0 on, as the ADCs converted them; what the DACs took
the block knows itself. The bank holds the capture, `capture_done` is raised, and a queued trigger is taken up or overruns. A capture does not end
before its last sample. -/
def execCaptureDone (port : Fin 2) (codes : List (List Byte)) (s : State) : Host.Outcome State Fault Refusal :=
  let k := (s.conv port).cap
  .next (match k.running with
    | none => s
    | some r =>
      if !captureWhole s r codes then s else
      let size := r.cfg.length * maskChannels r.cfg.mask
      let seq := k.seq + 1
      let k := (k.setBank r.bank (some ⟨seq.toNat, r.firstTick, r.dieId, r.epoch, size, captureBytes s port r codes⟩))
      let s := setCap port { k with seq := seq, running := none } s
      let s := raise 0x0606 port noIndex
        [(24, 1, b01 (r.cfg.point = 2)), (25, 1, r.bank), (28, 4, seq.toNat), (32, 8, r.firstTick),
         (40, 4, r.swaps), (44, 4, r.gains)] s
      if k.queued then
        let k := { (s.conv port).cap with queued := false }
        if k.bank0.isSome && k.bank1.isSome then capOverrun port (setCap port k s)
        else setCap port { k with triggered := true, nextBank := some (1 - r.bank) } s
      else s)

/-- The unit is disarmed: a queued trigger goes, a running capture finishes and both banks stay (R217, R220). -/
def capDisarm (p : Nat) (s : State) : State :=
  setCap p { (s.conv p).cap with armed := none, queued := false, triggered := false, nextBank := none } s

/-- SY_CAPTURE_ARM (R220, Table 12 of 06). -/
def execSyCaptureArm (c : CmdRef) (s : State) : Host.Outcome State Fault Refusal :=
  .next (serve 0x0603 anyForm [(16, 5), (24, 4), (32, 8)]
    (fun s _ e =>
      let p := fieldAt e 16 1
      let mask := fieldAt e 18 1
      let len := fieldAt e 24 4
      let x := s.conv p
      [(decide (15 < mask), .eBadParam),
       (decide (1 < p) || decide (2 < fieldAt e 17 1) || mask % 16 = 0 || decide (3 < fieldAt e 19 1) ||
          decide (16 < fieldAt e 20 1) || decide (len < 4096) || decide (2097152 < len) || len % 4096 ≠ 0 ||
          decide (2097152 < len * maskChannels mask), .eRange),
       (x.cap.armed.isSome || gated s (8 + p) || x.fg.isSome || s.attr .convState p = 4 ||
          (fieldAt e 19 1 = 1 && decide (fieldAt e 32 8 ≤ s.tick.toNat)), .eState)])
    (fun s _ e =>
      let p := fieldAt e 16 1
      (setCap p { (s.conv p).cap with armed := some ⟨fieldAt e 17 1, fieldAt e 18 1, fieldAt e 19 1, fieldAt e 20 1,
          fieldAt e 24 4, fieldAt e 32 8⟩ } s, .final .ok []))
    c s)

/-- SY_CAPTURE_TRIGGER (R221). -/
def execSyCaptureTrigger (c : CmdRef) (s : State) : Host.Outcome State Fault Refusal :=
  .next (serve 0x0604 anyForm [(16, 1)]
    (fun s _ e =>
      let p := fieldAt e 16 1
      [(decide (1 < p), .eRange),
       (gated s (8 + p) || (match (s.conv p).cap.armed with | some a => a.trigger ≠ 0 | none => true), .eState)])
    (fun s _ e =>
      let r := capTrigger (fieldAt e 16 1) s
      (r.2, .final .ok [(16, 1, r.1)]))
    c s)

/-- SY_CAPTURE_READ (R219, R221, Table 13 of 06). -/
def execSyCaptureRead (c : CmdRef) (s : State) : Host.Outcome State Fault Refusal :=
  .next (serve 0x0605 anyForm [(16, 3), (20, 4), (24, 4), (28, 4), (32, 8)]
    (fun s sid e =>
      let p := fieldAt e 16 1
      let o := fieldAt e 20 4
      let n := fieldAt e 24 4
      let bank := (s.conv p).cap.bank (fieldAt e 17 1)
      [(decide (1 < p) || decide (1 < fieldAt e 17 1) || decide (1 < fieldAt e 18 1) || o % 64 ≠ 0 || n % 64 ≠ 0 ||
          decide (n < 64) || decide (65536 < n) || ((s.sess sid).onDie && decide (8192 < n)) ||
          areaBad s sid (fieldAt e 32 8) n ||
          (match bank with | some b => decide (b.size < o + n) | none => false), .eRange),
       (gated s (8 + p) || (match bank with | some b => b.seq ≠ fieldAt e 28 4 | none => true), .eState),
       ((match bank with | some b => bankStale s p b | none => false), .eStale)])
    (fun s c e =>
      let p := fieldAt e 16 1
      let k := (s.conv p).cap
      match k.bank (fieldAt e 17 1) with
      | none => (s, .final .eState [])
      | some b =>
        let s := writeArea s c.session (fieldAt e 32 8) (bytesAt b.data (fieldAt e 20 4) (fieldAt e 24 4))
        let s := if fieldAt e 18 1 = 1 then setCap p (k.setBank (fieldAt e 17 1) none) s else s
        (s, .final .ok [(16, 4, fieldAt e 24 4), (24, 8, b.firstTick)]))
    c s)

/-- SY_CAPTURE_DISARM (R220). -/
def execSyCaptureDisarm (c : CmdRef) (s : State) : Host.Outcome State Fault Refusal :=
  .next (serve 0x0606 anyForm [(16, 1)]
    (fun s _ e =>
      let p := fieldAt e 16 1
      [(decide (1 < p), .eRange), (gated s (8 + p), .eState)])
    (fun s _ e =>
      let p := fieldAt e 16 1
      (capDisarm p s, .final .ok []))
    c s)

/-! ### Rotation -/

/-- The ticks of steps 1 to 3 of a rotation step (Table 7 of 06, R205). -/
def shadowTicks (c : Nat) : Nat := if c < 8 then 196608 else 65536

/-- The active element whose last calibration is oldest: the target of the swap. -/
def Core.target (k : Core) (c : Nat) : Option Nat :=
  let act := (k.places c).filter (fun e => !k.retired.contains e)
  match act.find? (fun e => !k.ages.contains e) with
  | some e => some e
  | none => k.ages.find? (fun e => act.contains e)

/-- Rotation may run on the port: in service, `bg_enable` 1, no calibration, test mode or feathering, which begins with STOPPING
(R206, R356). -/
def rotationAllowed (s : State) (p : Nat) : Bool :=
  s.attr .convBgEnable p = 1 && decide (s.attr .featherState p < 3) && s.attr .convState p = 2 && (s.conv p).fg.isNone && s.attr .convTestMode p = 0

/-- Abandons every rotation step of a port without a swap (R206). -/
def abandonRotations (p : Nat) (s : State) : State :=
  (List.range 12).foldl (fun s c => s.setCore p c { s.core p c with rot := {} }) s

/-- Step 1 of a rotation step at the present boundary. -/
def rotBegin (s : State) (p c : Nat) : Rotation :=
  { phase := .shadow 0, start := s.tick.toNat, temp := siteTemp s p c }

/-- At thermal level 1 and above a core swaps once in 10 s (Table 12 of 02). -/
def rotationPaced (s : State) (k : Core) : Bool :=
  s.attr .thermalLevel = 0 || (match k.swapAt with | some t => decide (t + sTicks 10 ≤ s.tick.toNat) | none => true)

/-- The period of rotation steps in ms: at thermal level 1 or 2 at least 10,000 (R200). -/
def rotationPeriod (s : State) (p : Nat) : Nat :=
  if s.attr .thermalLevel = 0 then s.attrN .convBgPeriodMs p else max (s.attrN .convBgPeriodMs p) 10000

/-- The period of the core's latest rotation step is over (R200). -/
def rotationDue (s : State) (p : Nat) (k : Core) : Bool :=
  match k.begunAt with | some t => decide (t + msTicks (rotationPeriod s p) ≤ s.tick.toNat) | none => true

/-- Firmware staggers the ADC cores of a port evenly across the period: an eighth of it lies between two of their starts (R200). -/
def rotationStaggered (s : State) (p c : Nat) : Bool :=
  decide (8 ≤ c) || (List.range 8).all (fun d => d = c ||
    match (s.core p d).begunAt with
    | some t => decide (t + msTicks (rotationPeriod s p) / 8 ≤ s.tick.toNat)
    | none => true)

/-- A rotation step of the core may begin (R70, R200, R204, R206). -/
def rotationMay (s : State) (p c : Nat) : Bool :=
  let k := s.core p c
  rotationAllowed s p && rotationStaggered s p c && rotationPaced s k && rotationDue s p k && s.clk.ticking && k.spare.isSome && k.rot.phase = .idle

/-- ROTATION_STEP_START (R200, R201, R206): a written `bg_period_ms` is in force from here. -/
def execRotationStepStart (port : Fin 2) (core : Fin 12) (s : State) : Host.Outcome State Fault Refusal :=
  .next (if rotationMay s port core then
    (s.setCore port core { s.core port core with rot := rotBegin s port core, begunAt := some s.tick.toNat }).takeWritten
      .convBgPeriodMs port
  else s)

/-- SHADOW_PHASE_MOVE (step 2 of Table 7 of 06): every 4,096 ticks, up to phase 47. -/
def execShadowPhaseMove (port : Fin 2) (core : Fin 8) (s : State) : Host.Outcome State Fault Refusal :=
  let k := s.core port core
  .next (match k.rot.phase with
    | .shadow j =>
      if j < 47 && s.tick.toNat = k.rot.start + 4096 * (j + 1) then
        s.setCore port core { k with rot := { k.rot with phase := .shadow (j + 1) } }
      else s
    | _ => s)

/-- Retires an element that is not active (R204). -/
def retire (p c e : Nat) (s : State) : State :=
  let k := s.core p c
  convEvent p c 0x0601 (s.setCore p c { k with retired := nsIns k.retired e })

/-- A core is left without a spare (R204, R224). -/
def loseSpare (p c : Nat) (s : State) : State :=
  convEvent p c 0x0602 (s.setCore p c { s.core p c with spare := none, spareLost := true, rot := {} })

/-- SHADOWING_END (steps 3 and 4 of Table 7, R204, R205): the errors of the spare are known; a spare that cannot be
brought within the limits is retired. -/
def execShadowingEnd (port : Fin 2) (core : Fin 12) (m : SpareMeasure) (s : State) :
    Host.Outcome State Fault Refusal :=
  let k := s.core port core
  .next (match k.rot.phase, k.spare with
    | .shadow _, some e =>
      if s.tick.toNat = k.rot.start + shadowTicks core then
        if trimmable core e m.errors then
          s.setCore port core { k with rot := { k.rot with phase := .solve, shadowEnd := s.tick.toNat } }
        else loseSpare port core (retire port core e s)
      else s
    | _, _ => s)

/-- Firmware may do its background work now: it runs, is not paused, and its load is not above 85 % (R111, R139). -/
def fwBackground (s : State) : Bool := s.fwServing && decide (s.attr .firmwareLoadPct ≤ 85)

/-- Step 4 is delayed by more than 10 ms (R206). -/
def solveLate (s : State) (k : Core) : Bool := decide (k.rot.shadowEnd + msTicks 10 < s.tick.toNat)

/-- Sets trims of an element in the order of R191, each within Table 2; a number that names no trim of the element sets nothing. -/
def setElementTrims (p c e : Nat) (values : List (Nat × Int)) (s : State) : State :=
  (trimOrder c).foldl (fun s t =>
    match values.find? (fun v => v.1 = t) with
    | some v =>
      let x := s.conv p
      let key := trimKey c e t
      s.setConv p { x with trims := Tab.put 0 x.trims key (trimClamp key v.2), targets := Tab.put 0 x.targets key (trimClamp key v.2) }
    | none => s) s

/-- SPARE_TRIM_SOLVED (step 4 of Table 7): firmware sets the selections and fine trims of the spare, and the confirm
compare begins. A solve that comes more than 10 ms after shadowing begins the step again (R206). -/
def execSpareTrimSolved (port : Fin 2) (core : Fin 12) (t : TrimSet) (s : State) :
    Host.Outcome State Fault Refusal :=
  let k := s.core port core
  .next (match k.rot.phase, k.spare with
    | .solve, some e =>
      if !fwBackground s then s
      else if solveLate s k then s.setCore port core { k with rot := { k.rot with phase := .again } }
      else
        let s := setElementTrims port core e t.values s
        s.setCore port core { s.core port core with
          rot := { k.rot with phase := .confirm, confirmStart := s.tick.toNat } }
    | _, _ => s)

/-- ROTATION_SOLVE_TIMEOUT (R206): a solve delayed by more than 10 ms begins again at step 1. -/
def execRotationSolveTimeout (port : Fin 2) (core : Fin 12) (s : State) : Host.Outcome State Fault Refusal :=
  let k := s.core port core
  .next (if k.rot.phase = .solve && solveLate s k then
    s.setCore port core { k with rot := { k.rot with phase := .again } } else s)

/-- The phase of the target moves to the spare, and the target becomes the spare (step 6 of Table 7, R189). -/
def swapElements (k : Core) (c spare target : Nat) : Core :=
  { k with
    holders := (k.places c).map (fun e => if e = target then spare else e)
    ages := k.ages.filter (fun e => e ≠ spare) ++ [spare]
    spare := some target }

/-- Records the trims of an element as learned deltas at the point nearest the present temperature (R203). -/
def learn (p c e : Nat) (s : State) : State :=
  let x := s.conv p
  let pt := nearestPoint (siteTemp s p c)
  s.setConv p { x with deltas := ((trimOrder c).map (trimKey c e)).foldl (fun d k =>
    Tab.put 0 d (k * 8 + pt)
      (Tab.get 0 x.trims k - Tab.get 0 s.factoryTrims (p * 2 ^ 20 + k * 8 + pt))) x.deltas }

/-- CONFIRM_COMPARE_END (R203, R204): the swap is made within 0.25 LSB, 0.1 % and 50 fs; otherwise rejected and the step
begins again; a target that cannot be trimmed is replaced by a forced swap and retired. The boundary of the swap is the one that
follows (step 6 of Table 7). -/
def execConfirmCompareEnd (port : Fin 2) (core : Fin 12) (m : ConfirmMeasure) (s : State) :
    Host.Outcome State Fault Refusal :=
  let k := s.core port core
  .next (match k.rot.phase, k.spare, k.target core with
    | .confirm, some e, some a =>
      if decide (s.tick.toNat ≤ k.rot.confirmStart + 4095) || !rotationAllowed s port then s
      else if !trimmable core a m.target then
        let s := s.setCore port core { swapElements k core e a with rot := {}, swapAt := some (s.tick.toNat + 1) }
        let s := s.bump .convForcedSwaps port
        let s := loseSpare port core (retire port core a s)
        capNotify port 3 (capCount port true s)
      else if m.offset ≤ 64 && m.gain ≤ 10 && m.time ≤ 50 then
        let s := s.setCore port core { swapElements k core e a with rot := {}, stamp := siteTemp s port core, swapAt := some (s.tick.toNat + 1) }
        let s := learn port core e (s.bump .convSwaps port)
        capNotify port 3 (capCount port true s)
      else
        (s.setCore port core { k with rot := { k.rot with phase := .again } }).bump .convSwapRejects port
    | _, _, _ => s)

/-- At a tick boundary, steps that begin again do so at step 1 (R202, R203); where no rotation may run, a step in progress is
abandoned (R206). -/
def rotRestart (p : Nat) (s : State) : State :=
  if !rotationAllowed s p then abandonRotations p s
  else (List.range 12).foldl (fun s c =>
    let k := s.core p c
    if k.rot.phase = .again then
      s.setCore p c { k with rot := if k.spare.isSome then rotBegin s p c else {} }
    else s) s

/-- A rotation step is abandoned when its site temperature moves more than 2 degrees C during steps 1 to 5 (R202). -/
def rotTempCheck (p : Nat) (s : State) : State :=
  (List.range 12).foldl (fun s c =>
    let k := s.core p c
    if k.rot.phase ≠ .idle && k.rot.phase ≠ .again && decide (32 < (siteTemp s p c - k.rot.temp).natAbs) then
      s.setCore p c { k with rot := { k.rot with phase := .again } }
    else s) s

/-! ### Diagnostics -/

/-- SY_CONV_DIAG (R214, Table 11 of 06). -/
def execSyConvDiag (c : CmdRef) (s : State) : Host.Outcome State Fault Refusal :=
  .next (serve 0x0602 anyForm [(16, 3), (20, 4)]
    (fun s _ e =>
      let p := fieldAt e 16 1
      let n := fieldAt e 20 4
      [(decide (1 < p) || decide (3 < fieldAt e 17 1) || decide (4 < fieldAt e 18 1) || decide (n < 4096) ||
          decide (4194304 < n) || n % 4096 ≠ 0, .eRange),
       (s.attr .convTestMode p ≠ 1, .eState)])
    (fun s c e =>
      let p := fieldAt e 16 1
      let x := s.conv p
      (s.setConv p { x with
        diags := x.diags ++ [⟨c, fieldAt e 17 1, fieldAt e 18 1, fieldAt e 20 4, s.tick.toNat⟩]
        disconnected := nsIns x.disconnected (fieldAt e 17 1) }, .accept))
    c s)

/-- CONV_DIAG_DONE (R214): the final response of the oldest measurement. -/
def execConvDiagDone (port : Fin 2) (r : DiagResult) (s : State) : Host.Outcome State Fault Refusal :=
  let x := s.conv port
  .next (match x.diags with
    | [] => s
    | d :: t => finish d.cmd .ok [sfld 16 4 r.mean, sfld 20 1 r.minCode, sfld 21 1 r.maxCode, sfld 24 4 r.value,
        (28, 8, d.tick)] (s.setConv port { x with diags := t }))

/-! ### Foreground calibration -/

/-- SY_CONV_CALIBRATE (R212, Table 9 of 06). -/
def execSyConvCalibrate (c : CmdRef) (s : State) : Host.Outcome State Fault Refusal :=
  .next (serve 0x0601 anyForm [(16, 3)]
    (fun s _ e =>
      let p := fieldAt e 16 1
      let d := fieldAt e 18 1
      [(decide (3 < d), .eBadParam),
       (decide (1 < p) || decide (1 < fieldAt e 17 1) || d % 4 = 0, .eRange),
       (s.attr .convState p = 4 || s.attr .featherState p ≠ 0 || (s.conv p).fg.isSome || (s.conv p).cap.armed.isSome || gated s (8 + p), .eState)])
    (fun s c e =>
      let p := fieldAt e 16 1
      let j : FgJob := {
        full := fieldAt e 17 1 = 0, rx := bitOf (fieldAt e 18 1) 0, tx := bitOf (fieldAt e 18 1) 1
        cmd := some c, atBoot := false }
      (s.setConv p { s.conv p with fg := some j }, .accept))
    c s)

/-- Starts foreground calibration of both directions of a port by firmware (R207). -/
def fgRequest (p : Nat) (full atBoot : Bool) (s : State) : State :=
  s.setConv p { s.conv p with fg := some { full := full, rx := true, tx := true, cmd := none, atBoot := atBoot } }

/-- Judges one element that the calibration could not trim (R204): a spare is retired; an active one is retired and the
spare takes its place; without a spare for it, as for a binary group, it stays in service and `converter_degraded` is raised (DESIGN
CHOICE, log entry 194). -/
def fgElementFail (p c e : Nat) (s : State) : State :=
  let k := s.core p c
  match k.spare with
  | none => convEvent p c 0x0603 s
  | some sp =>
    if rotating c ≤ e then convEvent p c 0x0603 s
    else if sp = e then loseSpare p c (retire p c e s)
    else loseSpare p c (retire p c e (s.setCore p c (swapElements k c sp e)))

/-- The elements of a core that the full form found beyond every trim (R204). -/
def elementsFailed (r : CoreResult) : List Nat :=
  (r.measured.filter (fun m => decide (m.1 < coreElements r.core) && !trimmable r.core m.1 m.2)).map (·.1)

/-- The core fails its verification: an element stands outside the limits with the values in use (R207, R209). -/
def verifyFailed (r : CoreResult) : Bool := r.verify.any (fun v => !withinLimits v.2.1 v.2.2.1 v.2.2.2)

/-- A full calibration of a core tests its retired elements again: one that passes becomes the spare (R204). -/
def fgRecover (p : Nat) (r : CoreResult) (s : State) : State :=
  let k := s.core p r.core
  let back := k.retired.filter (fun e => !(elementsFailed r).contains e)
  let k := { k with retired := k.retired.filter (fun e => (elementsFailed r).contains e) }
  match k.spare, back with
  | none, e :: _ => s.setCore p r.core { k with spare := some e, spareLost := false }
  | _, _ => s.setCore p r.core k

/-- Every trim of one kind of a core stands at its target. -/
def setCoreTrim (p c : Nat) (s : State) (t : Nat) : State :=
  let x := s.conv p
  let keys := (nsUnion (trimKeys s p) (x.trims.map (·.1))).filter (fun k => k / 512 = c && k % 8 = t)
  let put := fun (m : Tab Int) k => Tab.put 0 m k (trimTarget s p k (siteTemp s p c))
  s.setConv p { x with trims := keys.foldl put x.trims, targets := keys.foldl put x.targets }

/-- Every trim of a core stands at its target: foreground calibration sets selections first, then the analogue fine trims, then the
residual (R191, R195, steps 3 to 6 of Table 8). -/
def setCoreTrims (p c : Nat) (s : State) : State := (trimOrder c).foldl (setCoreTrim p c) s

/-- The cell-level parameters that a calibration sets, each within Table 3 (R193, step 7 of Table 8). -/
def setParams (p c : Nat) (params : List (Nat × Int)) (s : State) : State :=
  let x := s.conv p
  s.setConv p { x with params := params.foldl (fun t v =>
    match paramRange c v.1 with | some r => Tab.put 0 t (c * 8 + v.1) (clampInt r.1 r.2 v.2) | none => t) x.params }

/-- Puts the results of one core in use (R208 step 9, R209). A core takes the full form in a full calibration, when its verify
failed, and when it has no valid record (R207). -/
def fgCore (p : Nat) (s : State) (r : CoreResult) : State :=
  let x := s.conv p
  let jobFull := match x.fg with | some j => j.full | none => false
  let full := jobFull || verifyFailed r || !(s.core p r.core).valid
  let deltas := (r.deltas.filter (fun d => (trimOrder r.core).contains d.2.1 && decide (d.1 < coreElements r.core))).foldl
    (fun t d => Tab.put 0 t (elementKey r.core d.1 d.2.1 (d.2.2.1 % 5)) d.2.2.2) []
  let s := if full then s.setConv p { x with deltas := replaceDeltas x r.core deltas } else s
  let s := setCoreTrims p r.core s
  let s := if full then setParams p r.core r.params s else s
  let before := (s.core p r.core).retired
  let s := if full then fgRecover p r s else s
  let fails := if full then
      (elementsFailed r).filter (fun e => !(s.core p r.core).retired.contains e)
    else []
  let s := fails.foldl (fun s e => fgElementFail p r.core e s) s
  let k := s.core p r.core
  let s := s.setCore p r.core { k with valid := true, stamp := siteTemp s p r.core }
  let x := s.conv p
  let s := match x.fg with
    | some j => s.setConv p { x with fg := some { j with
        coresFull := j.coresFull + b01 full, newlyRetired := j.newlyRetired + (nsDiff k.retired before).length } }
    | none => s
  if s.boot.service = Service.firmware then writeRecord p r.core s
  else s.setConv p { s.conv p with recordsOwed := nsIns (s.conv p).recordsOwed r.core }

/-- The results of every core of a direction: a core that nothing is shown of passed its verification. -/
def fgResults (transmit : Bool) (results : List CoreResult) : List CoreResult :=
  (if transmit then [8, 9, 10, 11] else List.range 8).map (fun c =>
    (results.find? (fun r => r.core = c)).getD { core := c })

/-- The length of so many ticks in microseconds, rounded up. -/
def ticksUs (n : Nat) : Nat := ceilDiv (n * 128) 100

/-- The bounds of Table 8 in ms after tick m: by which each step of the ADC and of the DAC sequence is over. -/
def adcSteps : List (Nat × Nat) := [(2, 2), (3, 27), (4, 62), (5, 92), (6, 152), (7, 177), (8, 197)]
def dacSteps : List (Nat × Nat) := [(2, 2), (3, 42), (4, 72), (5, 112), (6, 132)]

/-- The step that a sequence has reached after so many ticks: the last whose bound has passed. -/
def fgStep (steps : List (Nat × Nat)) (n : Nat) : Nat := steps.foldl (fun k x => if msTicks x.2 ≤ n then x.1 else k) 1

/-- The sequencer's steps at a tick boundary (Table 8): inputs and outputs switch inside in step 2. -/
def fgAdvance (p : Nat) (s : State) : State :=
  let x := s.conv p
  match x.fg with
  | some j =>
    match j.start with
    | some m =>
      let n := s.tick.toNat - m
      let rx := if j.rx && !j.rxDone then fgStep adcSteps n else j.rxStep
      let tx := if j.tx && !j.txDone then fgStep dacSteps n else j.txStep
      s.setConv p { x with
        fg := some { j with rxStep := rx, txStep := tx }
        rxInternal := x.rxInternal || (j.rx && !j.rxDone && decide (2 ≤ rx))
        txInternal := x.txInternal || (j.tx && !j.txDone && decide (2 ≤ tx)) }
    | none => s
  | none => s

/-- FOREGROUND_CAL_END (R208, R209, R210): one direction switches back to service and its values are confirmed; with the
last selected direction the calibration ends. -/
def execForegroundCalEnd (port : Fin 2) (transmit : Bool) (results : List CoreResult) (s : State) :
    Host.Outcome State Fault Refusal :=
  .next (match (s.conv port).fg with
    | none => s
    | some j =>
      match j.start with
      | none => s
      | some m =>
        if (if transmit then !j.tx || j.txDone else !j.rx || j.rxDone) then s
        else
          let s := (fgResults transmit results).foldl (fgCore port) s
          let us := ticksUs (s.tick.toNat - m)
          let x := s.conv port
          let j := x.fg.getD j
          let j := { j with
            rxDone := j.rxDone || !transmit, txDone := j.txDone || transmit
            rxStep := if transmit then j.rxStep else 9, txStep := if transmit then 6 else j.txStep, longestUs := max j.longestUs us }
          let up := !x.selftestFailed && s.attr .convTestMode port = 0
          let x := { x with
            fg := some j, rxIn := if transmit then x.rxIn else up, txIn := if transmit then up else x.txIn
            rxInternal := transmit && x.rxInternal, txInternal := !transmit && x.txInternal }
          let s := s.setConv port x
          if (j.rx && !j.rxDone) || (j.tx && !j.txDone) then s
          else
            let s := s.setConv port { s.conv port with fg := none }
            let s := s.setAttr .convState port 0 (if s.attr .convTestMode port = 1 then 3 else if up then 2 else 0)
            let s := (s.setAttr .convLastFgTick port 0 m).setAttr .convLastFgUs port 0 j.longestUs
            match j.cmd with
            | some c => finish c .ok [(16, 4, j.longestUs), (20, 2, j.newlyRetired), (22, 1, j.coresFull),
                (24, 8, m), tickFld s 32] s
            | none => s)

end Sys2Proof.Machine
end

