-- ==== Sys2Proof/Machine/Millrace.lean ====
section
/-!
DEFINITION. Sys2Proof/Machine/Millrace.lean: gain, acquisition, received frames, dispersion, the equaliser, quality
measures, the generation tables and snapshots (spec/07).
-/
namespace Sys2Proof.Machine

/-! ### Access -/

/-- The millrace of a line port. -/
def State.mr (s : State) (p : Nat) : Millrace := Tab.get {} s.millraces p

/-- Replaces the millrace of a line port. -/
def State.setMr (s : State) (p : Nat) (x : Millrace) : State := { s with millraces := Tab.put {} s.millraces p x }

/-- `rx_mode` of a port. -/
def rxMode (s : State) (p : Nat) : Nat := s.attrN .lineRxMode p

/-- The port is feathered (R223). -/
def feathered (s : State) (p : Nat) : Bool := s.attr .convState p = 4

/-- Foreground calibration holds the port. -/
def inCalibration (s : State) (p : Nat) : Bool := s.attr .convState p = 1

/-- A table of SY_COMMIT bits 1 to 6. -/
def State.table (s : State) (bit : Nat) : GenTable := Tab.get {} s.tables bit

/-- Puts written values that wait for the next acquisition of a port in force (Table 14 of 07). -/
def fireAcquisition (p : Nat) (s : State) : State :=
  s.written.foldl (fun s e =>
    let a := Attr.ofKey e.1
    if a.row.term = .nextAcquisition && e.1 = a.key p 0 then
      { (s.setAttr a p 0 e.2) with written := Tab.erase s.written e.1 }
    else s) s

/-- Every sail of the port's receive mode. -/
def rxSails (s : State) (p : Nat) : List Nat := List.range (modeSails (rxMode s p))

/-! ### Gain (R232 to R237) -/

/-- The gain record of a pair: X or Y. -/
def Millrace.pair (m : Millrace) (y : Bool) : GainPair := if y then m.y else m.x

/-- Replaces the gain record of a pair. -/
def Millrace.setPair (m : Millrace) (y : Bool) (g : GainPair) : Millrace := if y then { m with y := g } else { m with x := g }

/-- The attributes of a pair. -/
def gainAttr (y : Bool) : Attr := if y then .mrGainY else .mrGainX
def tiaIndexAttr (y : Bool) : Attr := if y then .mrTiaIndexY else .mrTiaIndexX
def tiaRegAttr (y : Bool) : Attr := if y then .mrTiaRegY else .mrTiaRegX

/-- A gain setting or the bulk setting changes at the present boundary: the blocks that hold the first samples taken from it on make no
tap update (R234, R246). The last four such boundaries are kept. -/
def noteChange (p : Nat) (s : State) : State :=
  let m := s.mr p
  s.setMr p { m with changes := (s.tick.toNat :: m.changes.filter (fun t => t ≠ s.tick.toNat)).take 4 }

/-- Sets a pair's setting; a change marks the blocks that make no tap update (R234) and counts in a running capture
(R219). -/
def setGain (p : Nat) (y : Bool) (v : Int) (s : State) : State :=
  if s.attr (gainAttr y) p = v then s
  else
    capCount p false (noteChange p (s.setAttr (gainAttr y) p 0 v))

/-- The control law of R233: the setting after a boundary and whether the pair keeps stepping, from setting, stepping and
error in 0.01 dB. -/
def gainLaw (setting : Int) (stepping : Bool) (err : Int) : Int × Bool :=
  let st := if err.natAbs ≤ 25 then false else stepping || decide (150 < err.natAbs)
  (if st then clampInt 0 30 (setting + (if err < 0 then 1 else -1)) else setting, st)

/-- A setting stands at the limit its error pushes against (R235). -/
def atLimit (setting err : Int) : Bool :=
  (setting = 30 && decide (err < -150)) || (setting = 0 && decide (150 < err))

/-- The TIA index can move in the needed direction within 0 to `tia_steps` − 1 (R235). -/
def tiaCanMove (s : State) (p : Nat) (y up : Bool) : Bool :=
  let i := s.attr (tiaIndexAttr y) p
  s.attr .mrTiaMode p = 1 && !opcFlagged s (s.attrN .mrTiaCs p) && (if up then decide (i + 1 ≤ s.attr .mrTiaSteps p - 1) else decide (0 < i))

/-- One pair at a tick boundary: the error over the tick that ends, the law, and the limit's run and event (R233 to
R235). Settings are frozen while the converters are out of service (R234) and during a TIA step (R236). -/
def gainBoundary (p : Nat) (y : Bool) (power : Int) (s : State) : State :=
  let g := (s.mr p).pair y
  let set := s.attr (gainAttr y) p
  let err := power - s.attr .mrGainTargetDbfs p
  let g := { g with error := err }
  if !(s.conv p).rxIn || g.tia.isSome then s.setMr p ((s.mr p).setPair y g)
  else
    let r := gainLaw set g.stepping err
    let lim := atLimit set err
    let quiet := lim && !g.limitRaised && !tiaCanMove s p y (decide (err < 0))
    let g := { g with
      stepping := r.2, limitRun := if lim then g.limitRun + 1 else 0, limitRaised := lim && (g.limitRaised || quiet) }
    let s := setGain p y r.1 (s.setMr p ((s.mr p).setPair y g))
    if quiet then raise 0x0705 p noIndex [(24, 1, b01 y)] s else s

/-- A coordinated TIA step is due for a pair (R235). -/
def tiaDue (s : State) (p : Nat) (y : Bool) : Bool :=
  let g := (s.mr p).pair y
  g.tia.isNone && decide (64 ≤ g.limitRun) && tiaCanMove s p y (decide (g.error < 0))

/-- Step 1 of Table 2: the index moves, its write goes out on the optics control port, stepping is suspended. -/
def tiaStart (p : Nat) (y : Bool) (s : State) : State :=
  if tiaDue s p y then
    let g := (s.mr p).pair y
    let up := decide (g.error < 0)
    let i := s.attr (tiaIndexAttr y) p + (if up then 1 else -1)
    let s := opcSend (s.attrN .mrTiaCs p) (opcByteFrame (s.attrN (tiaRegAttr y) p) i.toNat) 4 (s.setAttr (tiaIndexAttr y) p 0 i)
    s.setMr p ((s.mr p).setPair y { g with
      limitRun := 0, tia := some ⟨s.pins.opcUntil, up, s.attrN .mrTiaStepDb p⟩ })
  else s

/-- Step 3 of Table 2: the first boundary at or after `tia_settle_us` from the end of the write. -/
def tiaSettle (p : Nat) (y : Bool) (s : State) : State :=
  let g := (s.mr p).pair y
  match g.tia with
  | some t =>
    -- a port held by calibration, test mode or feathering keeps its setting frozen (R234)
    if !(s.conv p).rxIn then s.setMr p ((s.mr p).setPair y { g with tia := none })
    else if 320 * t.ends + 1000 * s.attrN .mrTiaSettleUs p ≤ 1280 * s.tick.toNat then
      let set := s.attr (gainAttr y) p
      let s := s.setMr p ((s.mr p).setPair y { g with tia := none })
      let s := setGain p y (clampInt 0 30 (if t.up then set - t.k else set + t.k)) s
      let s := s.bump .mrTiaStepsTaken p
      raise 0x0704 p noIndex [(24, 1, b01 y), (25, 1, s.attrN (tiaIndexAttr y) p)] s
    else s
  | none => s

/-- TIA_STEP_START (R235, R236). -/
def execTiaStepStart (port : Fin 2) (yPair : Bool) (s : State) : Host.Outcome State Fault Refusal :=
  .next (tiaStart port yPair s)

/-- TIA_STEP_SETTLE (R236). -/
def execTiaStepSettle (port : Fin 2) (yPair : Bool) (s : State) : Host.Outcome State Fault Refusal :=
  .next (tiaSettle port yPair s)

/-! ### Acquisition (R258 to R261) -/

/-- Enters an acquisition state; leaving state 8 raises `lock_lost` with the state left to (R261). -/
def mrGoto (p st : Nat) (s : State) : State :=
  let was := s.attr .mrState p
  let m := s.mr p
  let s := s.setMr p { m with
    start := s.tick.toNat, settled := 0, found := false, trained := 0, confirmed := 0, bad := 0
    regain := if st ≤ 1 then none else m.regain
    lockOwed := decide (1 < st) && m.lockOwed
    search := {} }
  let s := (s.setAttr .mrState p 0 st).setAttr .mrLock p 0 (b01 (st = 8))
  let s := if st = 8 then s else s.setAttr .mrLolRaw p 0 1
  if was = 8 && st ≠ 8 then raise 0x0702 p noIndex [(24, 1, st)] s else s

/-- State 0, with no restart asked for (Tables 7 and 9 of 07). -/
def mrIdle (p : Nat) (s : State) : State :=
  if s.attr .mrState p = 0 then s.setMr p { s.mr p with reacquire := none }
  else mrGoto p 0 (s.setMr p { s.mr p with reacquire := none })

/-- Starts acquisition at phase 1: both pairs at setting 15 (R232), the writes that wait for it in force; a restart by a
bound counts in `acq_restarts` (R259, R261). A TIA step in progress loses its compensating change (Table 9 of 07). -/
def acquire (p : Nat) (fine byBound : Bool) (s : State) : State :=
  let s := if byBound then s.bump .mrAcqRestarts p else s
  let s := rxFieldsReset p (fireAcquisition p s)
  let s := s.setTx p { s.tx p with announce := none }
  let s := setGain p true 15 (setGain p false 15 s)
  let s := s.setMr p { s.mr p with x := {}, y := {}, fineOnly := fine, fineNext := false, reacquire := none }
  mrGoto p 1 s

/-- Phase 2 begins: the candidates of R245, or the fixed setting. -/
def startSearch (p : Nat) (s : State) : State :=
  let s := mrGoto p 2 s
  let m := s.mr p
  let mode := rxMode s p
  let bulk := clampInt (-cdRange mode) (cdRange mode) (s.attr .mrCdBulkPsNm p)
  let put := fun (k : CdSearch) => s.setMr p { m with search := { k with since := s.tick.toNat } }
  if m.fineOnly then put { cands := fineAround mode bulk, fine := true }
  else if s.attr .mrCdMode p = 2 then
    -- no search runs: the phase ends as it begins
    mrGoto p 3 (s.setAttr .mrCdBulkPsNm p 0 (s.attr .mrCdSetPsNm p))
  else if s.attr .mrCdMode p = 1 then
    put { cands := coarseWindow mode (s.attr .mrCdSetPsNm p) (s.attrN .mrCdWindowPsNm p) }
  else put { cands := coarseFull mode }

/-- Of two scored candidates the better; a tie goes to the lower setting (R245). -/
def betterCandidate (old : Option (Int × Nat)) (v : Int) (score : Nat) : Int × Nat :=
  match old with
  | none => (v, score)
  | some (w, n) => if n < score || (n = score && decide (v < w)) then (v, score) else (w, n)

/-- A phase that has met its end condition gives way to the next, at a boundary (Table 7 of 07). Phase 4 ends by
ACQ_PHASE_COMPLETE alone. -/
def acqAdvance (p : Nat) (s : State) : State :=
  let m := s.mr p
  let later := decide (m.start < s.tick.toNat)
  match s.attrN .mrState p with
  | 1 => if later && m.x.error.natAbs ≤ 25 && m.y.error.natAbs ≤ 25 then startSearch p s else s
  | 3 => if 16 ≤ m.settled then mrGoto p 4 s else s
  | 5 => if m.found then mrGoto p 6 s else s
  | 6 => if 4 ≤ m.trained then mrGoto p 7 s else s
  | 7 =>
    if 8 ≤ m.confirmed then
      let s := mrGoto p 8 s
      s.setMr p { s.mr p with lockOwed := true, regain := none, locks := m.locks + 1, lockedAt := s.tick.toNat * 1728 }
    else s
  | _ => s

/-- The bound of a phase in ticks (Table 7 of 07; R259 after feathering). -/
def acqBound (mode st : Nat) (fineOnly : Bool) : Option Nat :=
  match st with
  | 1 => some 16
  | 2 => some (if fineOnly then 164 else if mode = 3 then 328 else 368)
  | 3 => some 64
  | 4 => some 16
  | 5 => some 2
  | 6 => some 5
  | 7 => some 9
  | _ => none

/-- A phase past its bound restarts acquisition (R259). Phases 2 and 4 end by a command of their own, which may come at the very boundary
of their bound; the others are judged at that boundary. -/
def acqTimeout (p : Nat) (s : State) : State :=
  let m := s.mr p
  let st := s.attrN .mrState p
  match acqBound (rxMode s p) st m.fineOnly with
  | some b => if m.start + b + b01 (st = 2 || st = 4) ≤ s.tick.toNat then acquire p false true s else s
  | none => s

/-- Lock not regained within 64 ticks restarts acquisition (R261). -/
def regainTimeout (p : Nat) (s : State) : State :=
  match (s.mr p).regain with
  | some n => if s.attr .mrState p ≠ 8 && n ≤ s.tick.toNat then acquire p false true s else s
  | none => s

/-- Acquisition may run: converters in service, not feathered, `los_raw` clear (R259). -/
def acqAllowed (s : State) (p : Nat) : Bool :=
  (s.conv p).rxIn && !feathered s p && s.attr .mrLosRaw p = 0

/-- Acquisition starts from state 0 (R259); a restart that was asked for is made (R261). -/
def acqStart (p : Nat) (s : State) : State :=
  let m := s.mr p
  if !acqAllowed s p then mrIdle p s
  else match m.reacquire with
    | some fine => acquire p fine false s
    | none => if s.attr .mrState p = 0 then acquire p m.fineNext false s else s

/-- Eight consecutive frames with `lol_raw` return a locked port to phase 5 (R261). -/
def lockCheck (p : Nat) (s : State) : State :=
  let m := s.mr p
  if s.attr .mrState p = 8 && 8 ≤ m.bad then
    mrGoto p 5 (s.setMr p { m with regain := some (s.tick.toNat + 64) })
  else s

/-- The raw indicators of the tick that ends and the empty and double ticks (R230, R260). -/
def mrRaw (p : Nat) (powerX powerY : Int) (s : State) : State :=
  let m := s.mr p
  let thr := s.attr .mrLosThresholdDb p
  let los := decide (powerX - 50 * s.attr .mrGainX p < thr) && decide (powerY - 50 * s.attr .mrGainY p < thr)
  let locked : Bool := s.attr .mrState p = 8
  -- frame starts are known once a training block is found
  let framed := decide (6 ≤ s.attrN .mrState p)
  let s := if framed && m.frames = 0 then s.bump .mrFrameTicksEmpty p else s
  let s := if framed && m.frames = 2 then s.bump .mrFrameTicksDouble p else s
  let lol := !locked || m.frameLol || (m.frames = 0 && m.lastEmpty)
  let s := (s.setAttr .mrLosRaw p 0 (b01 los)).setAttr .mrLolRaw p 0 (b01 lol)
  s.setMr p { m with lastEmpty := m.frames = 0, frames := 0, frameLol := false }

/-- ACQUISITION_START (R259). -/
def execAcquisitionStart (port : Fin 2) (s : State) : Host.Outcome State Fault Refusal :=
  .next (if s.clk.ticking then acqStart port s else s)

/-- ACQ_PHASE_COMPLETE (R256, R258): phase 4 ends when the coarse carrier offset, which lies within ±3.5 GHz, is removed; any other phase
by its condition. -/
def execAcqPhaseComplete (port : Fin 2) (offsetKhz : Int) (s : State) : Host.Outcome State Fault Refusal :=
  .next (if s.attr .mrState port = 4 then
    if offsetKhz.natAbs ≤ 3500000 then mrGoto port 5 (s.setMr port { s.mr port with carrier := offsetKhz }) else s
  else acqAdvance port s)

/-- ACQ_PHASE_TIMEOUT (R259). -/
def execAcqPhaseTimeout (port : Fin 2) (s : State) : Host.Outcome State Fault Refusal := .next (acqTimeout port s)

/-- REACQUIRE_TIMEOUT (R261). -/
def execReacquireTimeout (port : Fin 2) (s : State) : Host.Outcome State Fault Refusal := .next (regainTimeout port s)

/-- CD_CANDIDATE_STEP (R245): the candidate held for 4 ticks is scored, and the next is set. -/
def execCdCandidateStep (port : Fin 2) (score : Nat) (s : State) : Host.Outcome State Fault Refusal :=
  let m := s.mr port
  let k := m.search
  .next (match k.cands with
    | [] => s
    | v :: rest =>
      if s.attr .mrState port = 2 && decide (k.since + 4 ≤ s.tick.toNat) then
        let best := betterCandidate k.best v score
        let put := fun (k : CdSearch) => s.setMr port { m with search := { k with since := s.tick.toNat } }
        if !rest.isEmpty then put { k with cands := rest, best := some best }
        else if k.fine then
          mrGoto port 3 (s.setAttr .mrCdBulkPsNm port 0 best.1)
        else put { cands := fineAround (rxMode s port) best.1, fine := true }
      else s)

/-- What changes a frame that still comes in: the frame received last, and the copy of a running snapshot that is the same frame, or that
has no frame of its own. -/
def Millrace.updFrame (m : Millrace) (own : Bool) (upd : RxFrame → RxFrame) : Millrace :=
  let last := match m.rxFrames.head? with | some f => f.number | none => 0
  { m with
    rxFrames := m.rxFrames.map (fun f => if f.number = last then upd f else f)
    snap := { m.snap with running := m.snap.running.map (fun r =>
      (r.1, r.2.1, r.2.2.map (fun g =>
        (g.1, if (g.2.number = last && g.2.number ≠ 0) || (own && g.2.number = 0) then upd g.2 else g.2)))) } }

/-- The accumulator after the 1,024 output samples since the last update, moved by the loop (R239, R240): it keeps every fraction bit. -/
def nextPosition (position ratio adjust : Nat) : Nat :=
  ((position : Int) + 1024 * (ratio : Int) + (if 2 * adjust < 2 ^ 44 then (adjust : Int) else (adjust : Int) - 2 ^ 44)).toNat

/-- TIMING_LOOP_UPDATE (R239, R240): 1,024 output samples after the last update the loop sets the ratio word, and moves the accumulator by
a signed `phase` of 44 bits. A tick holds at most 433 of them. -/
def execTimingLoopUpdate (port : Fin 2) (ratio : Fin (2 ^ 48)) (phase : Fin (2 ^ 44)) (settled : Bool) (s : State) :
    Host.Outcome State Fault Refusal :=
  let m := s.mr port
  let n := if m.loopTick = s.tick.toNat then m.loopCount else 0
  .next (if s.attr .mrState port < 3 || 433 ≤ n then s
    else
      let pos := nextPosition m.position (s.attrN .mrRatioWord port) phase
      let s := (s.setAttr .mrRatioWord port 0 ratio.val).setAttr .mrTimingOffsetPpb port 0
        ((AttrKind.s 32).fit (timingPpb ratio))
      s.setMr port ({ m with
        position := pos, phase := pos % 2 ^ 44, loopTick := s.tick.toNat, loopCount := n + 1
        settled := if settled && ratioInRange ratio then m.settled + 1 else 0 }.updFrame true
          (fun f => { f with segs := f.segs ++ [(pos, ratio.val)] })))

/-! ### Received frames -/

/-- Sets `rx_mode`, and clips `cd_set_ps_nm` to the range of the mode (R274). -/
def setRxMode (p m : Nat) (s : State) : State :=
  let r := cdRange m
  let s := s.setAttr .lineRxMode p 0 m
  let s := s.setAttr .mrCdSetPsNm p 0 (clampInt (-r) r (s.attr .mrCdSetPsNm p))
  { s with written := s.written.map (fun e =>
      if e.1 = Attr.key .mrCdSetPsNm p 0 then (e.1, clampInt (-r) r e.2) else e) }

/-- The far end's announced mode begins with this frame (step 8 of Table 6 of 08). -/
def announcedSwitch (p : Nat) (s : State) : State :=
  match (s.tx p).announce with
  | some a =>
    if a.accepted && a.switchFrame ≤ (s.mr p).frameCount + 1 && s.attr .mrState p = 8 then
      let soft := softChange (rxMode s p) a.mode
      let s := setRxMode p a.mode (s.setTx p { s.tx p with announce := none })
      if soft then s
      else
        let r := cdRange a.mode
        (s.setAttr .mrCdBulkPsNm p 0 (clampInt (-r) r (s.attr .mrCdBulkPsNm p))).setMr p
          { s.mr p with reacquire := some true }
    else s
  | none => s

/-- A training block of another mode in frame search sets `rx_mode` (R285). -/
def detectMode (p : Nat) (mode : Option (Fin 4)) (s : State) : State :=
  match mode with
  | some m =>
    if s.attr .mrState p = 5 && m.val ≠ rxMode s p then
      let soft := softChange (rxMode s p) m
      let s := setRxMode p m s
      if soft then s else s.setMr p { s.mr p with reacquire := some false }
    else s
  | none => s

/-- A frame's own lol_raw: no training block of `rx_mode` found, a low SNR, or a rate out of range (R260). -/
def frameLol (s : State) (p : Nat) (f : FrameIn) : Bool :=
  f.mode.map (·.val) ≠ some (rxMode s p) || decide (f.snr < s.attr .mrLolSnrDb p) || !ratioInRange (s.attrN .mrRatioWord p)

/-- The bulk setting in force: a candidate of the search while one is held (R244, R245). -/
def bulkNow (s : State) (p : Nat) : Int :=
  match (s.mr p).search.cands with
  | v :: _ => if s.attr .mrState p = 2 then v else s.attr .mrCdBulkPsNm p
  | [] => s.attr .mrCdBulkPsNm p

/-- What applies to samples taken from the present boundary on. -/
def settingsNow (s : State) (p : Nat) : RxSet :=
  ⟨s.tick.toNat * 1728, residualsNow s p, (List.range 4).map (fun c => s.attr .mrRxSkewFs p c), bulkNow s p⟩

/-- Settings that have changed join those of the frames that come in (R191, R241, R244). At one boundary the last stand. -/
def noteSettings (p : Nat) (s : State) : State :=
  let m := s.mr p
  let x := settingsNow s p
  match m.sets.getLast? with
  | some y =>
    if { x with clock := y.clock } = y then s
    else s.setMr p ({ m with sets := (m.sets ++ [x]).drop (m.sets.length - 5) }.updFrame true
      (fun f => { f with sets := f.sets ++ [x] }))
  | none => s.setMr p { m with sets := [x] }

/-- What turns a sail to its constellation, given the quadrant by which a frame shows it turned (R256). -/
def quadsAfter (old : List Nat) (shown : List (Fin 4)) (sails : Nat) : List Nat :=
  (List.range sails).map (fun i => (old.getD i 0 + 4 - (shown.getD i 0).val) % 4)

/-- The taps that a frame begins under: those of each sail that are not stale. -/
def Millrace.tapsInUse (m : Millrace) : Tab (List (Nat × Option TapSet)) :=
  (m.taps.filter (fun e => !m.stale.contains e.1)).map (fun e => (e.1, [(0, e.2)]))

/-- A frame as the receive chain takes it up (R229, R251, R255): stamped with the present tick, under the static table generation and the
settings in force, with the accumulator as it stands. -/
def newFrame (p : Nat) (f : FrameIn) (s : State) : RxFrame :=
  let m := s.mr p
  { number := m.frameCount + 1, stamp := s.tick.toNat, taken := f.taken, enter := s.timing.tai + f.ps * 100000000
    mode := rxMode s p, snr := f.snr, static := (s.table (1 + p)).active, carrier := m.carrier
    samples := f.samples, sets := if m.sets.isEmpty then [settingsNow s p] else m.sets
    segs := [(m.phase, s.attrN .mrRatioWord p)], taps := m.tapsInUse
    quads := quadsAfter m.quads f.quadrants (modeSails (rxMode s p)) }

/-- The frame is taken up: it joins the last frames, its quadrants count (R256), and a snapshot that waits for it begins (R267). -/
def takeFrame (p : Nat) (f : FrameIn) (s : State) : State :=
  let m := s.mr p
  let x := newFrame p f s
  let run := match m.snap.running with
    | some (r, b, none) => if r.target ≤ s.tick.toNat then some (r, b, some (s.tick.toNat, x)) else m.snap.running
    | v => v
  let s := s.setMr p { m with
    rxFrames := (x :: m.rxFrames).take 4, frameCount := m.frameCount + 1, position := m.phase, quads := x.quads
    snap := { m.snap with running := run } }
  (List.range (modeSails (rxMode s p))).foldl (fun s i =>
    if f.quadrants.getD i 0 ≠ 0 then s.bump .mrSailCycleSlips p i else s) s

/-- RECEIVED_FRAME (R229, R258, R260, R285): a frame starts in the present tick. -/
def execReceivedFrame (port : Fin 2) (f : FrameIn) (s : State) : Host.Outcome State Fault Refusal :=
  .next (if !(s.conv port).rxIn || s.attr .mrState port < 5 || !s.clk.ticking then s
    else
      let m := s.mr port
      let s := s.setMr port { m with
        frames := m.frames + 1 }
      let s := detectMode port f.mode (announcedSwitch port s)
      let s := takeFrame port f s
      let m := s.mr port
      if m.reacquire.isSome then s
      else
        let found : Bool := f.mode.map (·.val) = some (rxMode s port)
        let lol := frameLol s port f
        match s.attrN .mrState port with
        | 5 => s.setMr port { m with found := m.found || found }
        | 6 => s.setMr port { m with trained := m.trained + b01 found }
        | 7 => s.setMr port { m with confirmed := if lol then 0 else m.confirmed + 1 }
        | _ =>
          let s := s.setMr port { m with
            bad := if lol then m.bad + 1 else 0, frameLol := m.frameLol || lol, lockOwed := false }
          if m.lockOwed then raise 0x0701 port noIndex [(24, 8, s.tick.toNat)] s else s)

/-! ### Tap updates (R250 to R252) -/

/-- The block of a frame that holds the first samples taken from the boundary of a tick on, at a ratio word; none for a block of another
frame. -/
def RxFrame.changeBlock (f : RxFrame) (ratio tick : Nat) : Option Nat :=
  let out : Int := ((tick : Int) * 1728 - (f.taken : Int)) * 256 * 2 ^ 44 / (ratio : Int)
  let slot := out * 25 / 512
  if 0 ≤ slot && decide (slot < 21600) then some (blockOf slot.toNat) else none

/-- The frame and the block whose update takes effect at the start of block `block` of the latest frame: two blocks before (Table 6). -/
def updateSource (m : Millrace) (block : Nat) : Option (RxFrame × Nat) :=
  if block < 2 then (m.rxFrames.drop 1).head?.map (fun f => (f, 335 + block)) else m.rxFrames.head?.map (fun f => (f, block - 2))

/-- A sail's update takes effect at the start of a block: the shadow bank swaps in. The new taps are computed under the bulk setting that
their source block passed. -/
def tapUpdate (p sail block : Nat) (source : RxFrame × Nat) (s : State) : State :=
  let r := s.draw
  let m := r.2.mr p
  let new : TapSet := ⟨r.1, (source.1.setting (source.1.position (slotSample (64 * source.2)))).bulk⟩
  r.2.setMr p ({ m with
    taps := Tab.put none m.taps sail (some new), shadow := Tab.put none m.shadow sail (Tab.get none m.taps sail)
    stale := nsDiff m.stale [sail] }.updFrame false
      (fun f => { f with taps := Tab.put [] f.taps sail ((block, some new) :: Tab.get [] f.taps sail) }))

/-- A block of a sail makes no update: it holds (R252). -/
def eqHold (p sail : Nat) (s : State) : State := (s.bump .mrSailEqHolds p sail).occurs 0x060 (16 * p + sail)

/-- EQ_BLOCK_UPDATE (R251, R252): the start of block `block` of a sail in the latest frame, where the update from two blocks before takes
effect, or is held. `error` is the mean decision error power of the source block, `solve` the residual of the training solve. -/
def execEqBlockUpdate (port : Fin 2) (sail : Fin 16) (block : Fin 337) (error solve : Nat) (s : State) :
    Host.Outcome State Fault Refusal :=
  let p : Nat := port
  let m := s.mr p
  .next (if s.attr .mrState p < 6 || modeSails (rxMode s p) ≤ sail then s
    else match updateSource m block with
      | none => s
      | some src =>
        let e := Tab.get (0, 0) m.errs sail
        let burst : Bool := e.1 ≠ 0 && decide (4 * e.1 < error)
        let errs := Tab.put (0, 0) m.errs sail (if burst then (e.1, error) else (Config.errorMean e.1 error, error))
        let note := fun (s : State) => s.setMr p { s.mr p with errs := errs }
        if m.changes.any (fun t => src.1.changeBlock (s.attrN .mrRatioWord p) t = some src.2) then
          eqHold p sail (if src.2 = 0 then s else note s)
        else if src.2 = 0 then
          if Tab.get none m.taps sail ≠ none && decide (e.2 < solve) then s.bump .mrSailTrainSkips p sail
          else tapUpdate p sail block src s
        else if src.2 = 1 then note s
        else if burst then eqHold p sail (note s)
        else tapUpdate p sail block src (note s))

/-- The retune of R246 at a boundary: the residual joins the bulk setting, clipped to the range. -/
def cdRetune (p : Nat) (s : State) : State :=
  let m := s.mr p
  match m.retune with
  | none => s
  | some (r, due) =>
    if s.attr .mrState p ≠ 8 then s.setMr p { m with retune := none }
    else if s.tick.toNat < due then s
    else
      let old := s.attr .mrCdBulkPsNm p
      let lim := cdRange (rxMode s p)
      let new := clampInt (-lim) lim (old + r)
      let s := noteChange p ((s.setAttr .mrCdBulkPsNm p 0 new).setMr p { m with retune := none })
      raise 0x0703 p noIndex [sfld 24 4 old, sfld 28 4 new] s

/-- CD_RETUNE (R246). -/
def execCdRetune (port : Fin 2) (s : State) : Host.Outcome State Fault Refusal := .next (cdRetune port s)

/-! ### Quality measures (R263, R264) -/

/-- The value a measure reads before it has one. -/
def invalidOf (a : Attr) : Int := a.row.reset

/-- Sets a list of per-sail values; sails without one read the invalid value. -/
def setSails (a : Attr) (p : Nat) (l : List Int) (s : State) : State :=
  (List.range 16).foldl (fun s i => s.setAttr a p i (a.row.kind.fit (l.getD i (invalidOf a)))) s

/-- The bins that carry no signal: guard bins, bins of idle slots, and every bin while `los_raw` is set (R263). -/
def noiseBins (s : State) (p : Nat) : List Nat :=
  (List.range 5120).filter (fun e => s.attr .mrLosRaw p = 1 || !binUsed (rxMode s p) e)

/-- The two guard bins on either side of the slot of a sail (R263). -/
def sailGuards (m sail : Nat) : List Nat := [256 * (sail + modeFirstSlot m) - 1, 256 * (sail + modeFirstSlot m) + 255]

/-- A noise floor: the mean over bins of both polarisations, each less the gain of its pair (R263). -/
def noiseFloor (s : State) (p : Nat) (bins : List (Int × Int)) (l : List Nat) : Int :=
  let v := l.flatMap (fun e =>
    let b := bins.getD e (0, 0)
    [b.1 - gainCentiDb (s.attrN .mrGainX p), b.2 - gainCentiDb (s.attrN .mrGainY p)])
  roundDiv v.sum v.length

/-- QUALITY_MEASURE_UPDATE (R256, R263, R264): the now values every 1,024 ticks, and the sums behind the second values. A locked port
follows the carrier. -/
def execQualityMeasureUpdate (port : Fin 2) (q : Quality) (s : State) : Host.Outcome State Fault Refusal :=
  let m := s.mr port
  .next (if s.tick.toNat < m.qual.last + 1024 then s
    else
      let lock : Bool := s.attr .mrState port = 8
      let sails := modeSails (rxMode s port)
      let noise := noiseFloor s port q.bins (noiseBins s port)
      let residual := q.link - s.attr .mrCdBulkPsNm port
      let k := m.qual
      let k := { k with count := k.count + 1, noise := k.noise + noise, last := s.tick.toNat }
      let k := if lock then { k with
          sigCount := k.sigCount + 1
          snr := (List.range sails).foldl (fun t i => Tab.upd 0 t i (· + q.sailSnr.getD i 0)) k.snr
          snrMin := (List.range sails).foldl (fun t i => Tab.upd 65535 t i (fun v => min v (q.sailSnr.getD i 65535))) k.snrMin
          residual := k.residual + residual
          dgdMax := max k.dgdMax q.dgd
          polMax := max k.polMax q.polMax
          cfo := k.cfo + q.cfo }
        else k
      let s := s.setMr port { m with qual := k, carrier := if lock then q.cfo else m.carrier }
      let put := fun (a : Attr) (v : Int) (ok : Bool) (s : State) =>
        s.setAttr a port 0 (if ok then a.row.kind.fit v else invalidOf a)
      let s := put .mrNoiseFloorDbfs noise true s
      let s := setSails .mrSailNoiseFloorDbfs port
        ((List.range sails).map (fun i => noiseFloor s port q.bins (sailGuards (rxMode s port) i))) s
      let s := setSails .mrSailSnrDb port (if lock then (q.sailSnr.take sails).map (fun (n : Nat) => (n : Int)) else []) s
      let s := put .mrResidualCdPsNm residual lock s
      let s := put .mrDgdPs q.dgd lock s
      let s := put .mrPolRateKradS q.polRate lock s
      put .mrCfoKhz q.cfo lock s)

/-- Latches the second values of a port, and takes the retune decision on them (R246, R264). Firmware decides, so not
during an activation pause. -/
def qualLatch (p : Nat) (s : State) : State :=
  let k := (s.mr p).qual
  let sig : Bool := 0 < k.sigCount && s.attr .mrState p = 8
  let put := fun (a : Attr) (v : Int) (ok : Bool) (s : State) =>
    s.setAttr a p 0 (if ok then a.row.kind.fit v else invalidOf a)
  let s := put .mrNoiseFloorDbfsS (roundDiv k.noise k.count) (0 < k.count) s
  let sails := if sig then List.range (modeSails (rxMode s p)) else []
  let s := setSails .mrSailSnrDbS p (sails.map (fun i => roundDiv ((Tab.get 0 k.snr i : Nat) : Int) k.sigCount)) s
  let s := setSails .mrSailSnrDbMinS p (sails.map (fun i => ((Tab.get 65535 k.snrMin i : Nat) : Int))) s
  let res := roundDiv k.residual k.sigCount
  let s := put .mrResidualCdPsNmS res sig s
  let s := put .mrDgdPsMaxS k.dgdMax sig s
  let s := put .mrPolRateKradSMaxS k.polMax sig s
  let s := put .mrCfoKhzS (roundDiv k.cfo k.sigCount) sig s
  let m := s.mr p
  s.setMr p { m with
    qual := { last := k.last }
    retune := if sig && s.fwServing && decide (s.attr .mrCdRetunePsNm p < res.natAbs) then
      some (res, s.tick.toNat + b01 (!s.timing.latchOwed)) else m.retune }

/-! ### Generation tables (R254, R255, R287 to R289) -/

/-- Replaces a table. -/
def State.setTable (s : State) (bit : Nat) (t : GenTable) : State := { s with tables := Tab.put {} s.tables bit t }

/-- Writes bytes into a generation. -/
def tableWrite (bit : Nat) (t : Tab Byte) (o : Nat) : List Byte → Tab Byte
  | [] => t
  | b :: r => tableWrite bit (Tab.put 0 t o (b ^^^ tablePattern bit o)) (o + 1) r

/-- A commit that names the table is pending. -/
def commitPending (s : State) (bit : Nat) : Bool := s.commits.any (fun k => bitOf k.mask bit)

/-- The conditions SY_MR_TABLE and SY_TX_TABLE share (Table 12 of 07, R271): the table's bit and its size. -/
def tableChecks (s : State) (sid : Nat) (e : List Byte) (bit size : Nat) : List (Bool × Status) :=
  let o := fieldAt e 20 4
  let n := fieldAt e 24 4
  [(decide (2 < fieldAt e 17 1) || o % 8 ≠ 0 || n % 8 ≠ 0 || decide (n < 8) || decide (size < n) ||
      decide (size < o + n) || ((s.sess sid).onDie && decide (8192 < n)) || areaBad s sid (fieldAt e 32 8) n, .eRange),
   (commitPending s bit, .eState)]

/-- Runs a table command on a table (R255). -/
def tableRun (s : State) (c : CmdRef) (e dma : List Byte) (bit : Nat) : State × Answer :=
  let o := fieldAt e 20 4
  let n := fieldAt e 24 4
  let t := s.table bit
  let s :=
    if fieldAt e 17 1 = 0 then
      s.setTable bit { t with
        staging := tableWrite bit t.staging o (readArea s c.session (fieldAt e 32 8) n dma), staged := true }
    else
      writeArea s c.session (fieldAt e 32 8) (tableRead bit (if fieldAt e 17 1 = 1 then t.staging else t.active) o n)
  (s, .final .ok [(16, 4, n)])

/-- SY_MR_TABLE (R255, R271, Table 12 of 07): the static response table of a port. -/
def execSyMrTable (c : CmdRef) (dma : List Byte) (s : State) : Host.Outcome State Fault Refusal :=
  .next (serve 0x0702 anyForm [(16, 2), (20, 8), (32, 8)]
    (fun s sid e => (decide (1 < fieldAt e 16 1), .eRange) :: tableChecks s sid e (1 + fieldAt e 16 1) 40960)
    (fun s c e => tableRun s c e dma (1 + fieldAt e 16 1))
    c s)

/-! ### Commands and snapshots -/

/-- SY_MR_REACQUIRE (R261, R270): restarts acquisition at the next boundary. -/
def execSyMrReacquire (c : CmdRef) (s : State) : Host.Outcome State Fault Refusal :=
  .next (serve 0x0701 anyForm [(16, 2)]
    (fun s _ e =>
      [(decide (1 < fieldAt e 16 1) || (decide (2 < fieldAt e 17 1) && fieldAt e 17 1 ≠ 0xFF), .eRange),
       (s.attr .mrState (fieldAt e 16 1) = 0, .eState)])
    (fun s _ e =>
      let p := fieldAt e 16 1
      let d := fieldAt e 17 1
      let s := if d = 0xFF then s
        else { (s.setAttr .mrCdMode p 0 d) with written := Tab.erase s.written (Attr.key .mrCdMode p 0) }
      (s.setMr p { s.mr p with reacquire := some false }, .final .ok []))
    c s)

/-- A bank of the snapshot unit. -/
def Snap.bank (k : Snap) (b : Nat) : Option CapBank := if b = 0 then k.bank0 else k.bank1

/-- Replaces a bank. -/
def Snap.setBank (k : Snap) (b : Nat) (v : Option CapBank) : Snap :=
  if b = 0 then { k with bank0 := v } else { k with bank1 := v }

/-- Replaces a port's snapshot unit and brings `snapshot.bank_full` up to date. -/
def setSnap (p : Nat) (k : Snap) (s : State) : State :=
  (s.setMr p { s.mr p with snap := k }).setAttr .mrSnapshotBankFull p 0 (b01 k.bank0.isSome + 2 * b01 k.bank1.isSome)

/-- A request overruns (R268). -/
def snapOverrun (p : Nat) (s : State) : State := raise 0x0707 p noIndex [] (s.bump .mrSnapshotOverruns p)

/-- A request arrives: 0 started, 1 queued, 2 overrun (R268). -/
def snapRequest (p : Nat) (r : SnapReq) (s : State) : Nat × State :=
  let k := (s.mr p).snap
  if k.queued.isSome || (k.bank0.isSome && k.bank1.isSome) then (2, snapOverrun p s)
  else if k.running.isSome then (1, setSnap p { k with queued := some r } s)
  else (0, setSnap p { k with running := some (r, (if k.bank0.isNone then 0 else 1), none) } s)

/-- SY_MR_SNAPSHOT (R267, R272, Table 13 of 07). -/
def execSyMrSnapshot (c : CmdRef) (s : State) : Host.Outcome State Fault Refusal :=
  .next (serve 0x0703 anyForm [(16, 4), (24, 8)]
    (fun s _ e =>
      let p := fieldAt e 16 1
      let pt := fieldAt e 17 1
      [(decide (1 < p) || decide (2 < pt) || decide (1 < fieldAt e 19 1) ||
          (pt = 2 && decide (modeSails (rxMode s p) ≤ fieldAt e 18 1)), .eRange),
       (feathered s p || inCalibration s p || (fieldAt e 19 1 = 1 && decide (fieldAt e 24 8 ≤ s.tick.toNat)) ||
          (pt = 2 && decide (s.attr .mrState p < 6)), .eState)])
    (fun s _ e =>
      let t := if fieldAt e 19 1 = 1 then fieldAt e 24 8 else if s.clk.ticking then s.tick.toNat + 1 else 0
      let r := snapRequest (fieldAt e 16 1) ⟨fieldAt e 17 1, fieldAt e 18 1, t⟩ s
      (r.2, .final .ok [(16, 1, r.1)]))
    c s)

/-- A snapshot of points 0 and 1 starts in states 1 to 4 with output sample 0 after the boundary; any other starts with the first frame
stamped at or after the trigger tick (R267, `takeFrame`). -/
def snapStart (p : Nat) (s : State) : State :=
  let m := s.mr p
  match m.snap.running with
  | some (r, b, none) =>
    let st := s.attrN .mrState p
    if s.clk.ticking && r.target ≤ s.tick.toNat && decide (r.point < 2) && decide (1 ≤ st) && decide (st ≤ 4) then
      let f : RxFrame := { number := 0, stamp := s.tick.toNat, taken := s.tick.toNat * 1728, mode := rxMode s p
                           sets := [settingsNow s p], segs := [(m.phase, s.attrN .mrRatioWord p)] }
      setSnap p { m.snap with running := some (r, b, some (s.tick.toNat, f)) } s
    else s
  | _ => s

/-- SNAPSHOT_START (R267). -/
def execSnapshotStart (port : Fin 2) (s : State) : Host.Outcome State Fault Refusal := .next (snapStart port s)

/-- SNAPSHOT_DONE (R266, R268): the bank holds the rows of the frame, or of the samples that the ADCs took from the reference on where no
frame gave it, `snapshot_done` is raised, a queued snapshot takes the other bank. -/
def execSnapshotDone (port : Fin 2) (samples : Samples) (s : State) : Host.Outcome State Fault Refusal :=
  let k := (s.mr port).snap
  .next (match k.running with
    | some (r, b, some (ref, f)) =>
      let f := if f.number = 0 then { f with samples := samples } else f
      let seq := k.seq + 1
      let k := k.setBank b (some ⟨seq.toNat, ref, s.attrN .identityDieId, s.attrN .lineEpoch port, 65536, f.rows port r.point r.sail⟩)
      let s := setSnap port { k with seq := seq, running := none } s
      let s := raise 0x0706 port noIndex [(24, 1, b), (28, 4, seq.toNat), (32, 8, ref)] s
      (match k.queued with
        | some r =>
          let k := { (s.mr port).snap with queued := none }
          if k.bank0.isSome && k.bank1.isSome then snapOverrun port (setSnap port k s)
          else setSnap port { k with running := some (r, (if k.bank0.isNone then 0 else 1), none) } s
        | none => s)
    | _ => s)

/-- SY_MR_SNAPSHOT_READ (R272): the layout of SY_CAPTURE_READ over the snapshot banks. -/
def execSyMrSnapshotRead (c : CmdRef) (s : State) : Host.Outcome State Fault Refusal :=
  .next (serve 0x0704 anyForm [(16, 3), (20, 4), (24, 4), (28, 4), (32, 8)]
    (fun s sid e =>
      let p := fieldAt e 16 1
      let o := fieldAt e 20 4
      let n := fieldAt e 24 4
      let bank := (s.mr p).snap.bank (fieldAt e 17 1)
      [(decide (1 < p) || decide (1 < fieldAt e 17 1) || decide (1 < fieldAt e 18 1) || o % 64 ≠ 0 || n % 64 ≠ 0 ||
          decide (n < 64) || decide (65536 < n) || ((s.sess sid).onDie && decide (8192 < n)) ||
          areaBad s sid (fieldAt e 32 8) n ||
          (match bank with | some b => decide (b.size < o + n) | none => false), .eRange),
       ((match bank with | some b => b.seq ≠ fieldAt e 28 4 | none => true), .eState),
       ((match bank with | some b => bankStale s p b | none => false), .eStale)])
    (fun s c e =>
      let p := fieldAt e 16 1
      let k := (s.mr p).snap
      match k.bank (fieldAt e 17 1) with
      | none => (s, .final .eState [])
      | some b =>
        let s := writeArea s c.session (fieldAt e 32 8) (bytesAt b.data (fieldAt e 20 4) (fieldAt e 24 4))
        let s := if fieldAt e 18 1 = 1 then setSnap p (k.setBank (fieldAt e 17 1) none) s else s
        (s, .final .ok [(16, 4, fieldAt e 24 4), (24, 8, b.firstTick)]))
    c s)

end Sys2Proof.Machine
end

