-- ==== Sys2Proof/Machine/Fec.lean ====
section
/-!
DEFINITION. Sys2Proof/Machine/Fec.lean: the hopper, cogs and wheels, and the codewords' entry, decoding and release (spec/09).
-/
namespace Sys2Proof.Machine

/-! ### Access -/

/-- The decoder of a line port. -/
def State.fec (s : State) (p : Nat) : Fec := Tab.get {} s.fecs p

/-- Replaces the decoder of a line port. -/
def State.setFec (s : State) (p : Nat) (x : Fec) : State := { s with fecs := Tab.put {} s.fecs p x }

/-- The present count of datapath clocks, at clock `phi` of the present tick. -/
def State.now (s : State) (phi : Nat) : Nat := s.tick.toNat * 1728 + phi

/-- When a codeword is released (R311, R320). -/
def Codeword.release (w : Codeword) : Nat := if w.low then w.entry + 1728 else w.entry + 3456

/-- A codeword's deadline (R311, R320). -/
def Codeword.deadline (w : Codeword) : Nat := if w.low then w.entry + 1728 else (w.entry / 1728 + 2) * 1728

/-- A codeword stands in a buffer of a cog other than the batch-start buffer. -/
def Codeword.heldBy (w : Codeword) (cog : Nat) : Bool :=
  match w.place with
  | .prefetch c _ | .loading c | .decode c _ => c = cog
  | _ => false

/-- A cog's decode buffer is in use. -/
def Fec.decoding (x : Fec) (cog : Nat) : Bool :=
  x.cws.any (fun w => match w.place with | .loading c | .decode c _ => c = cog | _ => false)

/-- A cog's prefetch buffer is in use. -/
def Fec.prefetched (x : Fec) (cog : Nat) : Bool :=
  x.cws.any (fun w => match w.place with | .prefetch c _ => c = cog | _ => false)

/-- A cog is in service. -/
def Fec.inService (x : Fec) (cog : Nat) : Bool := !x.retired.contains cog

/-- The in-service cogs of a wheel, in rising order. -/
def Fec.wheelCogs (x : Fec) (w : Nat) : List Nat := ((List.range 12).map (fun k => 12 * w + k)).filter x.inService

/-- `cogs_in_service`: one byte per wheel, wheel 0 first. -/
def Fec.cogsInService (x : Fec) : List Nat := (List.range 8).map (fun w => (x.wheelCogs w).length)

/-- Replaces a codeword by its number. -/
def Fec.setCw (x : Fec) (w : Codeword) : Fec := { x with cws := x.cws.map (fun v => if v.id = w.id then w else v) }

/-! ### Taking and stealing (R313, R314, R317 to R319) -/

/-- A codeword of a wheel's queue that cogs may take at tick `t`: in standard mode only those of the batch before. -/
def takeable (t w : Nat) (c : Codeword) : Bool := c.place = .queue w && (c.low || decide (c.entry / 1728 < t))

/-- Takes the oldest codeword of a wheel's queue into a cog's prefetch buffer: its load takes at most `load` clocks. -/
def Fec.take (x : Fec) (t now w load cog : Nat) : Fec :=
  match x.cws.find? (takeable t w) with
  | some c => x.setCw { c with place := .prefetch cog false, cog := cog, loadBy := now + load }
  | none => x

/-- The wheels a cog steals from, in order: w + 1, w − 1, w + 2, w − 2. -/
def stealOrder (w : Nat) : List Nat := [(w + 1) % 8, (w + 7) % 8, (w + 2) % 8, (w + 6) % 8]

/-- One cog tries to steal (R317, R318): whether it did, and the decoder after. The load takes at most 96 clocks (R309), and leaves the
iterations of the cap before the deadline, so that no stolen codeword is released at its deadline (R316). -/
def Fec.steal (x : Fec) (t now cap cog : Nat) : Bool × Fec :=
  match (stealOrder (cog / 12)).find? (fun w => decide (2 ≤ (x.cws.filter (takeable t w)).length)) with
  | none => (false, x)
  | some w =>
    match x.cws.find? (takeable t w) with
    | some c => if now + 2 * cap * 24 ≤ c.deadline then (true, x.take t now w (min 96 (c.deadline - cap * 24 - now)) cog)
                else (false, x)
    | none => (false, x)

/-- The cogs of a list, in rising order, that are in service and have an empty prefetch buffer. -/
def Fec.hungry (x : Fec) (cogs : List Nat) : List Nat :=
  (List.range 96).filter (fun c => cogs.contains c && x.inService c && !x.prefetched c)

/-- Cogs fill their prefetch buffers: every take from an own queue first, then every steal (R319). A cog that finds no work is idle from
then on (R314). -/
def fillPrefetch (p now : Nat) (cogs : List Nat) (s : State) : State :=
  let t := now / 1728
  let cap := s.attrN .fecIterCapEffective p
  let x := s.fec p
  let x := (x.hungry cogs).foldl (fun x c => x.take t now (c / 12) 48 c) x
  let r := (x.hungry cogs).foldl (fun (r : Nat × Fec) c =>
    let q := r.2.steal t now cap c
    (r.1 + b01 q.1, q.2)) (0, x)
  let x := { r.2 with idle := cogs.foldl (fun i c =>
    if r.2.prefetched c || r.2.decoding c then Tab.erase i c else Tab.put 0 i c now) r.2.idle }
  ((s.setFec p x).count .fecSteals p 0 r.1).occurs 0x011 p r.1

/-- A cog that decodes nothing starts the codeword its prefetch buffer holds, once loaded. -/
def Fec.startLoaded (x : Fec) (now cog : Nat) : Fec :=
  if x.decoding cog then x
  else match x.cws.find? (fun w => w.place = .prefetch cog true) with
    | some w => x.setCw { w with place := .decode cog now, cap := if w.low then w.cap else x.stdCap }
    | none => x

/-- Cogs that have come free start what is loaded, then those with an empty prefetch buffer fill it. -/
def nextWork (p now : Nat) (cogs : List Nat) (s : State) : State :=
  fillPrefetch p now cogs (s.setFec p (cogs.foldl (fun x c => x.startLoaded now c) (s.fec p)))

/-- The load of the codeword that a cog takes in ends: one that it waits for it starts (R309, R320). -/
def Codeword.loaded (w : Codeword) (now : Nat) : Codeword :=
  { w with place := match w.place with
    | .loading c => .decode c now
    | .prefetch c _ => .prefetch c true
    | q => q }

/-- The cog that loads a codeword. -/
def Codeword.loader (w : Codeword) : Option Nat :=
  match w.place with
  | .loading c | .prefetch c false => some c
  | _ => none

/-- Cogs look for work at a clock. -/
def hungryAt (p now : Nat) (cogs : List Nat) (s : State) : State :=
  if cogs.isEmpty then s else s.setFec p { s.fec p with work := nsUnion (s.fec p).work cogs, workAt := now }

/-- The next clock at which the hopper acts by itself: a load has taken its longest time, or cogs look for work. -/
def Fec.nextAct (x : Fec) : Option Nat :=
  (x.cws.filterMap (fun w => w.loader.map (fun _ => w.loadBy)) ++ (if x.work.isEmpty then [] else [x.workAt])).min?

/-- Everything the hopper does by itself at a clock: loads end, then the cogs that have come free or are idle take and steal (R319). -/
def hopperStep (p now : Nat) (s : State) : State :=
  let x := s.fec p
  let endsBy := fun (w : Codeword) => w.loader.isSome && decide (w.loadBy ≤ now)
  let cogs := (x.cws.filter endsBy).filterMap (·.loader)
  nextWork p now (nsUnion x.work cogs)
    (s.setFec p { x with work := [], cws := x.cws.map (fun w => if endsBy w then w.loaded now else w) })

/-- So many steps of the hopper before a clock. -/
def hopperRun (p now : Nat) : Nat → State → State
  | 0, s => s
  | n + 1, s =>
    match (s.fec p).nextAct with
    | some t => if t < now then hopperRun p now n (hopperStep p t s) else s
    | none => s

/-- The hopper has done all that came before a clock. What it does in that clock waits for everything else that happens in it. -/
def hopperTo (p now : Nat) (s : State) : State := hopperRun p now (2 * (s.fec p).cws.length + 2) s

/-! ### Entry and decoding -/

/-- The wheel that the dealer deals to: the next in the ring with a cog in service (R313). -/
def Fec.dealWheel (x : Fec) : Nat :=
  (((List.range 8).map (fun k => (x.dealNext + k) % 8)).find? (fun w => !(x.wheelCogs w).isEmpty)).getD x.dealNext

/-- Where a dealt codeword goes: the first free batch-start buffer of the wheel, or in low-latency mode the first idle
cog's decode buffer; else the queue (R313, R320). -/
def Fec.dealPlace (x : Fec) (low : Bool) (w : Nat) : CwPlace :=
  if low then
    match (x.wheelCogs w).find? (fun c => !x.cws.any (fun v => v.heldBy c)) with
    | some c => .loading c
    | none => .queue w
  else
    match (x.wheelCogs w).find? (fun c => !x.cws.any (fun v => v.place = .start c)) with
    | some c => .start c
    | none => .queue w

/-- The cog of a place. -/
def CwPlace.cogOf : CwPlace → Nat
  | .start c | .prefetch c _ | .loading c | .decode c _ => c
  | _ => 0

/-- The first codeword of a frame whose LLRs all leave the demapper while the port is locked: LLRs produced before are discarded
(R308). -/
def Millrace.firstKept (m : Millrace) (f : RxFrame) : Nat :=
  ((List.range (modeCodewords f.mode)).find? (fun i => decide (m.lockedAt ≤ f.firstClock i))).getD (modeCodewords f.mode)

/-- The received frame with a stamp of which the next codeword to leave the demapper is the one with an index. -/
def Millrace.sourceOf (m : Millrace) (stamp index : Nat) : Option RxFrame :=
  m.rxFrames.reverse.find? (fun f => f.stamp = stamp && max f.entered (m.firstKept f) = index && decide (index < modeCodewords f.mode))

/-- CODEWORD_ENTRY (R257, R308, R313, R320): the last LLR of a codeword leaves the demapper at clock `phi` of the present tick, which the
frame's timing fixes to within two clocks, and the codeword enters the hopper. -/
def execCodewordEntry (port : Fin 2) (phi : Fin 1728) (stamp index : Nat) (s : State) :
    Host.Outcome State Fault Refusal :=
  let p : Nat := port
  let s := hopperTo p (s.now phi) s
  let m := s.mr p
  .next (match m.sourceOf stamp index with
    | none => s
    | some f =>
      if s.attr .mrState p ≠ 8 || decide (s.now phi < f.entryClock index) || decide (f.entryClock index + 2 < s.now phi) then s
      else
        let x := s.fec p
        let low : Bool := s.attr .fecMode p = 1
        let w := x.dealWheel
        let pl := x.dealPlace low w
        let c : Codeword := {
          id := x.nextId, entry := s.now phi, low := low, stamp := stamp, index := index
          last := index + 1 = modeCodewords f.mode, place := pl, cog := pl.cogOf
          frame := f.number, mode := f.mode, enter := f.enter, llrs := (f.llrs p index)
          cap := s.attrN .fecIterCapEffective p, loadBy := s.now phi + 48 }
        let frames := m.rxFrames.map (fun g => if g.number = f.number then { g with entered := index + 1 } else g)
        let s := s.setMr p { m with rxFrames := frames }
        s.setFec p { x with cws := x.cws ++ [c], nextId := x.nextId + 1, dealNext := (w + 1) % 8 })

/-- The iterations after which a codeword stops of itself: at syndrome zero, or at its cap (R307). -/
def Codeword.lastIter (w : Codeword) : Nat := (stopIter w.llrs w.cap).getD w.cap

/-- Bits with those at some positions inverted. -/
def flipBits (faults : List Nat) (l : List Bool) : List Bool :=
  if faults.isEmpty then l else l.mapIdx (fun i b => b != faults.contains i)

/-- The input hard decisions of a codeword, and its hard decisions where it stopped, as its cog hands them over. -/
def Codeword.signs (w : Codeword) : List Bool := w.llrs.map hardBit
def Codeword.decided (w : Codeword) : List Bool := flipBits w.faults (hardBits w.llrs w.layers)

/-- The bits of a codeword that differ from its input hard decisions (R327). -/
def Codeword.changed (w : Codeword) : Nat := (xorBits w.signs w.decided).countP (fun b => b)

/-- A codeword stops of itself (R307). -/
def Codeword.finish (w : Codeword) : Codeword :=
  let w := { w with place := .stopped, iters := w.lastIter, layers := 4 * w.lastIter }
  { w with status := if (stopIter w.llrs w.cap).isNone then .cap else if w.changed = 0 then .clean else .corrected }

/-- A codeword that a cog decodes since a clock has stopped of itself by another. -/
def Codeword.doneBy (w : Codeword) (now : Nat) : Bool :=
  match w.place with
  | .decode _ since => decide (since + 24 * w.lastIter ≤ now)
  | _ => false

/-- A codeword at its deadline (R307, R315): finished if it stops in that very clock (Table 5); else released as its last complete layer
left it, or with its input hard decisions if it never started. -/
def Codeword.expire (w : Codeword) : Codeword :=
  if w.doneBy w.deadline then w.finish
  else
    let run := match w.place with | .decode _ since => w.deadline - since | _ => 0
    { w with place := .stopped, status := .late, iters := run / 24, layers := run / 6 }

/-- The codeword that a cog decodes and that stops of itself by a clock. -/
def stoppedBy (now : Nat) (r : CogStop) (w : Codeword) : Bool :=
  (match w.place with | .decode c _ => decide (c = r.cog.val) | _ => false) && w.doneBy now

/-- The codeword a cog decodes stops (R307). -/
def Fec.stopCw (now : Nat) (x : Fec) (r : CogStop) : Fec :=
  match x.cws.find? (stoppedBy now r) with
  | some w => x.setCw w.finish
  | none => x

/-- COG_CODEWORD_STOP (R307, R314, R319): the cogs whose codewords stop at one clock, and what they take next. A cog that has not run to
syndrome zero or the cap does not stop. -/
def execCogCodewordStop (port : Fin 2) (phi : Fin 1728) (stops : List CogStop) (s : State) :
    Host.Outcome State Fault Refusal :=
  let s := hopperTo port (s.now phi) s
  let x := s.fec port
  let live := stops.filter (fun r => x.cws.any (stoppedBy (s.now phi) r))
  .next (hungryAt port (s.now phi) (live.map (·.cog.val)) (s.setFec port (live.foldl (Fec.stopCw (s.now phi)) x)))

/-- CODEWORD_LOAD_END (R309, R320): a load ends; a cog that waits on it starts the codeword. -/
def execCodewordLoadEnd (port : Fin 2) (phi : Fin 1728) (cog : Fin 96) (s : State) :
    Host.Outcome State Fault Refusal :=
  let s := hopperTo port (s.now phi) s
  let x := s.fec port
  .next (match x.cws.find? (fun w => w.loader = some cog.val) with
    | some w => hungryAt port (s.now phi) [cog.val] (s.setFec port (x.setCw (w.loaded (s.now phi))))
    | none => s)

/-- An idle cog applies the rules again every 24 clocks (R314); one idle since before the first boundary, in step with the boundaries. -/
def Fec.retries (x : Fec) (now cog : Nat) : Bool := !x.decoding cog && (now - Tab.get 0 x.idle cog) % 24 = 0

/-- IDLE_COG_RETRY (R314): idle cogs apply the take and steal rules again. -/
def execIdleCogRetry (port : Fin 2) (phi : Fin 1728) (cogs : List (Fin 96)) (s : State) :
    Host.Outcome State Fault Refusal :=
  let s := hopperTo port (s.now phi) s
  .next (hungryAt port (s.now phi) ((cogs.map (·.val)).filter ((s.fec port).retries (s.now phi))) s)

/-- Every codeword whose deadline has come and that has not stopped stops there (R307, R315). -/
def Fec.deadline (x : Fec) (now : Nat) : Fec :=
  { x with cws := x.cws.map (fun w => if w.place ≠ .stopped && decide (w.deadline ≤ now) then w.expire else w) }

/-- The codewords whose deadline has come stop, and the cogs that this frees look for work. -/
def deadlineAt (p now : Nat) (s : State) : State :=
  let x := s.fec p
  let freed := (List.range 96).filter (fun c => x.decoding c && !(x.deadline now).decoding c)
  hungryAt p now freed (s.setFec p (x.deadline now))

/-- CODEWORD_DEADLINE (R315, R320). -/
def execCodewordDeadline (port : Fin 2) (phi : Fin 1728) (s : State) : Host.Outcome State Fault Refusal :=
  .next (deadlineAt port (s.now phi) (hopperTo port (s.now phi) s))

/-! ### Boundaries -/

/-- The effective cap (R310): the lowest of the mode's, the host's, the thermal and the tarnish cap. -/
def effectiveCap (s : State) (p : Nat) (low : Bool) : Int :=
  let m : Int := if low then 6 else 12
  let th : Int := if s.attr .thermalLevel = 1 then 8 else if s.attr .thermalLevel = 2 then 6 else 12
  min (min m (s.attr .fecIterCap p)) (min th (s.attr .fecIterCapTarnish p))

/-- One cog is retired (R325): what it had not started goes back to its wheel's queue. -/
def retireCog (p : Nat) (s : State) (cog : Nat) : State :=
  let x := s.fec p
  let x := { x with
    retired := nsIns x.retired cog, retiring := Tab.erase x.retiring cog
    cws := x.cws.map (fun w => match w.place with
      | .start c | .prefetch c _ => if c = cog then { w with place := .queue (cog / 12) } else w
      | _ => w) }
  raise 0x0902 p noIndex [(24, 1, cog / 12), (25, 1, (x.wheelCogs (cog / 12)).length)] (s.setFec p x)

/-- Cogs whose retirement waits are retired at the boundary it waits for (R325). -/
def cogRetirement (p : Nat) (s : State) : State :=
  (((s.fec p).retiring.filter (fun e => e.2 ≤ s.tick.toNat)).map (·.1)).foldl (retireCog p) s

/-- COG_RETIREMENT (R325). -/
def execCogRetirement (port : Fin 2) (s : State) : Host.Outcome State Fault Refusal := .next (cogRetirement port s)

/-- At a boundary every cog starts its batch-start codeword of the batch before (R314). -/
def Fec.startBatch (x : Fec) (t cap : Nat) : Fec :=
  { x with cws := x.cws.map (fun w => match w.place with
      | .start c => if w.entry / 1728 < t then { w with place := .decode c (t * 1728), cap := cap } else w
      | _ => w) }

/-- The coded bits of one transmitted frame are counted for error injection, with the errors in them (R305). -/
def injectErrors (p : Nat) (s : State) : State :=
  let n := s.attrN .fecTxInjectPeriod p
  if n = 0 then s
  else
    let x := s.fec p
    let total := x.injectCount + modeCodedBits (s.attrN .lineMode p)
    (s.setFec p { x with injectCount := total % n }).bump .fecTxInjectedBits p 0 ((total / n : Nat) : Int)

/-- The decoder at the boundary of the present tick: deadlines, retirements, the effective cap, the batch's start, and
the end of an FEC mode change's all-ones (R310, R314, R315, R324, R325). -/
def fecBoundary (p : Nat) (s : State) : State :=
  let t := s.tick.toNat
  let s := hopperTo p (t * 1728) s
  let s := cogRetirement p (deadlineAt p (t * 1728) s)
  let s := s.setAttr .fecIterCapEffective p 0 (effectiveCap s p (s.attr .fecMode p = 1))
  let s := s.setFec p ({ s.fec p with stdCap := (effectiveCap s p false).toNat }.startBatch t (effectiveCap s p false).toNat)
  let x := s.fec p
  let s := if x.cws.any (fun w => !w.low) then hungryAt p (t * 1728) (List.range 96) s
    else if s.attr .fecMode p = 1 then s else s.setFec p { x with idle := [] }
  let x := s.fec p
  let x := { x with
    hitUntil := match x.hitUntil with | some b => if b ≤ t then none else some b | none => none
    beiLast := x.beiNow, beiNow := 0 }
  s.setFec p x

/-! ### The FEC mode (R324) -/

/-- A new FEC mode takes effect at the present boundary. -/
def fecModeChange (p : Nat) (v : Int) (s : State) : State :=
  if s.attr .fecMode p = v then s
  else
    let b := s.tick.toNat
    let x := s.fec p
    let s := s.setFec p { x with hitUntil := some (b + 4), cws := x.cws.map (fun w => { w with hit := true }) }
    let s := (s.setAttr .fecMode p 0 v).bump .fecModeHits p
    let s := s.setAttr .fecLatencyPs p 0 (if v = 1 then 1280000 else 2560000)
    let s := s.setAttr .fecRxLatencyPs p 0 (if v = 1 then 3880000 else 6380000)
    raise 0x0903 p noIndex [(24, 1, v.toNat), (32, 8, b)] s

/-- The all-ones of an FEC mode change ends at boundary b + 4. -/
def fecHitEnd (p : Nat) (s : State) : State :=
  let x := s.fec p
  match x.hitUntil with
  | some b => if b ≤ s.tick.toNat then s.setFec p { x with hitUntil := none } else s
  | none => s

/-! ### Release (R311, R320, R325, R327) -/

/-- The next codeword to be released: the one with the earliest release instant. -/
def Fec.nextRelease (x : Fec) : Option Codeword :=
  x.cws.foldl (fun r w => match r with
    | none => some w
    | some v => if w.release < v.release then some w else some v) none

/-- The checker charges a cog whose codeword it refutes; the third charge in a second retires it (R325). -/
def chargeCog (p cog : Nat) (s : State) : State :=
  let x := s.fec p
  let n := Tab.get 0 x.charges cog + 1
  let x := { x with
    charges := Tab.put 0 x.charges cog n
    retiring := if n = 3 && x.inService cog then Tab.put 0 x.retiring cog (s.tick.toNat + 1) else x.retiring }
  (s.setFec p x).count .fecCogFaults p

/-- The counter a released codeword counts in (R324, R327). -/
def outcomeAttr (w : Codeword) : Attr :=
  match w.status with
  | .clean => .fecCwClean
  | .corrected => .fecCwCorrected
  | .cap => .fecCwUncorrectedCap
  | .late => if w.hit then .fecCwUncorrectedCap else .fecCwLate

/-- The bits of a codeword that a sail carried, and how many of their LLR signs differ from the decoded bits (R265). -/
def Codeword.sailBits (w : Codeword) (sail : Nat) : Nat × Nat :=
  let own := (List.range 9216).filter (fun b => bitSail w.mode (9216 * w.index + b) = sail)
  (own.length, own.countP (fun b => w.signs.getD b false != w.decided.getD b false))

/-- Counts the pre-FEC errors of a codeword that ended at syndrome zero, or excludes it (R265, R328). -/
def countPreFec (p : Nat) (w : Codeword) (s : State) : State :=
  if w.status = .clean || w.status = .corrected then
    let s := (List.range (modeSails w.mode)).foldl (fun (s : State) i =>
      (s.count .mrSailPrefecBits p i (w.sailBits i).1).count .mrSailPrefecErrBits p i (w.sailBits i).2) s
    (s.count .mrPrefecBits p 0 9216).count .mrPrefecErrBits p 0 w.changed
  else s.count .mrPrefecExcludedBits p 0 9216

/-- The checker refutes a codeword that a cog reports as stopped with syndrome zero: the syndrome of the bits handed over is not zero
(R325). Without a wrong bit it is, since the cog stopped there. -/
def Codeword.refuted (w : Codeword) : Bool :=
  (w.status = .clean || w.status = .corrected) && !w.faults.isEmpty && !syndromeZero w.decided

/-- Releases the next codeword whose instant has come, with the bits that its cog hands over wrong: the codeword as released, and the
state after its counts. -/
def releaseCodeword (p now : Nat) (faults : List Nat) (s : State) : Option (Codeword × State) :=
  let x := (s.fec p)
  match x.nextRelease with
  | none => none
  | some w =>
    if now < w.release then none
    else
      let freed := match w.place with | .decode c _ => [c] | _ => []
      let w : Codeword := { (if w.place = .stopped then w else w.expire) with faults := faults }
      let refuted := w.refuted
      let s := hungryAt p now freed (s.setFec p { x with cws := x.cws.filter (fun v => v.id ≠ w.id) })
      let s := if w.status = .late then s.occurs 0x012 p else s
      let s := if refuted then chargeCog p w.cog s else s
      let w := if refuted then { w with status := .cap } else w
      let bad : Bool := w.status = .cap || w.status = .late
      let s := (s.count .fecCwTotal p).count (outcomeAttr w) p
      let s := (s.count .fecIterSum p 0 w.iters).count .fecIterHist p w.iters
      let s := s.countMax .fecIterPeak p 0 w.iters
      let s := if w.status = .corrected then s.count .fecCorrectedBits p 0 w.changed else s
      let s := countPreFec p w s
      let x := s.fec p
      let x := if x.frameNow = w.frame then x else { x with frameNow := w.frame, frameBad := 0, frameSkip := false }
      let late := w.status = .late && !w.hit
      let s := if late then s.setAttr .fecLastLateTick p 0 s.tick.toNat else s
      let s := s.setFec p { x with
        firstLate := if late && x.firstLate.isNone then some s.tick.toNat else x.firstLate
        beiNow := x.beiNow + b01 bad
        frameBad := x.frameBad + b01 bad
        frameSkip := x.frameSkip || w.hit || x.hitUntil.isSome }
      some (w, s)

/-- So many codewords that have reached their release instants are released. -/
def releaseDue (p now : Nat) : Nat → State → State
  | 0, s => s
  | n + 1, s =>
    match releaseCodeword p now [] s with
    | some r => releaseDue p now n r.2
    | none => s

/-- Every codeword of a port that has not reached its release instant by the present boundary is flushed (R328). -/
def flushCodewords (p : Nat) (s : State) : State :=
  let s := releaseDue p (s.now 0) (s.fec p).cws.length (hopperTo p (s.now 0) s)
  let x := s.fec p
  (s.setFec p { x with cws := [], work := [] }).bump .fecCwFlushed p 0 (x.cws.length : Nat)

/-- At a latch: `fec_late` for a second with late releases (Table 8 of 09), and the charges of the second end (R325). -/
def fecLatch (p : Nat) (s : State) : State :=
  let x := s.fec p
  let n := s.attrN .fecCwLate p
  let s := s.setFec p { x with charges := [], firstLate := none }
  if n = 0 then s
  else raise 0x0901 p noIndex [(24, 4, n), (32, 8, x.firstLate.getD 0)] s

end Sys2Proof.Machine
end

