-- ==== Sys2Proof/Machine/Defects.lean ====
section
/-!
DEFINITION. Sys2Proof/Machine/Defects.lean: defects, their suppression and reporting, consequent actions, client ingress
faults and the tick counters of performance monitoring (spec/11), and the release of codewords, which dFECD judges.
-/
namespace Sys2Proof.Machine

/-! ### Suppression (R376, R377) -/

/-- A defect of a lower code than `k`, and of codes 0 to 4, stands in a bitmap. -/
def lowerStands (d k : Nat) : Bool := (List.range (min k 5)).any (bitOf d)

/-- The codes of port defects. -/
def portCodes : List Nat := [0, 1, 2, 3, 4, 8]

/-- `defect.declared` of a port. -/
def declaredOf (s : State) (p : Nat) : Nat := s.attrN .defectDeclared p

/-- A port defect of codes 0 to 4 is declared, which suppresses the defects of the port's slots and their groups. -/
def portBlocks (s : State) (p : Nat) : Bool := lowerStands (declaredOf s p) 5

/-- The reported port defects: those with no lower code declared. -/
def portReported (s : State) (p : Nat) : Nat :=
  let d := declaredOf s p
  maskOf (portCodes.filter (fun k => bitOf d k && !lowerStands d k))

/-- A slot defect (5 or 7) is suppressed. -/
def slotBlocked (s : State) (p i k : Nat) : Bool :=
  portBlocks s p || (k = 7 && bitOf (s.attrN .slotDefect p i) 5)

/-- The reported defects of a slot. -/
def slotReportedNow (s : State) (p i : Nat) : Nat :=
  maskOf ([5, 7].filter (fun k => bitOf (s.attrN .slotDefect p i) k && !slotBlocked s p i k))

/-- dGSKEW of a group is suppressed: by a port or by dAIS of a member slot. -/
def groupBlocked (s : State) (x : Group) : Bool :=
  x.rx.any (fun m => portBlocks s (memberPort m) || bitOf (s.attrN .slotDefect (memberPort m) (memberSlot m)) 5)

/-- The reported defects of a group. -/
def groupReportedNow (s : State) (g : Nat) (x : Group) : Nat :=
  if bitOf (s.attrN .grpDefect g) 6 && !groupBlocked s x then 64 else 0

/-! ### Consequent actions (R379, R381, R382, R385) -/

/-- The forced output of minimal state, coasting and power-down acts. -/
def forcedOutput (s : State) : Bool := s.power.phase ≠ .active || s.attr .clockPllCoast = 1

/-- The replace sources that count: all, or those that do not derive from a frame's overhead (R321, R381). -/
inductive Sources where
  | all | noOverhead
deriving DecidableEq, Repr

/-- The codes of the port defects and of the slot defects that sources take in. -/
def Sources.portMask : Sources → Nat
  | .all => 0x11F
  | .noOverhead => 0x013
def Sources.slotMask : Sources → Nat
  | .all => 0xA0
  | .noOverhead => 0x20

/-- A reported port defect acts: codes 0 to 3 always, dFECD and dTIM when enabled. -/
def portActs (s : State) (p : Nat) (w : Sources := .all) : Bool :=
  let r := s.attrN .defectReported p
  let acts := 15 + (if s.attr .defectFecdAction p = 1 then 16 else 0) + (if s.attr .defectTimAction p = 1 then 256 else 0)
  r &&& acts &&& w.portMask ≠ 0

/-- Every slot of the port is replaced: forced output, port hold, the all-ones of an FEC mode change, an acting defect. -/
def portReplaced (s : State) (p : Nat) (w : Sources := .all) : Bool :=
  forcedOutput s || (s.line p).frozen || (s.fec p).hitUntil.isSome || portActs s p w

/-- An acting defect has a group in its scope (Table 4 of 11): its own dGSKEW, or one of a member slot or of a member's port. -/
def groupActs (s : State) (g : Nat) (x : Group) (w : Sources := .all) : Bool :=
  bitOf (s.attrN .grpDefectReported g) 6 ||
    x.rx.any (fun m => portActs s (memberPort m) w ||
      s.attrN .slotDefectReported (memberPort m) (memberSlot m) &&& w.slotMask ≠ 0)

/-- A group is under line-to-client action: an acting defect, the hold of a member's port, or the forced output (R210, R379; log entry
97). -/
def groupL2c (s : State) (g : Nat) (x : Group) : Bool :=
  groupActs s g x || forcedOutput s || x.rx.any (fun m => (s.line (memberPort m)).frozen)

/-- Every member slot of the group is replaced: an acting defect, or a stopped l2c gate (R155, R379). -/
def groupReplaced (s : State) (g : Nat) (x : Group) (w : Sources := .all) : Bool :=
  groupActs s g x w || !s.gates.grpL2c.contains g

/-- The slots of a port that are replaced. -/
def replacedSlots (s : State) (p : Nat) (w : Sources := .all) : List Nat :=
  if portReplaced s p w then List.range (rxSlots s p)
  else (groupList s).foldl (fun l e =>
    if groupReplaced s e.1 e.2 w then nsUnion l ((e.2.rx.filter (fun m => memberPort m = p)).map memberSlot) else l) []

/-- A channel is under client-to-line action: its fault source has a declared client ingress fault (R385). -/
def channelC2l (s : State) (c : Nat) : Bool :=
  let l := s.attrN .chFaultSource c
  l ≠ 0xFF && (s.cif l).declared

/-- A group is under client-to-line action. -/
def groupC2l (s : State) (g : Nat) : Bool := (channelsOf s g).any (channelC2l s)

/-- A channel is under line-to-client action: a group that carries it is. -/
def channelL2c (s : State) (c : Nat) : Bool :=
  let g := s.attrN .chGroup c
  match s.groupNow g with | some x => groupL2c s g x | none => false

/-- An interface sends the local-fault sequence (R172, R382): it is forced, or a channel with `lf_on_action` under action leaves through it, or
every channel that leaves through it is under action. -/
def localFault (s : State) (l : Nat) : Bool :=
  let cs := channelsAt s l
  (forcedOutput s && ifConfigured s l) || cs.any (fun c => channelL2c s c && s.attr .chLfOnAction c = 1) || (!cs.isEmpty && cs.all (channelL2c s))

/-! ### Reporting -/

/-- Raises a defect event (Table 9 of 11): category, index, code of the event, defect, object. -/
def defectEvent (cat index ev k obj : Nat) (s : State) : State :=
  raise ev cat index [(24, 1, k), (25, 1, obj), tickFld s 32] s

/-- The events and entry counts as one object's reported bits go from `old` to `new` (R377, R387). -/
def reportChange (codes : List Nat) (old new declared : Nat) (blocked : Nat → Bool) (cat index obj : Nat)
    (entry : Nat → State → State) (s : State) : State :=
  codes.foldl (fun s k =>
    if bitOf new k && !bitOf old k then entry k (defectEvent cat index 0x0B01 k obj s)
    else if bitOf old k && !bitOf new k && !bitOf declared k && !blocked k then defectEvent cat index 0x0B02 k obj s
    else s) s

/-- Brings `defect.reported` of a port up to date; frozen states raise nothing (R375). -/
def settlePort (s : State) (p : Nat) : State :=
  if (s.line p).frozen then s
  else
    let old := s.attrN .defectReported p
    let new := portReported s p
    let d := declaredOf s p
    reportChange portCodes old new d (lowerStands d) p noIndex 0 (fun k s => s.count .linePmDefectEntries p k)
      (s.setAttr .defectReported p 0 new)

/-- The defects of a slot vanish without an event (R372, R391). -/
def vanishSlot (s : State) (m : Nat) : State :=
  let p := memberPort m
  let i := memberSlot m
  let x := s.line p
  let s := s.setLine p { x with slots := Tab.upd {} x.slots i (fun r => { r with aisIn := 0, aisOut := 0 }) }
  (s.setAttr .slotDefect p i 0).setAttr .slotDefectReported p i 0

/-- Brings the reported defects of a slot up to date; a slot the mode took away has none (R391). -/
def settleSlot (s : State) (m : Nat) : State :=
  let p := memberPort m
  let i := memberSlot m
  if (s.line p).frozen then s
  else if rxSlots s p ≤ i then vanishSlot s m
  else
    let old := s.attrN .slotDefectReported p i
    let new := slotReportedNow s p i
    reportChange [5, 7] old new (s.attrN .slotDefect p i) (slotBlocked s p i) p i 1
      (fun k s => if k = 5 then s.count .slotPmAisEntries p i else s) (s.setAttr .slotDefectReported p i new)

/-- Brings the reported defects of a group up to date. -/
def settleGroup (s : State) (e : Nat × Group) : State :=
  let old := s.attrN .grpDefectReported e.1
  let new := groupReportedNow s e.1 e.2
  reportChange [6] old new (s.attrN .grpDefect e.1) (fun _ => groupBlocked s e.2) 2 e.1 2
    (fun _ s => s.count .grpPmGskewEntries e.1) (s.setAttr .grpDefectReported e.1 0 new)

/-- Nothing has held yet in the tick that begins (R387). -/
def clearTick (s : State) : State :=
  let s := [0, 1].foldl (fun (s : State) (p : Nat) =>
    s.setLine p { s.line p with tickReported := 0, slotTick := [], replacedTick := [] }) s
  let s := (groupList s).foldl (fun s e =>
    s.updGroup e.1 (fun x => { x with tickReported := false, tickL2c := false, tickC2l := false })) s
  s.chans.foldl (fun s e => s.setChan e.1 { e.2 with tickL2c := false, tickC2l := false }) s

/-- Notes for the tick counters what holds at this instant (R387). -/
def noteTick (s : State) : State :=
  let s := [0, 1].foldl (fun s p =>
    let x := s.line p
    s.setLine p { x with
      tickReported := if x.frozen then x.tickReported else x.tickReported ||| s.attrN .defectReported p
      replacedTick := nsUnion x.replacedTick (replacedSlots s p) }) s
  let s := (groupList s).foldl (fun s e =>
    let s := e.2.rx.foldl (fun s m =>
      let x := s.line (memberPort m)
      let r := s.attrN .slotDefectReported (memberPort m) (memberSlot m)
      if x.frozen || r = 0 then s
      else s.setLine (memberPort m) { x with slotTick := Tab.upd 0 x.slotTick (memberSlot m) (fun v => v ||| r) }) s
    let act := groupL2c s e.1 e.2
    let c2l := groupC2l s e.1
    let s := s.updGroup e.1 (fun x => { x with
      tickReported := x.tickReported || bitOf (s.attrN .grpDefectReported e.1) 6
      tickL2c := x.tickL2c || act
      tickC2l := x.tickC2l || c2l })
    if act then
      (channelsOf s e.1).foldl (fun s c => s.setChan c { s.chan c with tickL2c := true }) s
    else s) s
  (s.cifs.filter (fun e => e.2.declared)).foldl (fun s e =>
    (indicesWith s .chFaultSource e.1).foldl (fun s c => s.setChan c { s.chan c with tickC2l := true }) s) s

/-- The transmitters of an interface send: their rail VDD_SER is up (R59; row 4 of Table 5 of 02), and it is not dormant (R445). -/
def egressLit (s : State) (l : Nat) : Bool := ifConfigured s l && s.power.railsUp.contains 4 && laneState s l ≠ 1

/-- An interface begins or ends to send the local-fault sequence (R380, R382). One whose transmitters send nothing ends it unseen. -/
def settleEgress (s : State) (l : Nat) : State :=
  let on := egressLit s l && localFault s l
  if (s.cif l).lf = on then s
  else
    let s := s.setCif l { s.cif l with lf := on }
    if egressLit s l then s.emit (.localFault l on s.tick) else s

/-- The sluices force local fault on every client egress until the lane transmitters lose their rails, and its PCS with them (R56, R60, R64,
R71, R172). -/
def forceEgress (s : State) : State :=
  let s := (List.range 64).foldl (fun s l =>
    if egressLit s l && !(s.cif l).lf then s.emit (.localFault l true s.tick) else s) s
  { s with cifs := Tab.mapVals {} s.cifs (fun _ x => { x with lf := false, blocks := [], flows := [] }) }

/-- Every change of declared states at one instant is in place: suppression is resolved for ports, slots and groups, events and counts
follow, and the egress sluices act (R376, R377, R380). -/
def settle (s : State) : State :=
  let s := [0, 1].foldl settlePort s
  let s := (groupList s).foldl (fun s e => e.2.rx.foldl settleSlot s) s
  let s := (groupList s).foldl settleGroup s
  noteTick ((List.range 64).foldl settleEgress s)

/-! ### Declaring and clearing -/

/-- Sets or clears a declared port defect. -/
def declarePort (p k : Nat) (on : Bool) (s : State) : State :=
  let d := declaredOf s p
  s.setAttr .defectDeclared p 0 ((if on then d ||| 2 ^ k else d - (d &&& 2 ^ k) : Nat) : Int)

/-- Sets or clears a declared slot defect. -/
def declareSlot (p i k : Nat) (on : Bool) (s : State) : State :=
  let d := s.attrN .slotDefect p i
  s.setAttr .slotDefect p i ((if on then d ||| 2 ^ k else d - (d &&& 2 ^ k) : Nat) : Int)

/-- dTIM (Table 3, R375): judged on the accepted TTI once one was accepted. -/
def timJudge (p : Nat) (s : State) : State :=
  if (s.line p).frozen then s
  else if s.attr .defectTimMode p = 0 then declarePort p 8 false s
  else if !(s.line p).ttiOk then s
  else declarePort p 8 (s.attr .alfTtiRx p ≠ s.attr .alfTtiExpected p) s

/-- A run grows while its evidence holds. -/
def runNext (on : Bool) (n : Nat) : Nat := if on then n + 1 else 0

/-- The receive direction of a port is out of service (R375). -/
def rxOut (s : State) (p : Nat) : Bool :=
  !(s.conv p).rxIn || s.attr .featherState p ≠ 0 || s.power.portReset = some p

/-- Freezes the defect states of a port, or takes the declared states of R375 on its return. -/
def freezeBoundary (p : Nat) (s : State) : State :=
  let x := s.line p
  if rxOut s p then
    if x.frozen then s else s.setLine p { x with frozen := true, runs := {} }
  else if x.frozen then
    let s := s.setLine p { x with frozen := false, runs := {}, mfasRef := none }
    s.setAttr .defectDeclared p 0 ((declaredOf s p ||| 15 : Nat) : Int)
  else s

/-- dLOF and dLOMF clear where their exit criteria are met, though not while dLOL stands (R373). -/
def alignedExit (p : Nat) (s : State) : State :=
  let r := (s.line p).runs
  if bitOf (declaredOf s p) 1 then s
  else
    let s := if 2 ≤ r.lofOut then declarePort p 2 false s else s
    if 2 ≤ r.lomfOut then declarePort p 3 false s else s

/-- dLOS, dLOL, the exits that waited for it, and dTIM at the boundary after a tick (Table 3, R373). -/
def defectBoundary (p : Nat) (s : State) : State :=
  let x := s.line p
  if x.frozen then s
  else
    let r := x.runs
    let los : Bool := s.attr .mrLosRaw p = 1
    let lol : Bool := s.attr .mrLolRaw p = 1
    let in8 : Bool := s.attr .mrState p = 8
    let r := { r with
      losIn := runNext los r.losIn, losOut := runNext (!los) r.losOut
      lolIn := runNext lol r.lolIn, lolOut := runNext (!lol && in8) r.lolOut }
    let s := s.setLine p { x with runs := r }
    let s := if s.attr .defectLosEntryTicks p ≤ r.losIn then declarePort p 0 true s
      else if s.attr .defectLosExitTicks p ≤ r.losOut then declarePort p 0 false s else s
    let s := if s.attr .defectLolEntryTicks p ≤ r.lolIn then declarePort p 1 true s
      else if s.attr .defectLolExitTicks p ≤ r.lolOut then declarePort p 1 false s else s
    timJudge p (alignedExit p s)

/-- dFECD at the end of a frame's codewords (Table 3, Table 7 of 11): the frame counts unless an FEC mode change skips it.
Where both criteria hold, the exit does (DESIGN CHOICE, log entry 152). -/
def fecdFrame (p : Nat) (s : State) : State :=
  let f := s.fec p
  let s := s.setFec p { f with frameBad := 0, frameSkip := false }
  let x := s.line p
  if f.frameSkip || x.frozen then s
  else
    let r := x.runs
    let n := r.frames + 1
    let w := if f.frameBad = 0 then r.window else r.window ++ [(n, f.frameBad)]
    let w := w.filter (fun e => decide (n < e.1 + 65535))
    let latest := w.filter (fun e => decide (n < e.1 + s.attrN .defectFecdWindowTicks p))
    let clean := runNext (f.frameBad = 0) r.clean
    let s := s.setLine p { x with runs := { r with frames := n, window := w, clean := clean } }
    if s.attrN .defectFecdExitTicks p ≤ clean then declarePort p 4 false s
    else if s.attrN .defectFecdThreshold p ≤ (latest.map (·.2)).sum then declarePort p 4 true s
    else s

/-- FEC_MODE_CHANGE (R324): a mode written before the present boundary takes effect at it. -/
def execFecModeChange (port : Fin 2) (s : State) : Host.Outcome State Fault Refusal :=
  let k := Attr.key .fecMode port 0
  .next (if s.clk.ticking && s.isDue k && s.written.any (fun e => e.1 = k) then
    let v := Tab.get (s.attr .fecMode port) s.written k
    settle (fecModeChange port v { s with written := Tab.erase s.written k })
    else s)

/-- FEC_MODE_HIT_END (R324). -/
def execFecModeHitEnd (port : Fin 2) (s : State) : Host.Outcome State Fault Refusal := .next (settle (fecHitEnd port s))

/-! ### Client ingress faults (R384) -/

/-- One interface at a boundary: whether it reported a fault at any time, and for the whole, of the tick that ends. -/
def cifBoundary (l : Nat) (anyTime whole : Bool) (s : State) : State :=
  let x := s.cif l
  let say := fun (on : Nat) (s : State) => raise 0x0B03 2 l [(24, 1, on), tickFld s 32] s
  if !x.declared && whole then say 1 (s.setCif l { x with declared := true, clear := 0 })
  else
    let n := runNext (!anyTime) x.clear
    if x.declared && s.attrN .clientCifExitTicks ≤ n then say 0 (s.setCif l { x with declared := false, clear := 0 })
    else if x.declared then s.setCif l { x with clear := n }
    else s

/-! ### Tick counters (R387) -/

/-- What the frame of the next tick carries back to the far end: the states at the end of this one (Table 5 of 11, step 6; DEDUCED, log entry
183). -/
def noteBack (s : State) : State :=
  [0, 1].foldl (fun s p => s.setLine p { s.line p with
    backDefect := (List.range 4).any (bitOf (declaredOf s p)), backSlots := replacedSlots s p }) s

/-- Counts what held in the tick that ends, and begins the next. -/
def tickCounts (s : State) : State :=
  let s := [0, 1].foldl (fun (s : State) (p : Nat) =>
    let x := s.line p
    let s := portCodes.foldl (fun s k => if bitOf x.tickReported k then s.count .linePmDefectTicks p k else s) s
    let s := if s.attr .alfBdiRx p = 1 then s.count .linePmBdiRxTicks p else s
    let s := if x.replacedTick.isEmpty then s else s.count .linePmReplacedTicks p
    let s := x.replacedTick.foldl (fun s i => s.count .slotPmReplacedTicks p i) s
    let s := x.slotTick.foldl (fun s e =>
      let s := if bitOf e.2 5 then s.count .slotPmAisTicks p e.1 else s
      if bitOf e.2 7 then s.count .slotPmPlmTicks p e.1 else s) s
    s.setLine p { s.line p with tickReported := 0, slotTick := [], replacedTick := [] }) s
  let s := (groupList s).foldl (fun s e =>
    let s := if e.2.tickReported then s.count .grpPmGskewTicks e.1 else s
    let s := if e.2.tickL2c then s.count .grpPmL2cActionTicks e.1 else s
    let s := if e.2.tickC2l then s.count .grpPmC2lActionTicks e.1 else s
    s.updGroup e.1 (fun x => { x with tickReported := false, tickL2c := false, tickC2l := false })) s
  s.chans.foldl (fun s e =>
    let x := e.2
    let s := if x.tickL2c then s.count .chPmL2cActionTicks e.1 else s
    let s := if x.tickC2l then s.count .chPmC2lActionTicks e.1 else s
    let s := if x.shed.isSome then s.count .chPmShedTicks e.1 else s
    let s := if x.brokenTick then s.count .chPmBrokenTicks e.1 else s
    s.setChan e.1 { x with
      tickL2c := false, tickC2l := false, brokenTick := false
      episode := x.episode + b01 (x.shed.isSome || x.brokenTick) }) s

end Sys2Proof.Machine
end

