-- ==== Sys2Proof/Machine/Stream.lean ====
section
/-!
DEFINITION. Sys2Proof/Machine/Stream.lean: the byte stream of a group: encapsulation units, the stretches that the receiver has demapped,
and their delineation (R402 to R404 of spec/12).
-/
namespace Sys2Proof.Machine

/-! ### Encapsulation units (R403, Table 1 of 12) -/

/-- The header of a unit: type, client channel, length, and whether a cipher header begins the packet. -/
def encHeader (type chan len : Nat) (crypt : Bool) : List Byte :=
  let h := leBytes 2 (type * 4096 + chan) ++ leBytes 2 len ++ leBytes 1 (b01 crypt) ++ [0, 0]
  h ++ [BitVec.ofNat 8 (crc8 h)]

/-- The fields of a header. -/
def encType (h : List Byte) : Nat := fieldAt h 0 2 / 4096
def encChannel (h : List Byte) : Nat := fieldAt h 0 2 % 4096
def encLength (h : List Byte) : Nat := fieldAt h 2 2
def encCrypt (h : List Byte) : Bool := bitOf (fieldAt h 4 1) 0

/-- The header's check word holds. -/
def encHecOk (h : List Byte) : Bool := crc8 (bytesAt h 0 7) = fieldAt h 7 1

/-- A header is valid: its check word holds and its type is packet or idle (R404). -/
def encValid (h : List Byte) : Bool := encHecOk h && decide (encType h ≤ 1)

/-- The bytes that follow a header in its unit, which predict where the next header stands. A header that is no packet's, or whose length
no packet has, is followed by the next at once (DESIGN CHOICE, log entry 148). -/
def unitBody (h : List Byte) : Nat :=
  let n := encLength h
  if encType h ≠ 0 && decide (64 ≤ n) && decide (n ≤ 9728) then n else 0

/-! ### Stretches of a received stream -/

/-- Segments past their first `n` bytes. -/
def dropSegs : Nat → List Seg → List Seg
  | _, [] => []
  | n, g :: t => if g.len ≤ n then dropSegs (n - g.len) t else { g with start := g.start + n, len := g.len - n } :: t

/-- A stretch past its first `n` bytes. -/
def Chunk.drop (n : Nat) (c : Chunk) : Chunk := { c with bytes := c.bytes.drop n, segs := dropSegs n c.segs }

/-- A byte joins a stretch: byte `q` of a frame's group stream. -/
def Chunk.add (pl : StreamPlace) (q : Nat) (b : Byte) (c : Chunk) : Chunk :=
  let segs := match c.segs.getLast? with
    | some g =>
      if g.place = pl && g.start + g.len = q then c.segs.dropLast ++ [{ g with len := g.len + 1 }] else c.segs ++ [⟨q, 1, pl⟩]
    | none => [⟨q, 1, pl⟩]
  { c with bytes := c.bytes ++ [b], segs := segs }

/-- The first unit of a stretch, once all of it is there: header and packet. -/
def Chunk.unit? (c : Chunk) : Option (List Byte × List Byte) :=
  let h := c.bytes.take 8
  let n := unitBody h
  if 8 + n ≤ c.bytes.length then some (h, (c.bytes.drop 8).take n) else none

/-- The stream breaks: what follows joins no unit begun before, and delineation starts anew after it (R404). -/
def Group.breakStream (x : Group) : Group :=
  if x.rxq.isEmpty then { x with locked := false, hunt := 0, bad := 0 }
  else { x with rxq := x.rxq.map (fun c => { c with closed := true }) }

/-- A demapped byte joins the stream. -/
def Group.pushByte (pl : StreamPlace) (q : Nat) (b : Byte) (x : Group) : Group :=
  let new := { x with rxq := x.rxq ++ [({} : Chunk).add pl q b] }
  match x.rxq.getLast? with
  | some c => if c.closed then new else { x with rxq := x.rxq.dropLast ++ [c.add pl q b] }
  | none => new

/-- Demapped bytes from byte `q` on, each with whether the sluice has replaced it: a replaced byte breaks the stream and is not
delivered. The number counts those. -/
def Group.feed (pl : StreamPlace) : Nat → List (Byte × Bool) → Group → Nat × Group
  | _, [], x => (0, x)
  | q, (b, replaced) :: t, x =>
    if replaced then
      let r := Group.feed pl (q + 1) t x.breakStream
      (r.1 + 1, r.2)
    else Group.feed pl (q + 1) t (x.pushByte pl q b)

/-! ### Delineation (R404) -/

/-- How many bytes a receiver that hunts passes over: up to the first valid header, or all that can begin none. -/
def hunted : List Byte → Nat
  | [] => 0
  | b :: t => if t.length < 7 || encValid ((b :: t).take 8) then 0 else 1 + hunted t

/-- What delineation passes over before the next unit: bytes without a header, and the rest of a stretch after its last whole unit. The
number counts the bytes. -/
def tidyFrom : List Chunk → Group → Nat × Group
  | [], x => (0, { x with rxq := [] })
  | c :: t, x =>
    let o := if x.locked then 0 else hunted c.bytes
    let x := if o = 0 then x else { x with hunt := 0, skipped := x.skipped + o }
    let c := c.drop o
    if c.closed && c.unit?.isNone then
      let n := c.bytes.length
      let r := tidyFrom t { x with locked := false, hunt := 0, bad := 0, skipped := x.skipped + n }
      (o + n + r.1, r.2)
    else (o, { x with rxq := c :: t })

/-- The next unit of a stream: header, packet, the byte of its frame's group stream at which the header begins, and its place. -/
def Group.nextUnit (x : Group) : Option (List Byte × List Byte × Nat × StreamPlace) :=
  match x.rxq with
  | [] => none
  | c :: _ =>
    match c.unit?, c.segs with
    | some u, g :: _ => some (u.1, u.2, g.start, g.place)
    | _, _ => none

/-- So many bytes of the first stretch have been delineated. -/
def Group.passBytes (n : Nat) (x : Group) : Group :=
  match x.rxq with
  | [] => x
  | c :: t => { x with rxq := c.drop n :: t, skipped := 0 }

/-- What a header at the predicted position, or one found while hunting, does to delineation (R404): the group's new record, and
whether the unit is delineated. -/
def delineate (x : Group) (h : List Byte) : Group × Bool :=
  if x.locked then
    if encHecOk h then ({ x with bad := 0 }, encValid h)
    else if x.bad + 1 = 3 then ({ x with locked := false, hunt := 0, bad := 0 }, false)
    else ({ x with bad := x.bad + 1 }, false)
  else if encValid h then
    if x.hunt + 1 = 3 then ({ x with locked := true, hunt := 0, bad := 0 }, true) else ({ x with hunt := x.hunt + 1 }, false)
  else ({ x with hunt := 0 }, false)

end Sys2Proof.Machine
end

