-- ==== Sys2Proof/Machine/Groups.lean ====
section
/-!
DEFINITION. Sys2Proof/Machine/Groups.lean: concatenated groups, their re-sizing and adoption, service classes, shedding and
the scheduler (spec/12).
-/
namespace Sys2Proof.Machine

/-! ### Guarantees (R415, R420 to R424) -/

/-- The committed rate of a channel in Mb/s; class 4 counts as 0 (Table 3). -/
def committedMbps (s : State) (c : Nat) : Nat := if s.attr .chClass c = 4 then 0 else s.attrN .chCommittedMbps c

/-- A channel's place in the shed order, lowest precedence highest (R420). -/
def shedKey (s : State) (c : Nat) : Nat := (s.attrN .chClass c * 256 + s.attrN .chTieRank c) * 65536 + c

/-- The channels of a group that hold a guarantee, highest precedence first. -/
def guaranteed (s : State) (g : Nat) : List Nat :=
  ((channelsOf s g).foldl (fun l c => if s.attr .chClass c = 4 then l else nsIns l (shedKey s c)) []).map (· % 65536)

/-- Capacity of so many members in Mb/s (R401). -/
def capacityMbps (m : Nat) : Nat := m * 25000

/-- The shed channels that come back, from the highest precedence, while the total stays within the capacity. -/
def restoreFit (s : State) (cap : Nat) : List Nat → Nat → List Nat
  | [], _ => []
  | c :: t, tot =>
    if tot + committedMbps s c ≤ cap then c :: restoreFit s cap t (tot + committedMbps s c) else []

/-- The channels that are shed, from the lowest precedence, until the total fits. -/
def shedFit (s : State) (cap : Nat) : List Nat → Nat → List Nat
  | [], _ => []
  | c :: t, tot => if tot ≤ cap then [] else c :: shedFit s cap t (tot - committedMbps s c)

/-- The sum of committed rates. -/
def sumCommitted (s : State) (l : List Nat) : Nat := (l.map (committedMbps s)).sum

/-- `guarantee_broken` (Table 9). -/
def brokenEvent (g cap cause n : Nat) (c : Nat) (s : State) : State :=
  raise 0x0C01 2 c [(24, 1, cause), (25, 1, s.attrN .chClass c), (26, 2, g), (28, 4, cap), tickFld s 32, (40, 4, n)] s

/-- `guarantee_restored` (Table 9); the episode ends, unless the channel stays shed. -/
def restoredEvent (g cause : Nat) (c : Nat) (s : State) : State :=
  let x := s.chan c
  let s := raise 0x0C02 2 c [(24, 1, cause), (26, 2, g), (28, 4, x.episode), tickFld s 32] s
  s.setChan c { s.chan c with episode := if (s.chan c).shed.isSome then x.episode else 0 }

/-- Shedding and restoration of a group at a change of capacity (R421, R424). -/
def evalShedding (g cap cause : Nat) (s : State) : State :=
  let all := guaranteed s g
  let shed := all.filter (fun c => (s.chan c).shed.isSome)
  let back := restoreFit s cap shed (sumCommitted s (nsDiff all shed))
  let s := back.foldl (fun s c =>
    let x := s.chan c
    let s := (s.setChan c { x with shed := none, credit := 0, creditOut := 0 }).setAttr .chGuarantee c 0
      (if x.broken.isSome then 2 else 0)
    restoredEvent g (x.shed.getD 0) c s) s
  let live := all.filter (fun c => (s.chan c).shed.isNone)
  let out := shedFit s cap live.reverse (sumCommitted s live)
  out.foldl (fun s c =>
    let s := (s.setChan c { s.chan c with shed := some cause }).setAttr .chGuarantee c 0 1
    brokenEvent g cap cause out.length c s) s

/-- A per-tick break of R422: it counts for the tick, and the first of a second raises the event. -/
def breakGuarantee (c cause : Nat) (s : State) : State :=
  let x := s.chan c
  let g := s.attrN .chGroup c
  if s.attr .chClass c = 4 || x.shed.isSome then s
  else
    let s := s.setChan c { x with brokenTick := true, broken := some cause }
    if x.broken.isSome then s
    else
      let cap := match s.group g with | some y => capacityMbps y.tx.length | none => 0
      brokenEvent g cap cause 0 c (s.setAttr .chGuarantee c 0 2)

/-- At a latch: a channel whose second before held a break and whose present one held none is restored (R424). -/
def guaranteeLatch (s : State) : State :=
  s.chans.foldl (fun s e =>
    let c := e.1
    let x := s.chan c
    let s := match x.lastBroken, x.broken with
      | some cause, none => restoredEvent (s.attrN .chGroup c) cause c s
      | _, _ => s
    let s := if x.shed.isNone then s.setAttr .chGuarantee c 0 0 else s
    s.setChan c { s.chan c with lastBroken := x.broken, broken := none }) s

/-! ### The scheduler (R417, R418) -/

/-- The size of a packet's encapsulation unit (R403). -/
def Pkt.unit (k : Pkt) : Nat := k.bytes.length + 8

/-- Where a packet leaves: into a group's stream, or by an interface. -/
inductive Way where
  | map (g : Nat)
  | egress (l : Nat)
deriving DecidableEq, Repr

/-- Packets that wait for a way, in order of arrival. -/
def waiting (s : State) : Way → List Pkt
  | .map g => s.mapq.filter (fun k => s.attrN .chGroup k.chan = g)
  | .egress l => s.egressq.filter (fun k => s.attrN .chEgressIf k.chan = l)

/-- A packet leaves its queue. -/
def dequeue (w : Way) (k : Pkt) (s : State) : State :=
  match w with
  | .map _ => { s with mapq := s.mapq.filter (fun j => j.id ≠ k.id) }
  | .egress _ => { s with egressq := s.egressq.filter (fun j => j.id ≠ k.id) }

/-- The scheduler record of a way. -/
def schedOf (s : State) : Way → Sched
  | .map g => match s.group g with | some x => x.map | none => {}
  | .egress l => (s.cif l).egress

/-- Replaces it. -/
def setSched (w : Way) (x : Sched) (s : State) : State :=
  match w with
  | .map g => s.updGroup g (fun y => { y with map := x })
  | .egress l => s.setCif l { s.cif l with egress := x }

/-- The step of R417 in which a channel's packets are taken. -/
def stepOf (s : State) (c : Nat) : Nat :=
  if (s.chan c).shed.isSome then 4 else match s.attrN .chClass c with | 1 => 1 | 2 => 2 | 3 => 3 | _ => 4

/-- The credit of a channel on a way, in 1/1,024 byte. -/
def creditOf (s : State) (w : Way) (c : Nat) : Nat :=
  match w with | .map _ => (s.chan c).credit | .egress _ => (s.chan c).creditOut

/-- Takes a unit from the credit. -/
def spend (w : Way) (c n : Nat) (s : State) : State :=
  let x := s.chan c
  match w with
  | .map _ => s.setChan c { x with credit := x.credit - 1024 * n }
  | .egress _ => s.setChan c { x with creditOut := x.creditOut - 1024 * n }

/-- The bytes a packet takes of the room: its unit in a group's stream; on Ethernet the packet with the 20 bytes of
preamble and gap. -/
def roomOf (w : Way) (k : Pkt) : Nat := match w with | .map _ => k.unit | .egress _ => k.bytes.length + 20

/-- A mapped packet is late (R418): class 1 or 2, and its header falls more than the bound after its ingress tick. -/
def isLate (s : State) (k : Pkt) : Bool :=
  decide (s.attr .chClass k.chan ≤ 2) && decide (k.tick + s.attrN .chLatencyBoundTicks k.chan < s.tick.toNat)

/-- One packet is taken: it leaves its queue; a late one is counted, and discarded if `late_action` is 1 (R418). `put`
carries the packet out, given the room left before it. The number is the room left. -/
def takePkt (w : Way) (put : Int → Pkt → State → State) (k : Pkt) (r : Int × State) : Int × State :=
  let s := dequeue w k r.2
  let late := match w with | .map _ => isLate s k | .egress _ => false
  let s := if late then breakGuarantee k.chan 5 (s.count .chPmLatePackets k.chan) else s
  if late && s.attr .chLateAction k.chan = 1 then (r.1, stampDiscard k s)
  else (r.1 - (roomOf w k : Nat), put r.1 k (spend w k.chan k.unit s))

/-- Takes a channel's packets in order while there is room, and, when `lim`, while they are within the credit. -/
def serveList (w : Way) (put : Int → Pkt → State → State) (lim : Bool) : List Pkt → Int × State → Int × State
  | [], r => r
  | k :: t, r =>
    if r.1 ≤ 0 || (lim && decide (creditOf r.2 w k.chan < 1024 * k.unit)) then r
    else serveList w put lim t (takePkt w put k r)

/-- The channels that have packets of a step waiting, in rising order. -/
def stepChannels (s : State) (w : Way) (step : Nat) : List Nat :=
  (waiting s w).foldl (fun l k => if stepOf s k.chan = step then nsIns l k.chan else l) []

/-- One of the steps 1 to 3. -/
def serveStep (w : Way) (put : Int → Pkt → State → State) (step : Nat) (r : Int × State) : Int × State :=
  (stepChannels r.2 w step).foldl (fun r c =>
    serveList w put (decide (step ≠ 1)) ((waiting r.2 w).filter (fun k => k.chan = c)) r) r

/-- Takes a channel's packets within its deficit. -/
def drrList (w : Way) (put : Int → Pkt → State → State) : List Pkt → Nat → Int × State → Nat × (Int × State)
  | [], _, r => (0, r)
  | k :: t, d, r =>
    if r.1 ≤ 0 || decide (d < k.unit) then (d, r) else drrList w put t (d - k.unit) (takePkt w put k r)

/-- One visit of deficit round-robin: the quantum of 9,736 bytes comes once in a round. -/
def drrVisit (w : Way) (put : Int → Pkt → State → State) (r : Int × State) (c : Nat) : Int × State :=
  if r.1 ≤ 0 then r
  else
    let x := schedOf r.2 w
    let quantum := if x.round.contains c then 0 else 9736
    let q := drrList w put ((waiting r.2 w).filter (fun k => k.chan = c)) (Tab.get 0 x.deficit c + quantum) r
    let x := schedOf q.2.2 w
    (q.2.1, setSched w { x with deficit := Tab.put 0 x.deficit c q.1, round := nsIns x.round c } q.2.2)

/-- Rounds of deficit round-robin over the channels that have packets left, in rising index order. A round that a tick cuts short goes on in
the next one, again in that order (log entry 115). -/
def drrRounds (w : Way) (put : Int → Pkt → State → State) : Nat → Int × State → Int × State
  | 0, r => r
  | n + 1, r =>
    let l := (waiting r.2 w).foldl (fun l k => nsIns l k.chan) []
    if r.1 ≤ 0 || l.isEmpty then r
    else
      let r := l.foldl (drrVisit w put) r
      if r.1 ≤ 0 then r else drrRounds w put n (r.1, setSched w { schedOf r.2 w with round := [] } r.2)

/-- One tick of a way with so many bytes of room (R417). A unit begun is completed in the ticks that follow (R403). -/
def schedule (w : Way) (room : Nat) (put : Int → Pkt → State → State) (s : State) : State :=
  let x := schedOf s w
  let free : Int := (room : Int) - (x.carry : Int)
  if free ≤ 0 then setSched w { x with carry := x.carry - room } s
  else
    let s := setSched w { x with carry := 0 } s
    let r := serveStep w put 3 (serveStep w put 2 (serveStep w put 1 (free, s)))
    let r := drrRounds w put ((waiting r.2 w).length + 1) r
    setSched w { schedOf r.2 w with carry := (-r.1).toNat } r.2

/-- Credits of unshed channels of classes 1 to 3 grow by the committed rate (R417). -/
def growCredits (s : State) : State :=
  (s.attrs.filterMap (fun e =>
    if e.1 / 4294967296 = Attr.chCommittedMbps.ctorIdx then some (e.1 / 65536 % 65536) else none)).foldl (fun s c =>
    let x := s.chan c
    if x.shed.isSome || s.attr .chClass c = 4 then s
    else
      let up := s.attrN .chCommittedMbps c * 16384 / 100
      let top := s.attrN .chBurstBytes c * 1024
      s.setChan c { x with credit := min top (x.credit + up), creditOut := min top (x.creditOut + up) }) s

/-- The client-to-line sluice writes all-ones into a group's slots (R155, R385), or the port's output is forced. -/
def groupDead (s : State) (g : Nat) : Bool := groupC2l s g || !s.gates.grpC2l.contains g || forcedOutput s

/-- A packet's encapsulation unit (R403). -/
def Pkt.unitBytes (k : Pkt) : List Byte := encHeader 1 k.chan k.bytes.length k.crypt ++ k.bytes

/-- The frame share of a group once its packets are in: idles fill it, and what a unit leaves over begins the next share (R403). A sluice
that acts puts all-ones in its place. -/
def Group.closeShare (room : Nat) (dead : Bool) (x : Group) : Group :=
  let idles := (List.replicate ((room - x.share.length + 7) / 8) (encHeader 0 0 0 false)).flatten
  let all := x.share ++ idles
  { x with share := if dead then List.replicate room 0xFF else all.take room, tail := all.drop room }

/-- The mapper of one group in one tick (R402, R403, R417): its share of the frame begins with the rest of a unit begun before; a packet
reaches the line, stamped by its place in the frame (R451), unless the client-to-line side of the group is replaced. -/
def mapGroup (s : State) (e : Nat × Group) : State :=
  let g := e.1
  let dead := groupDead s g
  let room := 4000 * e.2.tx.length
  let s := s.updGroup g (fun x => { x with share := x.tail, map := { x.map with carry := x.tail.length } })
  let s := schedule (.map g) room
    (fun left k s =>
      if dead then stampDiscard k s
      else
        let q := room - left.toNat
        let port := memberPort (e.2.tx.getD (q % e.2.tx.length) 0)
        let s := s.updGroup g (fun x => { x with share := x.share ++ k.unitBytes })
        stampLeave k (64 + port) (lineEgressStamp s e.2 q) (s.emit (.groupPacket g k.chan k.id k.bytes))) s
  s.updGroup g (Group.closeShare room dead)

/-! ### Re-sizing (R408 to R414) -/

/-- The port of a member has failed: a reported defect of code 0 to 3, or a received bdi (R408). -/
def portFailed (s : State) (p : Nat) : Bool :=
  (List.range 4).any (bitOf (s.attrN .defectReported p)) || s.attr .alfBdiRx p = 1

/-- A member may return: its port is healthy and ACTIVE, its slot exists in the port's mode (R409). -/
def memberFit (s : State) (m : Nat) : Bool :=
  !portFailed s (memberPort m) && portActive s (memberPort m) && decide (memberSlot m < txSlots s (memberPort m))

/-- A member's slot goes with a line mode change that has reached boundary a + 253 (R414). -/
def slotGoing (s : State) (m : Nat) : Bool :=
  match (s.tx (memberPort m)).change with
  | some c => decide (c.start + 253 ≤ s.tick.toNat) && decide (modeSlots c.mode ≤ memberSlot m)
  | none => false

/-- The runs of R408 and R409 at the boundary after a tick. -/
def groupRuns (s : State) (e : Nat × Group) : State :=
  s.updGroup e.1 (fun x => { x with
    fail0 := runNext (portFailed s 0) x.fail0
    fail1 := runNext (portFailed s 1) x.fail1
    fit := (x.cfg.filter (fun m => !x.tx.contains m && !x.held.contains m && memberFit s m)).foldl
      (fun t m => Tab.ins t m (Tab.get 0 x.fit m + 1)) [] })

/-- Answers of SY_GROUP_CONFIG (Table 7): the boundary of the change and the two sizes. -/
def groupFields (x : Group) (t : Nat) : List Fld := [(16, 8, t), (24, 2, x.tx.length), (26, 2, x.cfg.length)]

/-- Finishes commands of a group. -/
def finishAll (cs : List CmdRef) (st : Status) (fs : List Fld) (s : State) : State :=
  cs.foldl (fun s c => finish c st fs s) s

/-- Decides at a boundary whether a re-size begins (R408 to R411, R414, R425). One in progress goes on first. -/
def decideResize (s : State) (g : Nat) : State :=
  match s.group g with
  | none => s
  | some x =>
    if x.resize.isSome || !x.exists s then s
    else
      let held := nsDiff (nsUnion x.held x.toHold) x.toRelease
      let going := x.tx.filter (slotGoing s)
      let failed := if s.attr .grpAutoResize g = 1 then
          x.tx.filter (fun m => decide (s.attrN .grpShrinkHoldTicks g ≤ (if memberPort m = 0 then x.fail0 else x.fail1)))
        else []
      let back := x.cfg.filter (fun m => !x.tx.contains m && !held.contains m && !slotGoing s m &&
        (decide (s.attrN .grpRestoreTicks g ≤ Tab.get 0 x.fit m) || (x.toRelease.contains m && memberFit s m)))
      let kept := x.cfg.filter (fun m =>
        back.contains m || (x.tx.contains m && !going.contains m && !x.toHold.contains m))
      let less := kept.filter (fun m => !failed.contains m)
      let new := if less.isEmpty then kept else less
      let cause := if !going.isEmpty then 2
        else if failed.any (fun m => !new.contains m) then 1 else 6
      let cmds := x.cmds
      let x := { x with held := held, toHold := [], toRelease := [], cmds := [] }
      if new = x.tx then finishAll cmds .ok (groupFields x s.tick.toNat) (s.setGroup g (some x))
      else
        let s := s.setGroup g (some { x with resize := some ⟨s.tick.toNat, new, cause, cmds⟩ })
        going.foldl (fun s m =>
          let t := s.tx (memberPort m)
          s.setTx (memberPort m) { t with change := t.change.map (fun c => { c with membersLost := c.membersLost + 1 }) }) s

/-- Step 2 of Table 2: frame r + 3 is the first mapped with the new set. -/
def resizeSwitch (s : State) (g : Nat) : State :=
  match s.group g with
  | none => s
  | some x =>
    match x.resize with
    | none => s
    | some r =>
      if s.tick.toNat < r.start + 3 then s
      else
        let old := x.tx.length
        let x := { x with tx := r.newSet, resize := none, fit := x.fit.filter (fun e => !r.newSet.contains e.1) }
        let cap := capacityMbps x.tx.length
        let s := (s.setGroup g (some x)).count .grpPmResizes g
        let s := if x.tx.length = old then s else evalShedding g cap r.cause s
        let s := raise 0x0C03 2 g [(24, 2, old), (26, 2, x.tx.length), (28, 4, cap), (32, 8, r.start + 3)] s
        finishAll r.cmds .ok (groupFields x (r.start + 3)) s

/-- The group's part of a boundary: the runs, a switch that is due, then what is decided. -/
def groupBoundary (s : State) (g : Nat) : State :=
  match s.group g with
  | none => s
  | some x => decideResize (resizeSwitch (groupRuns s (g, x)) g) g

/-- A re-size fixed for a line mode change that is withdrawn (R294, R414). -/
def withdrawResizes (p : Nat) (s : State) : State :=
  (groupList s).foldl (fun s e =>
    match e.2.resize with
    | some r =>
      if r.cause = 2 && e.2.tx.any (fun m => memberPort m = p && !r.newSet.contains m) then
        finishAll r.cmds .eState [] (s.setGroup e.1 (some { e.2 with resize := none }))
      else s
    | none => s) s

/-- A re-size on the runs of R408 and R409 alone. What the host asks for waits for the next boundary (R410). -/
def decideRuns (s : State) (g : Nat) : State :=
  match s.group g with
  | none => s
  | some x =>
    if x.resize.isSome then s
    else (decideResize (s.setGroup g (some { x with toHold := [], toRelease := [], cmds := [] })) g).updGroup g
      (fun y => { y with toHold := x.toHold, toRelease := x.toRelease, cmds := x.cmds })

/-- MEMBER_REMOVAL (R408): the re-size that removes members whose port has failed for `shrink_hold_ticks`. -/
def execMemberRemoval (group : Fin 512) (s : State) : Host.Outcome State Fault Refusal :=
  .next (decideRuns s group)

/-- MEMBER_RETURN (R409): the re-size that returns members whose port has been healthy for `restore_ticks`. -/
def execMemberReturn (group : Fin 512) (s : State) : Host.Outcome State Fault Refusal :=
  .next (decideRuns s group)

/-- RESIZE_SWITCH (R411). -/
def execResizeSwitch (group : Fin 512) (s : State) : Host.Outcome State Fault Refusal :=
  .next (resizeSwitch s group)

/-! ### Adoption of the receive active set (R412, R413) -/

/-- The parts of a group descriptor (Table 2 of 10). -/
def gdGroup (v : Nat) : Nat := v % 65536
def gdIndex (v : Nat) : Nat := v / 65536 % 256
def gdCount (v : Nat) : Nat := v / 16777216 + 1

/-- The descriptor of a member index in a set. -/
def gdOf (g idx cnt : Nat) : Nat := g + 65536 * idx + 16777216 * (cnt - 1)

/-- The accepted descriptor of a member; none for nothing accepted. -/
def acceptedGd (s : State) (m : Nat) : Option Nat :=
  let v := s.attrN .slotGdRx (memberPort m) (memberSlot m)
  if v = 0xFFFFFFFF then none else some v

/-- The place of a member in a list. -/
def placeIn (l : List Nat) (m : Nat) : Nat := l.findIdx (· == m)

/-- The accepted descriptor of a member as R412 judges it: a port that is not locked gives none, or step 5 of the worked
example of 12 could not be (log entry 100). -/
def lockedGd (s : State) (m : Nat) : Option Nat := if s.attr .mrState (memberPort m) = 8 then acceptedGd s m else none

/-- The candidate set that the accepted descriptors give, when R412 allows it: its members in configured order, and in the order of their
indices (R401, R402). -/
def candidateSet (s : State) (g : Nat) (x : Group) : Option (List Nat × List Nat) :=
  let named := x.cfg.filter (fun m => (lockedGd s m).map gdGroup = some g)
  let rest := x.cfg.filter (fun m => !named.contains m)
  let n := named.length
  let idx := named.map (fun m => gdIndex ((lockedGd s m).getD 0))
  let ok := !named.isEmpty &&
    named.all (fun m => decide (gdCount ((lockedGd s m).getD 0) = n)) &&
    (List.range n).all idx.contains &&
    rest.all (fun m => match lockedGd s m with | none => true | some v => gdGroup v = 0xFFFF)
  let stray := (List.range 256).any (fun m => !x.cfg.contains m && (lockedGd s m).map gdGroup = some g)
  let order := named.foldl (fun l m => Tab.ins l (gdIndex ((lockedGd s m).getD 0)) m) []
  if ok && !stray then some (named, order.map (fun (e : Nat × Nat) => e.2)) else none

/-- The order of members that the latest change has given the demapping. -/
def Group.order (x : Group) : List Nat := match x.switches.getLast? with | some w => w.2.1 | none => x.demapSet

/-- The group and place that an order gives a member, as its descriptor tells them; none outside it. -/
def orderGd (g : Nat) (l : List Nat) (m : Nat) : Option Nat := if l.contains m then some (gdOf g (placeIn l m) l.length) else none

/-- The members whose descriptors a change has changed, and that are received. -/
def changedMembers (s : State) (g : Nat) (old new cfg : List Nat) : List Nat :=
  cfg.filter (fun m => orderGd g old m ≠ orderGd g new m && (lockedGd s m).isSome)

/-- How many frames of its port, up to the one with an mfas, have carried the descriptor that a member now has, and how many before them
were rejected: they may have carried it or not. -/
def gdAge (s : State) (mfas : Option Nat) (m : Nat) : Int × Nat :=
  let x := s.line (memberPort m)
  let r := Tab.get {} x.slots (memberSlot m)
  let lead : Int := match mfas, x.mfasRef with
    | some y, some f => (((y + 1152 - (f + x.mfasFrames) % 256) % 256 : Nat) : Int) - 128
    | _, _ => 0
  (lead + ((x.parsed - r.first : Nat) : Int), r.gap)

/-- The greatest and the least number of frames for which the members have been announced, by their descriptors. -/
def ageBounds : List (Int × Nat) → Int × Int
  | [] => (2, 2)
  | a :: t => t.foldl (fun b c => (max b.1 c.1, min b.2 (c.1 + c.2))) (a.1, a.1 + a.2)

/-- How many frames were demapped with the old set between the far end's switch and the change (R412). The far end announces in three
frames; where overheads were rejected before the first announcing frame that was read, whether they announced too is open to the model: a
free value. -/
def hitFrames (s : State) (mfas : Option Nat) (ms : List Nat) : Nat × State :=
  let b := ageBounds (ms.map (gdAge s mfas))
  if b.2 ≤ b.1 then ((b.1 - 2).toNat, s)
  else
    let d := s.draw
    ((b.1 - 2).toNat + d.1 % ((b.2 - b.1).toNat + 1), d.2)

/-- The receive active set changes to `set`: the stream is demapped in the order of the member indices from the frame whose mfas follows
that of the frame that completed the acceptance (R402, R412); at once where that mfas is not known. -/
def Group.adoptSet (mfas : Option Nat) (tick : Nat) (set order : List Nat) (hitless : Bool) (x : Group) : Group :=
  match mfas with
  | some m => { x with rx := set, switches := x.switches ++ [((m + 1) % 256, order, hitless, tick)] }
  | none => { x.breakStream with rx := set, demapSet := order, switches := [] }

/-- Adopts the candidate set of a group when it differs from the receive active set, or its indices from those in use (R412), on the
overhead of a frame with an mfas. -/
def adopt (mfas : Option Nat) (s : State) (e : Nat × Group) : State :=
  let (g, x) := e
  match candidateSet s g x with
  | none => s
  | some (set, order) =>
    if set = x.rx && order = x.order then s
    else
      let h := hitFrames s mfas (changedMembers s g x.order order x.cfg)
      let s := (x.rx.filter (fun m => !set.contains m)).foldl vanishSlot h.2
      let s := s.updGroup g (Group.adoptSet mfas s.tick.toNat set order (h.1 = 0))
      if h.1 = 0 then s else s.count .grpPmResizeHits g 0 h.1

/-- The expected descriptor of a member of a receive active set (R401). -/
def expectedGd (g : Nat) (x : Group) (m : Nat) : Nat := gdOf g (placeIn x.rx m) x.rx.length

/-- dPLM of a member slot, given the descriptor it is expected to carry (Table 3 of 11): a wrong value accepted declares it, and both values
accepted as expected clear it. -/
def plmSlot (p i gd : Nat) (s : State) : State :=
  let r := Tab.get {} (s.line p).slots i
  let psl := s.attrN .slotPslRx p i
  let got := s.attrN .slotGdRx p i
  if (r.pslOk && psl ≠ 1) || (r.gdOk && got ≠ gd) then declareSlot p i 7 true s
  else if r.pslOk && r.gdOk then declareSlot p i 7 false s
  else s

/-- dPLM of the members on a port, judged on the accepted psl and gd at the end of a frame's overhead (R371, R413; log
entry 100). -/
def plmJudge (p : Nat) (s : State) : State :=
  if (s.line p).frozen then s
  else (groupList s).foldl (fun s e =>
    (e.2.rx.filter (fun m => memberPort m = p)).foldl (fun s m =>
      plmSlot p (memberSlot m) (expectedGd e.1 e.2 m) s) s) s

/-! ### Commands (R426, R427) -/

/-- The member list of an entry, as u16 words. -/
def memberWords (s : State) (sid : Nat) (e dma : List Byte) : List Nat :=
  let n := fieldAt e 20 2
  let l := readArea s sid (fieldAt e 24 8) (2 * n) dma
  (List.range n).map (fun k => fieldAt l (2 * k) 2)

/-- A member word as a member number. -/
def memberOfWord (w : Nat) : Nat := 128 * (w / 32768) + w % 128

/-- No number occurs twice. -/
def distinct : List Nat → Bool
  | [] => true
  | a :: t => !t.contains a && distinct t

/-- The conditions that every form shares: the list's reserved bits and repeats, fields, and whether the group exists. A list whose area
runs past the data buffer is not read (R671). -/
def groupChecks (op : Nat) (s : State) (sid : Nat) (e dma : List Byte) : List (Bool × Status) :=
  let n := fieldAt e 20 2
  let ws := memberWords s sid e dma
  let badArea := areaBad s sid (fieldAt e 24 8) (2 * n)
  let badCount : Bool := if op = 1 then n ≠ 0 else n = 0 || decide (256 < n)
  [(!badArea && (ws.any (fun w => w / 128 % 256 ≠ 0) || !distinct (ws.map memberOfWord)), .eBadParam),
   (decide (511 < fieldAt e 16 2) || decide (5 < fieldAt e 18 1) || badCount || badArea, .eRange),
   ((s.group (fieldAt e 16 2)).isSome == decide (op = 0 ∨ 5 < op), .eState)]

/-- The conditions on members that are added: the slot exists and belongs to no group, the port is ACTIVE. -/
def addedChecks (s : State) (ms : List Nat) : Bool :=
  ms.any (fun m => decide (txSlots s (memberPort m) ≤ memberSlot m) || (cfgGroupOf s m).isSome ||
    !portActive s (memberPort m))

/-- Serves one form of SY_GROUP_CONFIG: further E_STATE conditions, and its effect on the group. The first form also
takes values of op that Table 7 does not give. -/
def groupCmd (op : Nat) (bad : State → Nat → List Nat → Bool) (run : State → CmdRef → Nat → List Nat → State)
    (c : CmdRef) (dma : List Byte) (s : State) : Host.Outcome State Fault Refusal :=
  .next (serve 0x0C01 (fun e => fieldAt e 18 1 = op || (op = 0 && decide (5 < fieldAt e 18 1))) [(16, 3), (20, 2), (24, 8)]
    (fun s sid e => groupChecks op s sid e dma ++
      [(bad s (fieldAt e 16 2) ((memberWords s sid e dma).map memberOfWord), .eState)])
    (fun s c e =>
      (run (interim c .accepted .started s) c (fieldAt e 16 2) ((memberWords s c.session e dma).map memberOfWord), .accept))
    c s)

/-- The final response of the forms that end at once (R426). -/
def groupDone (c : CmdRef) (g : Nat) (s : State) : State :=
  finish c .ok (groupFields ((s.group g).getD {}) (s.tick.toNat + 1)) s

/-- SY_GROUP_CREATE (R427): op 0. -/
def execSyGroupCreate (c : CmdRef) (dma : List Byte) (s : State) : Host.Outcome State Fault Refusal :=
  groupCmd 0 (fun s _ ms => addedChecks s ms)
    (fun s c g ms => groupDone c g
      (s.setGroup g (some { born := s.tick.toNat + 1, cfg := ms, tx := ms, rx := ms, demapSet := ms })))
    c dma s

/-- SY_GROUP_DELETE (R427): op 1. -/
def execSyGroupDelete (c : CmdRef) (dma : List Byte) (s : State) : Host.Outcome State Fault Refusal :=
  groupCmd 1 (fun s g _ => !(channelsOf s g).isEmpty)
    (fun s c g _ =>
      let x := (s.group g).getD {}
      let s := x.rx.foldl vanishSlot s
      let s := (s.setAttr .grpDefect g 0 0).setAttr .grpDefectReported g 0 0
      let owed := x.cmds ++ (match x.resize with | some r => r.cmds | none => [])
      groupDone c g (finishAll owed .eState [] (s.setGroup g none)))
    c dma s

/-- SY_GROUP_ADD_MEMBERS (R427): op 2. -/
def execSyGroupAddMembers (c : CmdRef) (dma : List Byte) (s : State) : Host.Outcome State Fault Refusal :=
  groupCmd 2 (fun s g ms => addedChecks s ms || decide (256 < ((s.group g).getD {}).cfg.length + ms.length))
    (fun s c g ms => groupDone c g
      (s.updGroup g (fun x => { x with cfg := x.cfg ++ ms, held := nsUnion x.held ms })))
    c dma s

/-- The transmit active set as the re-size in progress and the pending holds leave it. -/
def Group.coming (x : Group) : List Nat :=
  nsDiff (match x.resize with | some r => r.newSet | none => x.tx) x.toHold

/-- SY_GROUP_HOLD (R410): op 3. -/
def execSyGroupHold (c : CmdRef) (dma : List Byte) (s : State) : Host.Outcome State Fault Refusal :=
  groupCmd 3
    (fun s g ms =>
      let x := (s.group g).getD {}
      ms.any (fun m => !x.cfg.contains m) || (nsDiff x.coming ms).isEmpty)
    (fun s c g ms => s.updGroup g (fun x => { x with
      toHold := nsUnion x.toHold ms, toRelease := nsDiff x.toRelease ms, cmds := x.cmds ++ [c] }))
    c dma s

/-- SY_GROUP_RELEASE (R410): op 4. -/
def execSyGroupRelease (c : CmdRef) (dma : List Byte) (s : State) : Host.Outcome State Fault Refusal :=
  groupCmd 4
    (fun s g ms => ms.any (fun m => !((s.group g).getD {}).cfg.contains m))
    (fun s c g ms => s.updGroup g (fun x => { x with
      toRelease := nsUnion x.toRelease ms, toHold := nsDiff x.toHold ms, cmds := x.cmds ++ [c] }))
    c dma s

/-- SY_GROUP_REMOVE (R427): op 5. -/
def execSyGroupRemove (c : CmdRef) (dma : List Byte) (s : State) : Host.Outcome State Fault Refusal :=
  groupCmd 5
    (fun s g ms =>
      let x := (s.group g).getD {}
      ms.any (fun m => !x.cfg.contains m || x.tx.contains m || x.rx.contains m || x.coming.contains m))
    (fun s c g ms => groupDone c g
      (s.updGroup g (fun x => { x with
        cfg := nsDiff x.cfg ms, held := nsDiff x.held ms, toHold := nsDiff x.toHold ms
        toRelease := nsDiff x.toRelease ms, fit := x.fit.filter (fun e => !ms.contains e.1) })))
    c dma s

/-- The members of a set as bits of the configured list (`tx_active`, `rx_active`, `held`). -/
def memberBits (x : Group) (l : List Nat) : Nat :=
  maskOf ((List.range x.cfg.length).filter (fun k => l.contains (x.cfg.getD k 0)))

end Sys2Proof.Machine
end

