-- ==== Sys2Proof/Machine/Tx.lean ====
section
/-!
DEFINITION. Sys2Proof/Machine/Tx.lean: line mode changes and the tables of the transmit chain (spec/08), and the start of
foreground calibration and of test mode (spec/06), which stop the transmit and receive directions.
-/
namespace Sys2Proof.Machine

/-! ### Directions in and out of service (R208, R210, R213) -/

/-- The receive direction of a port leaves service: the millrace goes to state 0, and the defect states are frozen (R375). -/
def rxLeave (p : Nat) (s : State) : State :=
  let s := s.setLine p { s.line p with frozen := true, runs := {} }
  mrIdle p (s.setConv p { s.conv p with rxIn := false })

/-- From the boundary of the present tick on the DACs of a port put out zero: no frame is out (R210). -/
def txCut (p : Nat) (s : State) : State :=
  let x := s.conv p
  let cut := x.cap.running.map (fun r => { r with frames := r.frames.map (TxFrame.cutAt s.tick.toNat) })
  (s.setTx p { s.tx p with frames := [] }).setConv p { x with cap := { x.cap with running := cut } }

/-- The transmit direction of a port leaves service: the DACs put out zero. -/
def txLeave (p : Nat) (s : State) : State :=
  let s := txCut p s
  (s.setConv p { s.conv p with txIn := false }).setAttr .lineTxState p 0 0

/-- `tx.state` follows the transmit direction at a boundary: frames are sent while it is in service (R210, Table 10). -/
def txBoundary (p : Nat) (s : State) : State :=
  s.setAttr .lineTxState p 0 (if feathered s p then 2 else if (s.conv p).txIn then 1 else 0)

/-- Tick m of Table 8 of 06: the selected directions leave service. At a boot the channels of `bad` fail R215. -/
def foregroundStart (p : Nat) (bad : List Nat) (s : State) : State :=
  match (s.conv p).fg with
  | none => s
  | some j =>
    if j.start.isSome || !s.clk.ticking then s
    else
      let s := abandonRotations p (s.setConv p { s.conv p with fg := some { j with start := some s.tick.toNat } })
      let s := if j.rx then rxLeave p s else s
      let s := if j.tx then txLeave p s else s
      let s := s.setAttr .convState p 0 1
      if j.atBoot then
        let s := bad.foldl (fun s c => raise 0x0605 p c [(24, 1, 0)] s) s
        s.setConv p { s.conv p with selftestFailed := !bad.isEmpty, testedSince := false }
      else s

/-- FOREGROUND_CAL_START (R208, R215): the first boundary after firmware starts the sequencer, with the channels that the
boot measurement finds outside their factory limits. -/
def execForegroundCalStart (port : Fin 2) (badChannels : List (Fin 4)) (s : State) : Host.Outcome State Fault Refusal :=
  .next (settle (foregroundStart port (badChannels.map (·.val)) s))

/-- A written `test_mode` takes effect (R213, R214, R215). -/
def testMode (p : Nat) (v : Int) (s : State) : State :=
  let s := s.setAttr .convTestMode p 0 v
  let x := s.conv p
  if v = 1 then
    let s := s.setConv p { x with testedSince := true }
    if s.attr .convState p = 1 || s.attr .convState p = 4 then s
    else (txLeave p (rxLeave p (abandonRotations p s))).setAttr .convState p 0 3
  else
    let s := s.setConv p { x with
      disconnected := [], selftestFailed := x.selftestFailed && !x.testedSince, testedSince := false }
    if s.attr .convState p = 3 then
      (s.setConv p { s.conv p with rxIn := true, txIn := true }).setAttr .convState p 0 2
    else s

/-! ### Mode changes (R291 to R295) -/

/-- The port is feathered, in foreground calibration or in test mode. -/
def portHeld (s : State) (p : Nat) : Bool :=
  !portActive s p || (s.conv p).fg.isSome || s.attr .convTestMode p = 1

/-- A configured group uses a slot that the mode removes: one that the present mode has (R294, R414). -/
def modeCuts (s : State) (p m : Nat) : Bool :=
  portMember s p (fun i => decide (modeSlots m ≤ i) && decide (i < txSlots s p))

/-- Table 6 begins: tick a is the next. -/
def startModeChange (p m : Nat) (cmd : Option CmdRef) (force : Bool) (s : State) : State :=
  s.setTx p { s.tx p with change := some { mode := m, start := if s.clk.ticking then s.tick.toNat + 1 else 0, cmd := cmd, force := force } }

/-- SY_LINE_MODE (R291, R294, Table 7): the form with cancel 0. -/
def execSyLineMode (c : CmdRef) (s : State) : Host.Outcome State Fault Refusal :=
  .next (serve 0x0801 (fun e => !bitOf (fieldAt e 18 1) 1) [(16, 3)]
    (fun s _ e =>
      let p := fieldAt e 16 1
      let m := fieldAt e 17 1
      [(decide (3 < fieldAt e 18 1), .eBadParam),
       (decide (1 < p) || decide (3 < m), .eRange),
       (portHeld s p || (s.tx p).change.isSome || (modeCuts s p m && !bitOf (fieldAt e 18 1) 0), .eState)])
    (fun s c e =>
      let p := fieldAt e 16 1
      let m := fieldAt e 17 1
      if s.attrN .lineMode p = m then (s, .final .ok [(24, 1, 2)])
      else (startModeChange p m (some c) (bitOf (fieldAt e 18 1) 0) s, .accept))
    c s)

/-- SY_LINE_MODE_CANCEL (R294): the form with cancel 1 withdraws a pending change up to boundary a + 255. -/
def execSyLineModeCancel (c : CmdRef) (s : State) : Host.Outcome State Fault Refusal :=
  .next (serve 0x0801 (fun e => bitOf (fieldAt e 18 1) 1) [(16, 3)]
    (fun s _ e =>
      let p := fieldAt e 16 1
      [(decide (3 < fieldAt e 18 1), .eBadParam), (decide (1 < p), .eRange),
       (portHeld s p || (match (s.tx p).change with | none => true | some k => decide (k.start + 255 < s.tick.toNat + 1)),
         .eState)])
    (fun s _ e =>
      let p := fieldAt e 16 1
      let owed := match (s.tx p).change with | some k => k.cmd | none => none
      let s := (s.setTx p { s.tx p with change := none }).setAttr .lineModePending p 0 0xFF
      let s := withdrawResizes p s
      let s := match owed with | some k => finish k .eState [] s | none => s
      (s, .final .ok [(24, 1, 2)]))
    c s)

/-- The new mode is in force (step 5 of Table 6): `mode` changes and `mode_changed` is raised. -/
def modeTakes (p : Nat) (k : ModeChange) (s : State) : State :=
  let s := (s.setTx p { s.tx p with change := none }).setAttr .lineModePending p 0 0xFF
  raise (0x0801) p noIndex [(24, 1, k.mode), (32, 8, k.start + 256)] (s.setAttr .lineMode p 0 k.mode)

/-- Boundary a + 256 (steps 5 and 6 of Table 6). -/
def modeSwitch (p : Nat) (s : State) : State :=
  match (s.tx p).change with
  | none => s
  | some k =>
    if s.tick.toNat < k.start + 256 then s
    else
      let soft := softChange (s.attrN .lineMode p) k.mode
      let s := modeTakes p k s
      match k.cmd with
      | some c => finish c .ok [(16, 8, k.start + 256), (24, 1, b01 (!soft)), (26, 2, k.membersLost)] s
      | none => s

/-- A boundary of a port's mode change: `mode_pending` at a, the switch at a + 256. -/
def modeBoundary (p : Nat) (s : State) : State :=
  match (s.tx p).change with
  | none => s
  | some k =>
    let s := if k.start ≤ s.tick.toNat then s.setAttr .lineModePending p 0 k.mode else s
    modeSwitch p s

/-- MODE_SWITCH (R291). -/
def execModeSwitch (port : Fin 2) (s : State) : Host.Outcome State Fault Refusal := .next (modeSwitch port s)

/-- An accepted announcement with `mode_follow` (R293). -/
def followMode (p m : Nat) (s : State) : State :=
  if s.attr .lineModeFollow p ≠ 1 then s
  else if (s.tx p).change.isSome then s.bump .lineModeFollowIgnored p
  else if s.attrN .lineMode p = m then s
  else if portHeld s p || modeCuts s p m then s.bump .lineModeFollowIgnored p
  else startModeChange p m none false s

/-- The announcement field of a block 0 that was accepted or not (R291, R294): three in a row are accepted; one whose
countdown stops before 0 is discarded. `n` is the number of the frame. -/
def readAnnounce (p : Nat) (valid : Bool) (m cd n : Nat) (s : State) : State :=
  let x := s.tx p
  if valid then
    match x.announce with
    | some a =>
      if a.mode = m && (a.accepted || a.countdown = cd + 1) then
        let a := { a with countdown := cd, run := a.run + 1, switchFrame := n + cd + 1 }
        if !a.accepted && a.run = 3 then
          let s := s.setTx p { x with announce := some { a with accepted := true } }
          followMode p m (raise 0x0802 p noIndex [(24, 1, m), (25, 1, cd)] s)
        else s.setTx p { x with announce := some a }
      else s.setTx p { x with announce := some { mode := m, countdown := cd, run := 1 } }
    | none => s.setTx p { x with announce := some { mode := m, countdown := cd, run := 1 } }
  else
    match x.announce with
    | some a => if a.accepted && n ≤ a.switchFrame && a.countdown = 0 then s else s.setTx p { x with announce := none }
    | none => s

/-- A rejected block 0 breaks an announcement that was not yet accepted (R341). -/
def breakAnnounce (p : Nat) (s : State) : State :=
  match (s.tx p).announce with
  | some a => if a.accepted then s else s.setTx p { s.tx p with announce := none }
  | none => s

/-- A port reset meets a mode change (Table 8): at boundary a + 255 or a + 256 the change goes on, the frame of a + 255 is sent, and `mode`
changes at a + 256; before, a re-size fixed for the change is withdrawn with it (R414). -/
def modeAtPortReset (p : Nat) (s : State) : State :=
  match (s.tx p).change with
  | none => s
  | some k =>
    let last := if s.attr .lineTxState p = 1 then some (k.start + 255) else none
    let s := if k.start + 256 ≤ s.tick.toNat then
        let s := modeTakes p k s
        s.setTx p { s.tx p with parting := last }
      else if k.start + 255 = s.tick.toNat then s.setTx p { s.tx p with change := some { k with cmd := none }, parting := last }
      else withdrawResizes p ((s.setTx p { s.tx p with change := none }).setAttr .lineModePending p 0 0xFF)
    match k.cmd with | some c => finish c .abortedByReset [] s | none => s

/-- A firmware reset meets a mode change (Table 8): before countdown 0 the change ends; its command is answered under
R152. -/
def modeAtFwReset (p : Nat) (s : State) : State :=
  match (s.tx p).change with
  | none => s
  | some k =>
    if s.tick.toNat < k.start + 255 then
      withdrawResizes p ((s.setTx p { s.tx p with change := none }).setAttr .lineModePending p 0 0xFF)
    else s.setTx p { s.tx p with change := some { k with cmd := none } }

/-! ### The transmit chain (R287 to R290, R305) -/

/-- The bit of SY_COMMIT and the size of the table that byte 18 selects (R296). -/
def txTableBit (p sel : Nat) : Nat := if sel = 0 then 5 + p else 3 + p
def txTableSize (sel : Nat) : Nat := if sel = 0 then 40960 else 262144

/-- SY_TX_TABLE (R289, R296): the pre-emphasis or pre-distortion table of a port. -/
def execSyTxTable (c : CmdRef) (dma : List Byte) (s : State) : Host.Outcome State Fault Refusal :=
  .next (serve 0x0802 anyForm [(16, 3), (20, 8), (32, 8)]
    (fun s sid e =>
      let p := fieldAt e 16 1
      let sel := fieldAt e 18 1
      (decide (1 < p) || decide (1 < sel), .eRange) :: tableChecks s sid e (txTableBit p sel) (txTableSize sel))
    (fun s c e => tableRun s c e dma (txTableBit (fieldAt e 16 1) (fieldAt e 18 1)))
    c s)

end Sys2Proof.Machine
end

