-- ==== Sys2Proof/Machine/Line.lean ====
section
/-!
DEFINITION. Sys2Proof/Machine/Line.lean: the overhead of the line frame, sent and received, the general communication
channels, and feathering with its beacon (spec/10).
-/
namespace Sys2Proof.Machine

/-! ### GCC transmit side (R345 to R347, R350) -/

/-- Bytes of a channel that carries `per` bytes in 125 frames, in the frame of cycle `j` (R345). -/
def gccCount (per j : Nat) : Nat := per * (j + 1) / 125 - per * j / 125

/-- A packet in its framing: flags, with 0x7E and 0x7D escaped (R347). -/
def gccFrame (pkt : List Byte) : List Byte :=
  [0x7E] ++ (pkt.flatMap (fun b => if b = 0x7E || b = 0x7D then [0x7D, b ^^^ 0x20] else [b])) ++ [0x7E]

/-- The next GCC-M byte of a port, with what it sends (R350): a control packet aborts a general one. -/
def gccMByte (p : Nat) (s : State) : Byte × State :=
  let x := s.line p
  let g := x.gcc
  let put := fun (g : GccTx) (s : State) => s.setLine p { s.line p with gcc := g }
  let start :=
    if g.sendingM = 2 && !g.control.isEmpty then
      ({ g with sendingM := 1, wireM := [0x7D, 0x7E] ++ gccFrame (g.control.headD []) },
        s.bump .gccMTxPreempted p)
    else if g.sendingM = 0 then
      match g.control, g.general with
      | c :: _, _ => ({ g with sendingM := 1, wireM := gccFrame c }, s)
      | [], k :: _ => ({ g with sendingM := 2, wireM := gccFrame k }, s)
      | [], [] => (g, s)
    else (g, s)
  let g := start.1
  let s := start.2
  match g.wireM with
  | [] => (0x7E, put g s)
  | [b] =>
    let pkt := if g.sendingM = 1 then g.control.headD [] else g.general.headD []
    let g' := if g.sendingM = 1 then { g with control := g.control.tail } else { g with general := g.general.tail }
    (b, put { g' with sendingM := 0, wireM := [] } ((s.bump .gccMTxPackets p).emit (.gccPacket p true pkt)))
  | b :: t => (b, put { g with wireM := t } s)

/-- The next GCC-U byte: flags while the block is gated (R346). -/
def gccUByte (p : Nat) (s : State) : Byte × State :=
  let g := (s.line p).gcc
  let put := fun (g : GccTx) (s : State) => s.setLine p { s.line p with gcc := g }
  if gated s (6 + p) then (0x7E, put { g with sendingU := false, wireU := [] } s)
  else
    let g := if g.sendingU then g
      else match g.u with
        | k :: _ => { g with sendingU := true, wireU := gccFrame k }
        | [] => g
    match g.wireU with
    | [] => (0x7E, put g s)
    | [b] =>
      (b, put { g with sendingU := false, wireU := [], u := g.u.tail }
        ((s.bump .gccUTxPackets p).emit (.gccPacket p false (g.u.headD []))))
    | b :: t => (b, put { g with wireU := t } s)

/-- So many bytes of a channel. -/
def gccBytes (next : State → Byte × State) : Nat → State → List Byte × State
  | 0, s => ([], s)
  | n + 1, s =>
    let r := next s
    let t := gccBytes next n r.2
    (r.1 :: t.1, t.2)

/-! ### The transmitted overhead (R334 to R338) -/

/-- psl and gd of a member in the present frame (R397, R402, R411). -/
def slotLabel (s : State) (m : Nat) : Nat × Nat :=
  match cfgGroupOf s m with
  | none => (0, 0xFFFF)
  | some (g, x) =>
    let set := match x.resize with | some r => r.newSet | none => x.tx
    if x.born ≤ s.tick.toNat && set.contains m then (1, gdOf g (placeIn set m) set.length) else (0, 0xFFFF)

/-- The feather field of a frame (Table 7): code, sequence, countdown, reason. -/
def featherField (s : State) (p : Nat) : List Nat :=
  let f := (s.line p).feather
  match s.attrN .featherState p with
  | 0 =>
    if f.wakeFrames ≠ 0 then [4, f.seq, 0, 0]
    else match f.refuse with | some (q, r) => [3, q, 0, r] | none => [0, 0, 0, 0]
  | 1 => [1, f.seq, 0, 0]
  | 2 => [2, f.seq, 63 - (s.tick.toNat - f.start), 0]
  | _ => [2, f.seq, 0, 0]

/-- The announcement field of a frame (Table 6 of 08). -/
def announceField (s : State) (p : Nat) : List Nat :=
  match (s.tx p).change with
  | some k => if k.start ≤ s.tick.toNat then [128 + k.mode, 255 - (s.tick.toNat - k.start)] else [0, 0]
  | none => [0, 0]

/-- The alignment word of block k (Table 2). -/
def alignWord (k : Nat) : List Byte := [0xF6, 0xF6, 0xF6, 0x28, 0x28, 0x28, 0xA5, BitVec.ofNat 8 (0x30 + k)]

/-- `frame_info` of block k in a mode. -/
def frameInfo (m k : Nat) : Nat := 64 * k + 16 * (modeSlots m / 32 - 1) + 4 * m

/-- bdi as sent (Table 2). -/
def bdiSent (s : State) (p : Nat) : Bool := (s.line p).backDefect || s.attr .alfBdiForce p = 1

/-- The overhead of block k of the frame of the present tick, given the GCC bytes of block 0. -/
def blockOverhead (s : State) (p k : Nat) (gm gu : List Byte) : List Byte :=
  let n := s.tick.toNat
  let mem := (List.range 32).map (fun j => 128 * p + 32 * k + j)
  let lab := mem.map (slotLabel s)
  let rep := (s.line p).backSlots
  let common := layFields 1020
    [(8, 1, n % 256), (9, 1, frameInfo (s.attrN .lineMode p) k), (10, 1, n % 125),
     (64, 4, maskOf ((List.range 32).filter (fun j => rep.contains (32 * k + j))))]
  let b := overlay common 0 (alignWord k)
  let b := overlay b 96 (lab.map (fun l => BitVec.ofNat 8 l.1))
  let b := overlay b 128 (lab.flatMap (fun l => leBytes 4 l.2))
  let b :=
    if k = 0 then
      let b := overlay b 12 ((([s.attrN .alfTtiTx p / 256 ^ (n % 64) % 256, s.attrN .alfQlTx p % 16] ++
        announceField s p ++ featherField s p ++ [b01 (bdiSent s p), 0]).map (BitVec.ofNat 8)) ++
        leBytes 2 (s.fec p).beiLast)
      overlay (overlay b 24 gm) 27 gu
    else b
  b ++ leBytes 4 (crc32c b)

/-- The 4,000 bytes of a tributary slot in the frame of the present tick (R336, R397, R402): those of its member in its group's share; where
the slot is unequipped, or its member is outside the transmit active set, 0x00 (DESIGN CHOICE for the latter, log entry 146), or
all-ones while the group's client-to-line side is replaced. -/
def slotContent (s : State) (m : Nat) : List Byte :=
  match cfgGroupOf s m with
  | none => List.replicate 4000 0
  | some (g, x) =>
    if x.born ≤ s.tick.toNat && x.tx.contains m then
      (List.range 4000).map (fun b => x.share.getD (b * x.tx.length + placeIn x.tx m) 0)
    else List.replicate 4000 (if groupDead s g then 0xFF else 0)

/-- The bytes of block k of the frame of the present tick: overhead, then the slots byte by byte (R334, R336). -/
def blockBytes (s : State) (p k : Nat) (gm gu : List Byte) : List Byte :=
  let slots := (List.range 32).map (fun j => slotContent s (128 * p + 32 * k + j))
  blockOverhead s p k gm gu ++ (List.range 4000).flatMap (fun b => slots.map (fun l => l.getD b 0))

/-- The frame of the present tick with what its stages apply to it: the table generations in force (R289), skew and DAC level (R290), and
the count of coded bits before it (R305). -/
def newTxFrame (s : State) (p : Nat) (bytes : List Byte) : TxFrame :=
  { tick := s.tick.toNat, mode := s.attrN .lineMode p, bytes := bytes
    period := s.attrN .fecTxInjectPeriod p, count := (s.fec p).injectCount
    emphasis := (s.table (5 + p)).active, distortion := (s.table (3 + p)).active
    skew := (List.range 4).map (fun c => s.attr .lineTxSkewFs p c), rms := s.attrN .lineTxDacRmsLsb p }

/-- The scales of a frame: those that bring the frame before it to the RMS set; open where none is before it, or one at zero (R290). -/
def scaledFrame (p : Nat) (f : TxFrame) (all : List TxFrame) (s : State) : TxFrame × State :=
  let before := frameAt all ((f.tick : Int) - 1)
  let r := (List.range 4).foldl (fun (r : List Rat × State) c =>
    match before.bind (fun g => g.nextScale all p c f.rms) with
    | some k => (r.1 ++ [k], r.2)
    | none =>
      let d := r.2.draw
      (r.1 ++ [Config.firstScale d.1], d.2)) ([], s)
  ({ f with scales := r.1 }, r.2)

/-- The frame of the tick before gets its scale, and a capture of the DAC codes takes it: it leaves from clock 324 of the present tick on
(R278, R290). -/
def scaleFrame (p : Nat) (s : State) : State :=
  let x := s.tx p
  match frameAt x.frames ((s.tick.toNat : Int) - 1) with
  | none => s
  | some g =>
    let r := scaledFrame p g x.frames s
    let s := r.2.setTx p { x with frames := x.frames.map (fun f => if f.tick = g.tick then r.1 else f) }
    let k := (s.conv p).cap
    match k.running with
    | some run => s.setConv p { s.conv p with cap := { k with running := some { run with frames := r.1 :: run.frames } } }
    | none => s

/-- At the end of a tick the frame that has left in it: its DAC codes from clock 324 on, and its clipped samples (R278, R290). -/
def frameLeft (p : Nat) (s : State) : State :=
  let x := s.tx p
  match frameAt x.frames ((s.tick.toNat : Int) - 1) with
  | none => s
  | some g =>
    let codes := (List.range 4).map (fun c => (List.range 442368).map (g.code x.frames p c))
    (s.setTx p { x with clips := (List.range 4).map (fun c => x.clips.getD c 0 + g.clipped x.frames p c) }).emit
      (.dacFrame p g.tick (s.now 324) codes)

/-- The frame of the present tick is built: its overhead, its payload, and its place among the frames that leave. -/
def buildFrame (p : Nat) (s : State) : State :=
  let j := s.tick.toNat % 125
  let gm := gccBytes (gccMByte p) (gccCount 256 j) s
  let gu := gccBytes (gccUByte p) (gccCount 1024 j) gm.2
  let blocks := List.range (txSlots s p / 32)
  let f := newTxFrame s p (blocks.flatMap (fun k => blockBytes s p k gm.1 gu.1))
  let s := gu.2.emit (.alfOverhead p s.tick (blocks.flatMap (fun k => blockOverhead s p k gm.1 gu.1)))
  let x := s.line p
  let s := s.setLine p { x with feather := { x.feather with wakeFrames := x.feather.wakeFrames - 1 } }
  injectErrors p (s.setTx p { s.tx p with frames := (f :: (s.tx p).frames).take 4 })

/-- TRANSMIT_FRAME (R277, R278): the frame of the present tick is built while the transmit direction sends frames, and the one before it
leaves. The last frame before a port reset is built, and leaves, all the same (R295). -/
def txFrame (p : Nat) (s : State) : State :=
  let x := s.tx p
  let s := if s.attr .lineTxState p = 1 || x.parting = some s.tick.toNat then buildFrame p s else s
  scaleFrame p (s.setTx p { s.tx p with parting := none })

/-! ### The received overhead (R339 to R342) -/

/-- A received value joins its run. -/
def RxRun.next (r : RxRun) (v : Nat) : RxRun := ⟨v, if r.value = v then r.run + 1 else 1⟩

/-- A value is accepted: three in a row. -/
def RxRun.accepted (r : RxRun) : Bool := decide (3 ≤ r.run)

/-- A frame without an accepted block breaks the run. -/
def RxRun.broken (r : RxRun) : RxRun := { r with run := 0 }

/-- A block's overhead is accepted (R339). -/
def overheadOk (s : State) (p k : Nat) (b : List Byte) : Bool :=
  crc32c (b.take 1020) = fieldAt b 1020 4 && b.take 8 = alignWord k && fieldAt b 9 1 / 4 * 4 = frameInfo (rxMode s p) k

/-- faw_raw and dLOF on the block 0 of a frame delivered in state 8 (R340, R371). -/
def judgeFaw (p : Nat) (bad : Bool) (s : State) : State :=
  let x := s.line p
  let r := { x.runs with lofIn := runNext bad x.runs.lofIn, lofOut := runNext (!bad) x.runs.lofOut }
  let s := (s.setLine p { x with runs := r }).setAttr .alfFawRaw p 0 (b01 bad)
  if x.frozen then s
  else if 3 ≤ r.lofIn then declarePort p 2 true s
  else alignedExit p s

/-- mfas_raw and dLOMF on an accepted block 0 (R340, R371). -/
def judgeMfas (p mfas : Nat) (s : State) : State :=
  let x := s.line p
  let bad := match x.mfasRef with | some r => decide (mfas ≠ (r + x.mfasFrames) % 256) | none => false
  let r := { x.runs with lomfIn := runNext bad x.runs.lomfIn, lomfOut := runNext (!bad) x.runs.lomfOut }
  let s := (s.setLine p { x with runs := r, mfasRef := some mfas, mfasFrames := 0 }).setAttr .alfMfasRaw p 0 (b01 bad)
  if x.frozen then s
  else if 3 ≤ r.lomfIn then declarePort p 3 true s
  else alignedExit p s

/-- One tti_byte (R342). -/
def readTti (p mfas : Nat) (b : Byte) (s : State) : State :=
  let x := s.line p
  let k := mfas % 64
  let buf := if k = 0 then some [b]
    else match x.ttiBuf with | some l => if l.length = k then some (l ++ [b]) else none | none => none
  match buf with
  | some l =>
    if l.length = 64 then
      let run := if l = x.ttiLast then x.ttiRun + 1 else 1
      let s := s.setLine p { x with ttiBuf := none, ttiLast := l, ttiRun := run, ttiOk := x.ttiOk || decide (3 ≤ run) }
      if run = 3 && s.attrN .alfTtiRx p ≠ leNat l then
        timJudge p (raise 0x0A05 p noIndex [] (s.setAttr .alfTtiRx p 0 (leNat l)))
      else if run = 3 then timJudge p s
      else s
    else s.setLine p { x with ttiBuf := some l }
  | none => s.setLine p { x with ttiBuf := none }

/-- The feather field of an accepted block 0 (Table 3, R357). A reserved code is NONE (R353), which is no value that is accepted: the
accepted one holds (R341). -/
def readFeather (p : Nat) (code seq reason : Nat) (s : State) : State :=
  let x := s.line p
  let f := x.feather
  let code := if 4 < code then 0 else code
  let rx := f.rx.next (code * 256 + seq)
  let take := code = 4 || (code ≠ 0 && rx.accepted)
  let f := { f with
    rx := rx
    rxCode := if take then code else f.rxCode
    rxSeq := if take then seq else f.rxSeq
    rxReason := if take then reason else f.rxReason
    other := runNext (code ≠ 1 && code ≠ 2) f.other }
  s.setLine p { x with feather := f }

/-- The fields of an accepted block 0. -/
def readBlock0 (p : Nat) (b : List Byte) (s : State) : State :=
  let mfas := fieldAt b 8 1
  let s := readTti p mfas (byteAt b 12) (judgeMfas p mfas s)
  let x := s.line p
  let x := { x with ql := x.ql.next (fieldAt b 13 1 % 16), bdi := x.bdi.next (fieldAt b 20 1 % 2) }
  let s := s.setLine p x
  let s := if x.ql.accepted then s.setAttr .alfQlRx p 0 x.ql.value else s
  let s := if x.bdi.accepted then s.setAttr .alfBdiRx p 0 x.bdi.value else s
  let s := s.count .alfBeiSum p 0 (fieldAt b 22 2)
  let ann := fieldAt b 14 1
  let s := readAnnounce p (bitOf ann 7) (ann % 4) (fieldAt b 15 1) (s.line p).parsed s
  readFeather p (fieldAt b 16 1) (fieldAt b 17 1) (fieldAt b 19 1) s

/-- A rejected block 0 breaks every run of its fields (R341, R342, R371). -/
def breakBlock0 (p : Nat) (s : State) : State :=
  let x := s.line p
  breakAnnounce p (s.setLine p { x with
    ttiBuf := none, ql := x.ql.broken, bdi := x.bdi.broken
    feather := { x.feather with rx := x.feather.rx.broken, other := 0 }
    runs := { x.runs with lomfIn := 0, lomfOut := 0 } })

/-- The fields of one slot in an overhead (Table 3 of 10). -/
def readSlot (p i : Nat) (bdi psl gd : Nat) (s : State) : State :=
  let x := s.line p
  let r := Tab.get {} x.slots i
  let r := { r with
    bdi := r.bdi.next bdi, psl := r.psl.next psl, gd := r.gd.next gd
    first := if gd = s.attrN .slotGdRx p i || gd = r.cand then r.first else x.parsed
    gap := if gd = s.attrN .slotGdRx p i || gd = r.cand then r.gap else r.lost
    cand := gd, lost := 0
    pslOk := r.pslOk || (r.psl.next psl).accepted, gdOk := r.gdOk || (r.gd.next gd).accepted }
  let s := s.setLine p { x with slots := Tab.put {} x.slots i r }
  let s := if r.bdi.accepted then s.setAttr .slotBdiRx p i bdi else s
  let s := if r.psl.accepted then s.setAttr .slotPslRx p i psl else s
  if r.gd.accepted then s.setAttr .slotGdRx p i gd else s

/-- A rejected overhead breaks the runs of its slots. -/
def breakSlot (p i : Nat) (s : State) : State :=
  let x := s.line p
  s.setLine p { x with slots := Tab.upd {} x.slots i (fun r => { r with
    bdi := r.bdi.broken, psl := r.psl.broken, gd := r.gd.broken, lost := r.lost + 1 }) }

/-- A frame of a number begins: the reference of mfas, and the faw of block 0. -/
def frameBegins (p frame : Nat) (b : List Byte) (s : State) : State :=
  let x := s.line p
  let lock := (s.mr p).locks
  let x := if x.mfasLock = lock then x else { x with mfasLock := lock, mfasRef := none }
  judgeFaw p (b.take 8 ≠ alignWord 0)
    (s.setLine p { x with parsed := frame, mfasFrames := x.mfasFrames + (frame - x.parsed) })

/-! ### GCC framing (R347, R349) -/

/-- The bytes of a packet without its escapes. -/
def gccPlain : List Byte → List Byte
  | 0x7D :: b :: t => (b ^^^ 0x20) :: gccPlain t
  | b :: t => b :: gccPlain t
  | [] => []

/-- A received byte joins a channel: flags part packets, and an escape before a flag aborts one. -/
def GccIn.byte (x : GccIn) (b : Byte) : GccIn :=
  match x.cur with
  | none => if b = 0x7E then { x with cur := some [] } else x
  | some l =>
    if b ≠ 0x7E then { x with cur := some (l ++ [b]) }
    else
      let aborted : Bool := l.getLast? = some 0x7D
      let pkt := if aborted then l.dropLast else l
      { cur := some [], done := if pkt.isEmpty then x.done else x.done ++ [(gccPlain pkt, !aborted)] }

/-- The GCC bytes of a block 0 reach both channels; a block 0 that is not accepted puts an abort in their place. GCC-U is ignored while its
block is gated (R345, R346, R349). -/
def readGcc (p : Nat) (accepted : Bool) (b : List Byte) (s : State) : State :=
  let j := fieldAt b 10 1 % 125
  let gm := if accepted then bytesAt b 24 (gccCount 256 j) else [0x7D, 0x7E]
  let gu := if accepted then bytesAt b 27 (gccCount 1024 j) else [0x7D, 0x7E]
  let x := s.line p
  s.setLine p { x with
    gccMIn := gm.foldl GccIn.byte x.gccMIn
    gccUIn := if gated s (6 + p) then x.gccUIn else gu.foldl GccIn.byte x.gccUIn }

/-! ### GCC receive side (R349 to R352) -/

/-- The sizes of the queues and buffers (R350, R352). -/
def queueBytes (l : List (List Byte)) : Nat := (l.map List.length).sum
def bufferBytes (l : List GccRecord) : Nat := (l.map (fun r => r.bytes.length)).sum

/-- A GCC-M packet's fields (Table 5). -/
def gccLinkLocal (b : List Byte) : Bool := bitOf (fieldAt b 0 1) 7
def gccDst (b : List Byte) : Nat := fieldAt b 2 3 % 262144
def gccSrc (b : List Byte) : Nat := fieldAt b 5 3 % 262144

/-- The device's node address; none when unset (R348). -/
def ownAddress (s : State) : Option Nat :=
  if s.attr .mgmtNodeAddress = 0xFFFFFFFF then none else some (s.attrN .mgmtNodeAddress)

/-- A packet enters a GCC-M queue of a port, which in FEATHERED starts a wake when `wake_on_gcc` is 1 (R359). -/
def queueGccM (p : Nat) (control : Bool) (pkt : List Byte) (s : State) : State :=
  let x := s.line p
  let g := x.gcc
  let g := if control then { g with control := g.control ++ [pkt] } else { g with general := g.general ++ [pkt] }
  let wakes := s.attr .featherState p = 4 && s.attr .featherWakeOnGcc p = 1 && x.feather.wake.isNone
  s.setLine p { x with gcc := g, feather := if wakes then { x.feather with wake := some .wake } else x.feather }

/-- A queue of a port has room for a packet of so many bytes. -/
def gccRoom (s : State) (p : Nat) (control : Bool) (n : Nat) : Bool :=
  let g := (s.line p).gcc
  if control then decide (queueBytes g.control + n ≤ 4096) else decide (queueBytes g.general + n ≤ 65536)

/-- A packet, without its CRC, goes to a receive buffer (R352): discarded when the buffer is full. -/
def bufferGcc (p : Nat) (isM linkLocal : Bool) (b : List Byte) (s : State) (waits : Bool := false) : State :=
  let x := s.line p
  let l := if isM then x.gccMBuf else x.gccUBuf
  if (if isM then 1048576 else 262144) < bufferBytes l + b.length then
    s.bump (if isM then .gccMRxOverrun else .gccURxOverrun) p
  else
    let l' := l ++ [⟨b, linkLocal, s.tick.toNat, waits⟩]
    let s := s.setLine p (if isM then { x with gccMBuf := l' } else { x with gccUBuf := l' })
    if l.isEmpty then raise 0x0A03 p noIndex [(24, 1, b01 (!isM))] s else s

/-- A gate write of R153 on one gate. -/
def gateRequest (group stop c2l : Bool) (i : Nat) (s : State) : State :=
  let g := s.gates
  let g := match group, stop, c2l with
    | false, true, true => { g with stopChC2l := nsIns g.stopChC2l i }
    | false, true, false => { g with stopChL2c := nsIns g.stopChL2c i }
    | false, false, true => { g with relChC2l := nsIns g.relChC2l i }
    | false, false, false => { g with relChL2c := nsIns g.relChL2c i }
    | true, true, true => { g with stopGrpC2l := nsIns g.stopGrpC2l i }
    | true, true, false => { g with stopGrpL2c := nsIns g.stopGrpL2c i }
    | true, false, true => { g with relGrpC2l := nsIns g.relGrpC2l i }
    | true, false, false => { g with relGrpL2c := nsIns g.relGrpL2c i }
  { s with gates := { g with pending := true } }

/-- A remote gate payload has the length and values of Table 6. -/
def gatePayloadOk (b : List Byte) : Bool :=
  b.length = 8 && (fieldAt b 0 1 = 1 || fieldAt b 0 1 = 2) && decide (fieldAt b 1 1 ≤ 1) &&
    fieldAt b 2 1 ≠ 0 && decide (fieldAt b 2 1 < 4) && fieldAt b 3 1 = 0 && fieldAt b 6 2 = 0 &&
    decide (fieldAt b 4 2 < (if fieldAt b 1 1 = 0 then 4096 else 512))

/-- An own packet of type 0x01 (R351). -/
def remoteGate (p : Nat) (b : List Byte) (s : State) : State :=
  let pay := b.drop 12
  let src := gccSrc b
  let ok := s.attr .mgmtRemoteGateEnable = 1 &&
    (List.range 4).any (fun j => s.attrN .mgmtRemoteGateSrc j = src) && gatePayloadOk pay
  let op := fieldAt pay 0 1
  let dir := fieldAt pay 2 1
  let idx := fieldAt pay 4 2
  let s :=
    if ok then
      let one := fun (c2l : Bool) (s : State) => gateRequest (fieldAt pay 1 1 = 1) (op = 1) c2l idx s
      let s := if bitOf dir 0 then one true s else s
      let s := if bitOf dir 1 then one false s else s
      s.bump .gccMRemoteGateApplied p
    else s.bump .gccMRemoteGateRefused p
  raise 0x0A04 p noIndex [(24, 1, b01 ok), (25, 1, op), (26, 1, fieldAt pay 1 1), (27, 1, dir), (28, 2, idx),
    (32, 4, src)] s

/-- Firmware forwards a packet that came on port `p` for another node: step 3 of R349. -/
def forwardGcc (p : Nat) (b : List Byte) (s : State) : State :=
  let hop := fieldAt b 1 1
  if hop ≤ 1 then s.bump .gccMRxExpired p
  else
    let fwd := withCrc (overlay b 1 [BitVec.ofNat 8 (hop - 1)])
    let ctl : Bool := fieldAt b 8 1 = 1
    let s := s.bump .gccMForwarded p
    if gccRoom s (1 - p) ctl fwd.length then queueGccM (1 - p) ctl fwd s else s

/-- Packets that came for other nodes while firmware was away are forwarded once it serves again, in the order in which they came
(R111). -/
def forwardHeld (s : State) : State :=
  [0, 1].foldl (fun s p =>
    let held := (s.line p).gccMBuf.filter (fun r => r.waits)
    let s := s.setLine p { s.line p with gccMBuf := (s.line p).gccMBuf.filter (fun r => !r.waits) }
    held.foldl (fun s r => forwardGcc p r.bytes s) s) s

/-- GCC_M_PACKET_RECEIVED (R349): the next packet that the channel's bytes have brought, with its CRC; `whole` says that its framing held,
with no abort and no rejected block 0 within it. -/
def execGccMPacketReceived (port : Fin 2) (packet : List Byte) (whole : Bool) (s : State) :
    Host.Outcome State Fault Refusal :=
  let p : Nat := port
  let n := packet.length - 4
  let b := packet.take n
  let x := s.line p
  .next (if x.gccMIn.done.head? ≠ some (packet, whole) then s
    else
    let s := s.setLine p { x with gccMIn := { x.gccMIn with done := x.gccMIn.done.tail } }
    if !whole || packet.length < 16 || crc32c b ≠ fieldAt packet n 4 || fieldAt b 10 2 + 12 ≠ n then
      s.bump .gccMRxBad p
    else
      let s := s.bump .gccMRxPackets p
      let own := gccLinkLocal b || ownAddress s = some (gccDst b)
      if own && fieldAt b 8 1 = 1 then remoteGate p b s
      else if own || s.attr .mgmtForwardEnable = 0 then bufferGcc p true (gccLinkLocal b) b s
      else if s.fwServing then forwardGcc p b s
      else bufferGcc p true false b s true)

/-- GCC_U_PACKET_RECEIVED (R346, R347, R352): the next packet of the channel; framing and CRC only. -/
def execGccUPacketReceived (port : Fin 2) (packet : List Byte) (whole : Bool) (s : State) :
    Host.Outcome State Fault Refusal :=
  let p : Nat := port
  let n := packet.length - 4
  let b := packet.take n
  let x := s.line p
  .next (if x.gccUIn.done.head? ≠ some (packet, whole) then s
    else
    let s := s.setLine p { x with gccUIn := { x.gccUIn with done := x.gccUIn.done.tail } }
    if !whole || packet.length < 5 || crc32c b ≠ fieldAt packet n 4 then s.bump .gccURxBad p
    else bufferGcc p false false b (s.bump .gccURxPackets p))

/-- The conditions on a GCC-M packet that the host sends (R364): a field that is wrong. -/
def gccSendBad (b : List Byte) : Bool :=
  fieldAt b 0 1 % 16 ≠ 1 || fieldAt b 1 1 = 0 || fieldAt b 10 2 + 12 ≠ b.length || fieldAt b 8 1 ≠ 0 ||
    fieldAt b 0 1 / 16 % 8 ≠ 0 || fieldAt b 4 1 / 4 ≠ 0 || fieldAt b 7 1 / 4 ≠ 0 || fieldAt b 9 1 ≠ 0

/-- The device's own address written in src (R350). -/
def withSrc (s : State) (b : List Byte) : List Byte := overlay b 5 (leBytes 3 (s.attrN .mgmtNodeAddress % 262144))

/-- SY_GCC_SEND (R364, Table 14). -/
def execSyGccSend (c : CmdRef) (dma : List Byte) (s : State) : Host.Outcome State Fault Refusal :=
  let pkt := fun (s : State) (sid : Nat) (e : List Byte) => readArea s sid (fieldAt e 24 8) (fieldAt e 18 2) dma
  .next (serve 0x0A02 anyForm [(16, 4), (24, 8)]
    (fun s sid e =>
      let p := fieldAt e 16 1
      let n := fieldAt e 18 2
      let b := pkt s sid e
      if fieldAt e 17 1 = 0 then
        [(decide (1 < p) || decide (n < 12) || decide (1036 < n) || areaBad s sid (fieldAt e 24 8) n, .eRange),
         (decide (12 ≤ n) && decide (n ≤ 1036) && !areaBad s sid (fieldAt e 24 8) n && gccSendBad b, .eBadParam),
         (!gccRoom s p false (n + 4) || (ownAddress s = none && !gccLinkLocal b), .eState)]
      else
        [(decide (1 < p) || decide (1 < fieldAt e 17 1) || n = 0 || decide (1036 < n) ||
            areaBad s sid (fieldAt e 24 8) n, .eRange),
         (gated s (6 + p) || decide (65536 < queueBytes (s.line p).gcc.u + n + 4), .eState)])
    (fun s c e =>
      let p := fieldAt e 16 1
      let b := pkt s c.session e
      if fieldAt e 17 1 = 0 then
        let s := queueGccM p false (withCrc (withSrc s b)) s
        (s, .final .ok [(16, 4, 65536 - queueBytes (s.line p).gcc.general)])
      else
        let x := s.line p
        let s := s.setLine p { x with gcc := { x.gcc with u := x.gcc.u ++ [withCrc b] } }
        (s, .final .ok [(16, 4, 65536 - queueBytes (s.line p).gcc.u)]))
    c s)

/-- A record of SY_GCC_RECEIVE (R364). -/
def gccRecordBytes (r : GccRecord) : List Byte :=
  let n := r.bytes.length
  layFields 16 [(0, 2, n), (2, 1, b01 r.linkLocal), (8, 8, r.tick)] ++ padTo ((n + 7) / 8 * 8) r.bytes

/-- The records that fit in so many bytes, oldest first. -/
def takeRecords : Nat → List GccRecord → List GccRecord
  | _, [] => []
  | n, r :: t =>
    let k := (gccRecordBytes r).length
    if k ≤ n then r :: takeRecords (n - k) t else []

/-- SY_GCC_RECEIVE (R364, Table 14). -/
def execSyGccReceive (c : CmdRef) (s : State) : Host.Outcome State Fault Refusal :=
  .next (serve 0x0A03 anyForm [(16, 2), (20, 4), (24, 8)]
    (fun s sid e =>
      let n := fieldAt e 20 4
      [(decide (1 < fieldAt e 16 1) || decide (1 < fieldAt e 17 1) || decide (n < 64) || decide (65536 < n) ||
          ((s.sess sid).onDie && decide (8192 < n)) || areaBad s sid (fieldAt e 24 8) n, .eRange),
       (fieldAt e 17 1 = 1 && gated s (6 + fieldAt e 16 1), .eState)])
    (fun s c e =>
      let p := fieldAt e 16 1
      let x := s.line p
      let isM : Bool := fieldAt e 17 1 = 0
      let l := if isM then x.gccMBuf else x.gccUBuf
      let got := takeRecords (fieldAt e 20 4) l
      let rest := l.drop got.length
      let data := (got.map gccRecordBytes).flatten
      let s := s.setLine p (if isM then { x with gccMBuf := rest } else { x with gccUBuf := rest })
      (writeArea s c.session (fieldAt e 24 8) data,
        .final .ok [(16, 4, got.length), (20, 4, data.length), (24, 4, rest.length)]))
    c s)

/-- SY_GCC_GATE (R365): builds a remote gate packet and places it in the control queue. -/
def execSyGccGate (c : CmdRef) (s : State) : Host.Outcome State Fault Refusal :=
  let pay := fun (e : List Byte) => layFields 8
    [(0, 1, fieldAt e 24 1), (1, 1, fieldAt e 25 1), (2, 1, fieldAt e 26 1), (4, 2, fieldAt e 28 2)]
  .next (serve 0x0A04 anyForm [(16, 3), (20, 4), (24, 3), (28, 2)]
    (fun s _ e =>
      [(decide (1 < fieldAt e 16 1) || decide (1 < fieldAt e 17 1) || fieldAt e 18 1 = 0 ||
          decide (262143 < fieldAt e 20 4) || !gatePayloadOk (pay e), .eRange),
       (!gccRoom s (fieldAt e 16 1) true 24, .eState)])
    (fun s _ e =>
      let b := layFields 12 [(0, 1, 128 * fieldAt e 17 1 + 1), (1, 1, fieldAt e 18 1), (2, 3, fieldAt e 20 4),
        (8, 1, 1), (10, 2, 8)] ++ pay e
      (queueGccM (fieldAt e 16 1) true (withCrc (withSrc s b)) s, .final .ok []))
    c s)

/-! ### Feathering (R353 to R363) -/

/-- Replaces the feather record of a port. -/
def setFeather (p : Nat) (f : Feather) (s : State) : State := s.setLine p { s.line p with feather := f }

/-- Enters a feather state and raises `feather_state` (R353, Table 16). -/
def featherEnter (p st : Nat) (s : State) : State :=
  let f := (s.line p).feather
  let s := setFeather p { f with start := s.tick.toNat } s
  raise 0x0A01 p noIndex [(24, 1, st), (25, 1, f.seq), tickFld s 32] (s.setAttr .featherState p 0 st)

/-- The same, and the hold of the port's defects begins or ends with it (R375). -/
def featherGoto (p st : Nat) (s : State) : State := settle (freezeBoundary p (featherEnter p st s))

/-- The final response of op 0, if it is owed (Table 13, R363). -/
def endRequest (p outcome reason : Nat) (s : State) : State :=
  let f := (s.line p).feather
  match f.request with
  | some c =>
    finish c (if outcome = 0 then .ok else .eState) [(16, 1, outcome), (17, 1, reason), tickFld s 24]
      (setFeather p { f with request := none } s)
  | none => s

/-- The final responses of op 1 that are owed. -/
def endWakers (p outcome : Nat) (s : State) : State :=
  let f := (s.line p).feather
  f.wakers.foldl (fun s c => finish c .ok [(16, 1, outcome), tickFld s 24] s) (setFeather p { f with wakers := [] } s)

/-- Back to ACTIVE with the signals of R357: WAKE in 64 frames and 16 words of WAKE_ABORT. -/
def featherReturn (p outcome : Nat) (s : State) : State :=
  let f := (s.line p).feather
  let was := s.attr .featherState p
  let s := setFeather p { f with
    wakeFrames := 64, abortWords := 16, refuse := none, wake := none, rxCode := 0, other := 0, written := false } s
  let s := if was = 2 || was = 3 then s.bump .featherAborts p else s
  -- domains whose ramp had begun turn back, and the directions serve again
  let s := if f.written then
      let s := (featherDomains p).foldl domainStart s
      s.setConv p { s.conv p with rxIn := true, txIn := true }
    else s
  endWakers p outcome (endRequest p outcome 0 (featherGoto p 0 s))

/-- The reason for which a REQUEST is refused (R355). -/
def refuseReason (s : State) (p : Nat) : Option Nat :=
  if s.attr .featherAccept p = 0 then some 1
  else if portMember s p (fun _ => true) then some 2
  else if clockSelected s p then some 3
  else none

/-- The answer to a REQUEST is withheld (R355). -/
def withholds (s : State) (p : Nat) : Bool :=
  (s.conv p).fg.isSome || s.attr .convTestMode p = 1 || (s.tx p).change.isSome ||
    (match s.boot.act with | some a => a.paused | none => false) || s.attr .mrState p ≠ 8

/-- The receiving sequencer of a port at a boundary: the accepted code acts by state (R355 to R357). -/
def featherRx (p : Nat) (s : State) : State :=
  let f := (s.line p).feather
  match s.attrN .featherState p with
  | 0 =>
    if f.rxCode = 1 && f.wakeFrames = 0 then
      -- a REQUEST that was refused stays refused
      if f.refuse.any (fun r => r.1 = f.rxSeq) then s
      else match refuseReason s p with
      | some r => setFeather p { f with refuse := some (f.rxSeq, r) } s
      | none =>
        if withholds s p then setFeather p { f with refuse := none } s
        else featherGoto p 2 (setFeather p { f with refuse := none, seq := f.rxSeq, other := 0 } s)
    else if f.refuse.isSome then setFeather p { f with refuse := none } s
    else s
  | 1 =>
    if f.wake.isSome then featherReturn p 5 s
    else if f.rxCode = 1 then featherGoto p 2 (setFeather p { f with seq := f.rxSeq, other := 0 } s)
    else if f.rxCode = 2 && f.rxSeq = f.seq then featherGoto p 2 (setFeather p { f with other := 0 } s)
    else if f.rxCode = 3 && f.rxSeq = f.seq then
      endRequest p 1 f.rxReason (featherGoto p 0 s)
    else s
  | 2 | 3 => if f.wake.isSome || f.rxCode = 4 || 3 ≤ f.other then featherReturn p 3 s else s
  | _ => s

/-- A requester with no answer after `timeout_ms` withdraws (R355, R357). -/
def featherTimeout (p : Nat) (s : State) : State :=
  let f := (s.line p).feather
  if s.attr .featherState p = 1 && f.start + msTicks (s.attrN .featherTimeoutMs p) ≤ s.tick.toNat then featherReturn p 2 s
  else s

/-- FEATHER_TIMEOUT (R355). -/
def execFeatherTimeout (port : Fin 2) (s : State) : Host.Outcome State Fault Refusal := .next (featherTimeout port s)

/-- The boundary after the frame that carried countdown 0: STOPPING (R356). -/
def featherCountdownEnd (p : Nat) (s : State) : State :=
  let f := (s.line p).feather
  if s.attr .featherState p = 2 && f.start + 64 ≤ s.tick.toNat then
    abandonRotations p (featherGoto p 3 (setFeather p { f with served := 0 } s)) else s

/-- FEATHER_COUNTDOWN_END (R356). -/
def execFeatherCountdownEnd (port : Fin 2) (s : State) : Host.Outcome State Fault Refusal :=
  .next (featherCountdownEnd port s)

/-- In STOPPING firmware has the records written: the capture unit is disarmed, the engine gets its feather power setting, and the domains
begin to stop (R198, R217, R356, Table 10). -/
def featherWrite (p : Nat) (s : State) : State :=
  let f := (s.line p).feather
  if s.attr .featherState p ≠ 3 || f.written || !s.fwServing then s
    else
      let s := (List.range 12).foldl (fun s c => writeRecord p c s) s
      let s := opcSend (s.attrN .mrTiaCs p) (opcByteFrame (s.attrN .featherOpcPowerReg p) (s.attrN .featherOpcPowerFeather p)) 4 s
      let s := txLeave p (rxLeave p (capDisarm p (abandonRotations p s)))
      (featherDomains p).foldl domainStop (setFeather p { f with written := true } s)

/-- FEATHER_RECORDS_WRITTEN (R356). -/
def execFeatherRecordsWritten (port : Fin 2) (s : State) : Host.Outcome State Fault Refusal := .next (featherWrite port s)

/-- The 50 ms of STOPPING, counted from its start, from the end of a pause or from ready: the records are written by then (R356,
Table 10). -/
def featherBound (p : Nat) (s : State) : State :=
  let f := (s.line p).feather
  if s.attr .featherState p ≠ 3 || f.written then s
  else
    let s := setFeather p { f with served := runNext s.fwServing f.served } s
    if msTicks 50 ≤ f.served then featherWrite p s else s

/-- FEATHERED when the ramp ends (R356). -/
def featherRampEnd (p : Nat) (s : State) : State :=
  let f := (s.line p).feather
  if s.attr .featherState p = 3 && f.written && allStopped s (featherDomains p) then
    let s := setFeather p { f with written := false, beaconRun := 0, beaconLast := s.tick.toNat, beaconLost := false, wordRead := none } s
    let s := mrIdle p (flushCodewords p (rxFieldsReset p s))
    let s := (s.setAttr .convState p 0 4).setAttr .lineTxState p 0 2
    endRequest p 0 0 (featherGoto p 4 s)
  else s

/-- A feathered port that has cause to wake enters WAKING (R359, R360): the engine gets its active power setting, and the
domains start. -/
def wakeStart (p : Nat) (s : State) : State :=
  let f := (s.line p).feather
  match s.attrN .featherState p, f.wake with
  | 4, some cause =>
    let s := s.bump (if cause = .abort then .featherAborts else .featherWakes) p
    let s := setFeather p { f with wake := none, written := false } s
    let s := opcSend (s.attrN .mrTiaCs p) (opcByteFrame (s.attrN .featherOpcPowerReg p) (s.attrN .featherOpcPowerActive p)) 4 s
    let s := s.setMr p { s.mr p with fineNext := true, stale := List.range 16 }
    featherGoto p 5 ((featherDomains p).foldl domainStart (s.setAttr .convState p 0 0))
  | _, _ => s

/-- WAKE_START (R360). -/
def execWakeStart (port : Fin 2) (s : State) : Host.Outcome State Fault Refusal := .next (wakeStart port s)

/-- WAKING at a boundary (Table 9): verify calibration once the domains run, ACTIVE when the transmit direction sends
frames again. -/
def wakingBoundary (p : Nat) (s : State) : State :=
  let f := (s.line p).feather
  if s.attr .featherState p ≠ 5 then s
  else if !f.written then
    if allRun s (featherDomains p) then fgRequest p false false (loadRecords p (setFeather p { f with written := true } s))
    else s
  else if (s.conv p).txIn then endWakers p 4 (featherGoto p 0 (setFeather p { f with written := false } s))
  else s

/-- The feathering of a port at a boundary. -/
def featherBoundary (p : Nat) (s : State) : State :=
  wakingBoundary p (wakeStart p (featherRampEnd p (featherBound p (featherCountdownEnd p (featherTimeout p (featherRx p s))))))

/-- SY_FEATHER_REQUEST (R354, R363): op 0, and any op Table 13 does not give. -/
def execSyFeatherRequest (c : CmdRef) (s : State) : Host.Outcome State Fault Refusal :=
  .next (serve 0x0A01 (fun e => fieldAt e 17 1 ≠ 1) [(16, 2)]
    (fun s _ e =>
      let p := fieldAt e 16 1
      [(decide (1 < p) || decide (1 < fieldAt e 17 1), .eRange),
       (!portActive s p || s.attr .mrState p ≠ 8 || portMember s p (fun _ => true) || clockSelected s p ||
          (s.conv p).fg.isSome || s.attr .convTestMode p = 1 || (s.tx p).change.isSome, .eState)])
    (fun s c e =>
      let p := fieldAt e 16 1
      let f := (s.line p).feather
      let q := (s.attrN .featherSeq p + 1) % 256
      let s := setFeather p { f with seq := q, request := some c, refuse := none, rxCode := 0 } s
      (featherGoto p 1 (s.setAttr .featherSeq p 0 q), .accept))
    c s)

/-- SY_FEATHER_WAKE (R357, R363): op 1 wakes, aborts or withdraws at the next boundary. -/
def execSyFeatherWake (c : CmdRef) (s : State) : Host.Outcome State Fault Refusal :=
  .next (serve 0x0A01 (fun e => fieldAt e 17 1 = 1) [(16, 2)]
    (fun s _ e =>
      let p := fieldAt e 16 1
      [(decide (1 < p), .eRange), (portActive s p || s.attr .featherState p = 5, .eState)])
    (fun s c e =>
      let p := fieldAt e 16 1
      let f := (s.line p).feather
      let s := setFeather p { f with wake := some (f.wake.getD .wake), wakers := f.wakers ++ [c] } s
      (if s.attr .featherState p = 4 then wakeStart p s else s, .accept))
    c s)

/-! ### The beacon (R358, R359) -/

/-- A beacon word of a code, with its CRC-8 over bits 31 to 8. -/
def beaconWord (code : Nat) : Nat :=
  let hi := [BitVec.ofNat 8 0xB5, BitVec.ofNat 8 code, BitVec.ofNat 8 0]
  ((0xB5 * 256 + code) * 256) * 256 + crc8 hi

/-- The word that a port sends now: none when it sends no tone. -/
def beaconNow (s : State) (p : Nat) : Option Nat :=
  if s.attr .featherState p = 4 then some 1
  else if s.attr .featherState p = 5 then some 2
  else if (s.line p).feather.abortWords ≠ 0 then some 3
  else none

/-- At a boundary whose count is a multiple of 32 the next word is written to the engine; 0 stops the tone (R358). -/
def beaconTx (p : Nat) (s : State) : State :=
  let f := (s.line p).feather
  if s.tick.toNat % 32 ≠ 0 || f.wordTick = s.tick.toNat then s
  else
    let put := fun (v : Nat) (s : State) =>
      opcSend (s.attrN .mrTiaCs p) (opcWordFrame (s.attrN .featherOpcBeaconTxReg p) v) 7 s
    match beaconNow s p with
    | some code =>
      put (beaconWord code) (setFeather p { f with
        wordTick := s.tick.toNat, tone := true
        abortWords := if code = 3 then f.abortWords - 1 else f.abortWords } s)
    | none => if f.tone then put 0 (setFeather p { f with wordTick := s.tick.toNat, tone := false } s) else s

/-- BEACON_WORD_TX (R358). -/
def execBeaconWordTx (port : Fin 2) (s : State) : Host.Outcome State Fault Refusal := .next (beaconTx port s)

/-- The next word may have ended: each is read once, within 2 ticks of its end, and lasts 32 (R358). -/
def wordDue (s : State) (p : Nat) : Bool :=
  match (s.line p).feather.wordRead with | some t => decide (t + 30 ≤ s.tick.toNat) | none => true

/-- BEACON_WORD_RX (R358, R359): a word read from the engine; two valid words of WAKE or WAKE_ABORT start a wake. -/
def execBeaconWordRx (port : Fin 2) (word : Word) (s : State) : Host.Outcome State Fault Refusal :=
  let p : Nat := port
  let w := word.toNat
  let f := (s.line p).feather
  let code := w / 65536 % 256
  let valid := w / 16777216 = 0xB5 && crc8 (beBytes 3 (w / 256)) = w % 256
  .next (if s.attr .featherState p ≠ 4 || !wordDue s p then s
    else if opcFlagged s (s.attrN .mrTiaCs p) then s.bump .pinsOpcSkipped
    else
    let f := { f with wordRead := some s.tick.toNat }
    let s := opcSend (s.attrN .mrTiaCs p) (opcReadFrame (s.attrN .featherOpcBeaconRxReg p)) 8 s
    if !valid then setFeather p { f with beaconRun := 0 } s
    else
      let run := runNext (code = 2 || code = 3) f.beaconRun
      let s := setFeather p { f with
        beaconRun := run, beaconLast := s.tick.toNat, beaconLost := false
        wake := if 2 ≤ run && f.wake.isNone then some (if code = 3 then .abort else .wake) else f.wake } s
      wakeStart p (s.setAttr .featherBeaconOk p 0 1))

/-- No valid word in 128 ticks (R359). -/
def beaconLost (p : Nat) (s : State) : State :=
  let f := (s.line p).feather
  if s.attr .featherState p = 4 && !f.beaconLost && f.beaconLast + 128 ≤ s.tick.toNat then
    raise 0x0A02 p noIndex [] ((setFeather p { f with beaconLost := true } s).setAttr .featherBeaconOk p 0 0)
  else s

/-- BEACON_LOST (R359). -/
def execBeaconLost (port : Fin 2) (s : State) : Host.Outcome State Fault Refusal := .next (beaconLost port s)

/-- A port reset meets feathering (Table 10): ACTIVE, with the commands ABORTED_BY_RESET. A tone goes on until its 0 is written (R358). -/
def featherAtReset (p : Nat) (s : State) : State :=
  let f := (s.line p).feather
  let s := match f.request with | some c => finish c .abortedByReset [] s | none => s
  let s := f.wakers.foldl (fun s c => finish c .abortedByReset [] s) s
  let was := s.attr .featherState p
  let s := setFeather p { tone := f.tone, wordTick := f.wordTick } s
  if was = 0 then s else featherEnter p 0 s

end Sys2Proof.Machine
end

