-- ==== Sys2Proof/Machine/Dram.lean ====
section
/-!
DEFINITION. Sys2Proof/Machine/Dram.lean: DRAM: addresses, the chip-kill code, bursts and the fill map (spec/14).
-/
namespace Sys2Proof.Machine

/-! ### Addresses (R463, R464) -/

/-- The channel of a device address. -/
def addrChannel (a : Nat) : Nat := a / 64 % 2

/-- Bank group, bank, column[10:4] and row of a device address (Table 2). -/
def ddrPlace (a : Nat) : Nat × Nat × Nat × Nat :=
  let ca := a / 128
  (ca % 8, ca / 8 % 4, ca / 32 % 128, ca / 4096 % 65536)

/-- The fill block of a device address (R468). -/
def addrBlock (a : Nat) : Nat := a / 1048576

/-- Where contexts, key-wrap slots and the host region begin (Table 3). -/
def contextBase : Nat := 0x80000000
def wrapBase : Nat := 0x88000000
def hostBase : Nat := 0x8C000000

/-- The size of the device address space. -/
def dramSize : Nat := 34359738368

/-- The address of a context, of a key-wrap slot and of a flow entry. -/
def contextAddr (sa : Nat) : Nat := contextBase + 128 * sa
def wrapAddr (sa : Nat) : Nat := wrapBase + 64 * sa
def flowAddr (e : Nat) : Nat := 64 * e

/-! ### Bytes -/

/-- The canonical form of DRAM: addresses rise, and no listed byte is the one that an unlisted address reads as. -/
def Memory.wf (m : Memory) : Bool := Tab.wf 0 m.dram

/-- The bytes that DRAM holds from an address. -/
def dramBytes (s : State) (a n : Nat) : List Byte := (List.range n).map (fun k => Tab.get 0 s.memory.dram (a + k))

/-- Stores bytes from an address. -/
def dramStore (a : Nat) (d : List Byte) (s : State) : State :=
  { s with memory := { s.memory with dram := memWrite s.memory.dram a d } }

/-- Accesses that a channel has served at a priority of Table 4 are counted (R471, R639). -/
def ddrServed (ch prio n : Nat) (s : State) : State := s.occurs 0x050 (5 * ch + prio - 1) n

/-- Accesses of the present tick that a channel has served at a priority. -/
def slotsUsed (s : State) (ch prio : Nat) : Nat := Tab.get 0 s.memory.used (8 * ch + prio)

/-- One access to the burst at an address takes a slot (R471). -/
def ddrAccess (a prio : Nat) (s : State) : State :=
  let ch := addrChannel a
  let s := ddrServed ch prio 1 s
  { s with memory := { s.memory with used := Tab.put 0 s.memory.used (8 * ch + prio) (slotsUsed s ch prio + 1) } }

/-- Write-backs of a channel that wait, as far as the slots of their priority and those that lookups leave go. -/
def backDemand (s : State) (ch : Nat) : Nat :=
  min (s.memory.wbq.countP (fun w => w.1 % 2 = ch)) (360 - slotsUsed s ch 1)

/-- Slots of a channel that a requester finds free in the present tick (R471, Table 4): those of its priority and those that higher ones
leave unused, where a write-back that waits has work. Lookups have their 320. -/
def slotsFree (s : State) (ch prio : Nat) : Nat :=
  let u := slotsUsed s ch
  match prio with
  | 1 => 320 - u 1
  | 2 => 360 - (u 1 + u 2)
  | 3 => 384 - (u 1 + u 2 + backDemand s ch + u 3)
  | 4 => 400 - (u 1 + u 2 + backDemand s ch + u 3 + u 4)
  | _ => 400 - (u 1 + u 2 + backDemand s ch + u 3 + u 4 + u 5)

/-- The block that holds an address is filled. -/
def isFilled (s : State) (a : Nat) : Bool := bitOf s.memory.filled (addrBlock a)

/-- Blocks filled (`filled_blocks`). -/
def filledBlocks (s : State) : Nat := (bitsBelow 32768 s.memory.filled).length

/-- The channel serves accesses: trained and not failed (R461). -/
def ddrReady (s : State) (ch : Nat) : Bool := s.attr .memDdrState ch = 2

/-- The link shows writes of the present tick that fail for good in a range (R462). -/
def linkLost (s : State) (lo hi : Nat) : List Nat :=
  (s.memory.link.filter (fun x => decide (lo ≤ x.1) && decide (x.1 < hi) && decide (x.2.retries = 4))).map (·.1)

/-- The blocks of a range that a fill cannot write whole: those with a burst that fails, or all with a channel that does not serve (R461,
R468). -/
def fillLost (first count : Nat) (s : State) : List Nat :=
  if ddrReady s 0 && ddrReady s 1 then nsUnion [] ((linkLost s (first * 1048576) ((first + count) * 1048576)).map addrBlock)
  else (List.range count).map (first + ·)

/-- A fill writes zero data in blocks; it marks filled those in which every burst was written (R468). -/
def fillBlocks (first count : Nat) (s : State) : State :=
  let lo := first * 1048576
  let hi := (first + count) * 1048576
  let lost := linkLost s lo hi
  let mask := (fillLost first count s).foldl (fun m b => if bitOf m b then m ^^^ 2 ^ b else m) ((2 ^ count - 1) <<< first)
  { s with memory := { s.memory with
      dram := s.memory.dram.filter (fun e => decide (e.1 < lo) || decide (hi ≤ e.1) ||
        !ddrReady s (addrChannel e.1) || lost.contains (e.1 / 64 * 64))
      filled := s.memory.filled ||| mask } }

/-! ### The chip-kill code (R465, R466) -/

/-- Multiplication in GF(2^8) with field polynomial x^8 + x^4 + x^3 + x^2 + 1. -/
def gfMul (a b : Nat) : Nat :=
  ((List.range 8).foldl (fun (r : Nat × Nat) i =>
    (if bitOf b i then r.1 ^^^ r.2 else r.1, if 128 ≤ r.2 then (2 * r.2) ^^^ 0x11D else 2 * r.2)) (0, a)).1

/-- A power of α = 0x02. -/
def gfPow : Nat → Nat
  | 0 => 1
  | n + 1 => gfMul 2 (gfPow n)

/-- The power of x that symbol d stands for: symbol 0 first (log entry 65). -/
def symbolPower (d : Nat) : Nat := 9 - d

/-- The check symbols 8 and 9 of a codeword whose data symbols are given: they make both syndromes zero. 0xF4 is the inverse of α + 1. -/
def checkSymbols (data : List Nat) : Nat × Nat :=
  let r := (List.range 8).foldl (fun (r : Nat × Nat) d =>
    (r.1 ^^^ data.getD d 0, r.2 ^^^ gfMul (data.getD d 0) (gfPow (symbolPower d)))) (0, 0)
  let c := gfMul (r.1 ^^^ r.2) 0xF4
  (c, r.1 ^^^ c)

/-- The 80 bytes of a burst as the devices hold it: device d supplies symbol d of every codeword (R465). -/
def burstCode (data : List Byte) : List Byte :=
  let checks := (List.range 8).map (fun j => checkSymbols ((List.range 8).map (fun d => (byteAt data (8 * d + j)).toNat)))
  bytesAt data 0 64 ++ (checks.map (fun c => BitVec.ofNat 8 c.1)) ++ checks.map (fun c => BitVec.ofNat 8 c.2)

/-- The two syndromes of codeword j. Stored bursts are codewords (`burstCode`), so they depend on the error pattern alone. -/
def syndromes (err : List Byte) (j : Nat) : Nat × Nat :=
  (List.range 10).foldl (fun (r : Nat × Nat) d =>
    let e := (byteAt err (8 * d + j)).toNat
    (r.1 ^^^ e, r.2 ^^^ gfMul e (gfPow (symbolPower d)))) (0, 0)

/-- Syndromes that a single error in symbol d explains. -/
def fitsSymbol (d : Nat) (v : Nat × Nat) : Bool := v.1 ≠ 0 && v.2 = gfMul v.1 (gfPow (symbolPower d))

/-- How a burst decodes. -/
inductive Decoded where
  | clean | corrected (device : Nat) | uncorrectable
deriving DecidableEq, Repr

/-- R466: with a device marked failed, erasure decoding; otherwise the errors of every codeword lie on one device. -/
def decodeBurst (failed : Nat) (err : List Byte) : Decoded :=
  let syn := (List.range 8).map (syndromes err)
  let bad := syn.filter (fun v => v ≠ (0, 0))
  if failed < 10 then
    if bad.all (fitsSymbol failed) then (if bad.isEmpty then .clean else .corrected failed) else .uncorrectable
  else if bad.isEmpty then .clean
  else
    match (List.range 10).find? (fun d => bad.all (fitsSymbol d)) with
    | some d => .corrected d
    | none => .uncorrectable

/-- The 64 data bytes as they leave the decoder: the error pattern, less what was corrected on a device. -/
def burstData (data err : List Byte) (fix : Option Nat) : List Byte :=
  (List.range 64).map (fun k =>
    let e := byteAt data k ^^^ byteAt err k
    if fix = some (k / 8) then e ^^^ BitVec.ofNat 8 (syndromes err (k % 8)).1 else e)

/-- An uncorrectable burst is counted, and the first of its channel in a second is reported (R466). -/
def burstBad (a : Nat) (s : State) : State :=
  let ch := addrChannel a
  let s := s.count .memDdrUncorrectable ch
  if s.memory.reported.contains ch then s
  else raise 0x0E01 5 noIndex [(24, 1, ch), (32, 8, a)]
    { s with memory := { s.memory with reported := ch :: s.memory.reported } }

/-- Reads the burst at an address (R462, R466, R469): its data, or none for poison; and how it decoded. -/
def readBurst (a : Nat) (n : Burst) (s : State) : (Option (List Byte) × Decoded) × State :=
  let ch := addrChannel a
  let s := if n.retries = 0 then s else s.count .memDdrCrcRetries ch 0 (min 3 n.retries.val)
  if !isFilled s a || !ddrReady s ch || n.retries = 4 then ((none, .uncorrectable), burstBad a s)
  else
    let data := dramBytes s a 64
    match decodeBurst (s.attrN .memDdrFailedDevice ch) n.err with
    | .clean => ((some (burstData data n.err none), .clean), s)
    | .corrected d =>
      let s := s.count .memDdrCorrected ch
      let s := if s.attrN .memDdrFailedDevice ch < 10 then s else s.count .memDdrDeviceCorrected ch d
      ((some (burstData data n.err (some d)), .corrected d), s)
    | .uncorrectable => ((none, .uncorrectable), burstBad a s)

/-- What an access to an address meets: the first listed for it. -/
def linkTake (a : Nat) (s : State) : Burst × State :=
  match s.memory.link.find? (fun x => x.1 = a) with
  | some x => (x.2, { s with memory := { s.memory with link := s.memory.link.erase x } })
  | none => ({}, s)

/-- Reads the burst at an address at a priority: its data, or none for poison. -/
def readAt (a prio : Nat) (s : State) : (Option (List Byte) × Decoded) × State :=
  let (n, s) := linkTake a s
  readBurst a n (ddrAccess a prio s)

/-- Writes a burst that meets so much: whether it was written. One that still fails after the third retry, and every one to a channel that
does not serve, is uncorrectable and leaves the burst as it was (R461, R462). -/
def writeBurst (a : Nat) (d : List Byte) (n : Burst) (s : State) : Bool × State :=
  let ch := addrChannel a
  let s := if n.retries = 0 then s else s.count .memDdrCrcRetries ch 0 (min 3 n.retries.val)
  if !ddrReady s ch || n.retries = 4 then (false, burstBad a s) else (true, dramStore a d s)

/-- Writes a burst at a priority: whether it was written. -/
def writeAt (a prio : Nat) (d : List Byte) (s : State) : Bool × State :=
  let (n, s) := linkTake a s
  writeBurst a d n (ddrAccess a prio s)

/-- At a latch: a device whose corrections of the second reach the threshold is marked failed, one to a channel (R467). -/
def chipkillLatch (s : State) : State :=
  let s := { s with memory := { s.memory with reported := [] } }
  [0, 1].foldl (fun s ch =>
    if s.attrN .memDdrFailedDevice ch < 10 then s
    else
      match (List.range 10).find? (fun d =>
          decide (s.attrN .memChipkillThreshold ≤ Tab.get 0 s.acc (Attr.key .memDdrDeviceCorrected ch d))) with
      | some d => raise 0x0E02 5 noIndex [(24, 1, ch), (25, 1, d)] (s.setAttr .memDdrFailedDevice ch 0 d)
      | none => s) s

end Sys2Proof.Machine
end

