-- ==== Sys2Proof/Machine/Masked.lean ====
section
/-!
DEFINITION. Sys2Proof/Machine/Masked.lean: CTR_DRBG with AES-256 and its derivation function (SP 800-90A), and AES-256, the counter and
GHASH computed on two Boolean shares (R495, R519, R520). PRESUMED, unsafe: the standard's functions, and the multiplier that the shares use
(log entries 33 and 189).
-/
namespace Sys2Proof.Machine

/-! ### CTR_DRBG (SP 800-90A) -/

/-- Output block `i` of a request. -/
def Drbg.block (g : Drbg) (i : Nat) : List Byte := aesBlock g.key (beBytes 16 ((beNat g.v + 1 + i) % 2 ^ 128))

/-- The update function with 48 bytes of data, after so many output blocks. -/
def Drbg.update (g : Drbg) (blocks : Nat) (data : List Byte) : Drbg :=
  let t := xorBytes ((List.range 3).flatMap (fun i => g.block (blocks + i))) (padTo 48 data)
  ⟨t.take 32, t.drop 32⟩

/-- The block cipher derivation function: 48 bytes from a string. -/
def drbgDf (input : List Byte) : List Byte :=
  let s := beBytes 4 input.length ++ beBytes 4 48 ++ input ++ [0x80]
  let bcc := fun (key d : List Byte) =>
    (List.range (ceilDiv d.length 16)).foldl (fun c k => aesBlock key (xorBytes c (padTo 16 (bytesAt d (16 * k) 16))))
      (List.replicate 16 0)
  let key := (List.range 32).map (BitVec.ofNat 8)
  let padded := padTo (16 * ceilDiv s.length 16) s
  let t := (List.range 3).flatMap (fun i => bcc key (beBytes 4 i ++ List.replicate 12 0 ++ padded))
  let x1 := aesBlock (t.take 32) (t.drop 32)
  let x2 := aesBlock (t.take 32) x1
  x1 ++ x2 ++ aesBlock (t.take 32) x2

/-- A generator that has no state is instantiated from entropy input and nonce; one that has is reseeded. -/
def Drbg.seed (g : Drbg) (entropy : List Byte) : Drbg :=
  if g.key.isEmpty then (Drbg.mk (List.replicate 32 0) (List.replicate 16 0)).update 0 (drbgDf (padTo 48 entropy))
  else g.update 0 (drbgDf (padTo 32 entropy))

/-- The generator after a request of so many bytes. -/
def Drbg.next (g : Drbg) (n : Nat) : Drbg := g.update (ceilDiv n 16) []

/-- The bytes of a request, and the generator after it. -/
def Drbg.generate (g : Drbg) (n : Nat) : List Byte × Drbg :=
  (((List.range (ceilDiv n 16)).flatMap g.block).take n, g.next n)

/-- Mask bytes that a cog takes in a clock: enough for a block of AES and its key schedule, and one of GHASH. -/
def maskBytes : Nat := 8192

/-- The generator after the requests of so many clocks of a cog. -/
def Drbg.after (g : Drbg) : Nat → Drbg
  | 0 => g
  | n + 1 => (g.after n).next maskBytes

/-- Mask byte `k` of clock `c`. -/
def Drbg.mask (g : Drbg) (c k : Nat) : Nat := (byteAt ((g.after c).block (k / 16)) (k % 16)).toNat

/-! ### Shares (R519) -/

/-- The value that two shares hold. -/
def Shares.value (x : Shares) : List Byte := xorBytes x.a x.b

/-- A value in two shares, under a mask. -/
def maskWith (mask v : List Byte) : Shares := let m := padTo v.length mask; ⟨xorBytes v m, m⟩

/-- The sum of shared values. -/
def Shares.add (x y : Shares) : Shares := ⟨xorBytes x.a y.a, xorBytes x.b y.b⟩

/-- A linear map acts on each share. -/
def Shares.map (f : List Byte → List Byte) (x : Shares) : Shares := ⟨f x.a, f x.b⟩

/-- A public value joins one share. -/
def Shares.plus (x : Shares) (v : List Byte) : Shares := ⟨xorBytes x.a v, x.b⟩

/-- A shared product under a fresh mask: neither share sees both shares of a factor. -/
def mulShares (mul : Nat → Nat → Nat) (r : Nat) (x y : Nat × Nat) : Nat × Nat :=
  (mul x.1 y.1 ^^^ (mul x.1 y.2 ^^^ r), mul x.2 y.2 ^^^ (mul x.2 y.1 ^^^ r))

/-- The inverse of a shared byte: squares act on each share, and each of the seven products takes a mask byte. -/
def invShares (m : Nat → Nat) (x : Nat × Nat) : Nat × Nat :=
  ((List.range 7).foldl (fun (r : (Nat × Nat) × Nat × Nat) i =>
    let q := (aesMul r.2.1 r.2.1, aesMul r.2.2 r.2.2)
    (mulShares aesMul (m i) r.1 q, q)) ((1, 0), x)).1

/-- SubBytes on shares: eight mask bytes stand to a byte. -/
def subShares (m : Nat → Nat) (x : Shares) : Shares :=
  let line := fun (i : Nat) => i ^^^ rotByte i 1 ^^^ rotByte i 2 ^^^ rotByte i 3 ^^^ rotByte i 4
  let inv := fun (k : Nat) => invShares (fun i => m (8 * k + i)) ((byteAt x.a k).toNat, (byteAt x.b k).toNat)
  ⟨(List.range x.a.length).map (fun k => BitVec.ofNat 8 (line (inv k).1 ^^^ 0x63)),
   (List.range x.a.length).map (fun k => BitVec.ofNat 8 (line (inv k).2))⟩

/-- The next word of the key schedule on shares, after the words so far, latest first. -/
def nextWordShares (m : Nat → Nat) (w : List Shares) (i : Nat) : Shares :=
  let t := w.headD {}
  let t := if i % 8 = 0 then
      (subShares (fun k => m (32 * i + k)) (t.map (fun l => l.drop 1 ++ l.take 1))).plus [BitVec.ofNat 8 (aesRcon (i / 8)), 0, 0, 0]
    else if i % 8 = 4 then subShares (fun k => m (32 * i + k)) t else t
  (w.getD 7 {}).add t

/-- The 15 round keys on shares. -/
def keysShares (m : Nat → Nat) (key : Shares) : List Shares :=
  let first := ((List.range 8).map (fun i => key.map (fun l => bytesAt l (4 * i) 4))).reverse
  let words := ((List.range 52).foldl (fun w i => nextWordShares m w (i + 8) :: w) first).reverse
  (List.range 15).map (fun r =>
    ⟨((words.drop (4 * r)).take 4).flatMap (·.a), ((words.drop (4 * r)).take 4).flatMap (·.b)⟩)

/-- One block encrypted on shares, with the mask bytes of its clock: the key schedule takes those below 1,920, round r those from 2,048 +
128 r. -/
def blockShares (m : Nat → Nat) (key block : Shares) : Shares :=
  let ks := keysShares m key
  let sub := fun (r : Nat) => subShares (fun k => m (2048 + 128 * r + k))
  let s := (List.range 13).foldl (fun s r => (((sub r s).map aesShift).map (aesMix [2, 3, 1, 1])).add (ks.getD (r + 1) {}))
    (block.add (ks.getD 0 {}))
  ((sub 13 s).map aesShift).add (ks.getD 14 {})

/-- The block of a counter on shares under mask bytes of its clock. -/
def counterShares (m : Nat → Nat) (block : List Byte) : Shares :=
  maskWith ((List.range 16).map (fun k => BitVec.ofNat 8 (m (4096 + k)))) block

/-- A step of GHASH on shares: the next block joins, and the sum is multiplied by the shared subkey. -/
def ghashShares (m : Nat → Nat) (h : Nat × Nat) (y : Nat × Nat) (block : Nat) : Nat × Nat :=
  mulShares gcmMul (beNat ((List.range 16).map (fun k => BitVec.ofNat 8 (m (4128 + k))))) (y.1 ^^^ block, y.2) h

/-- GHASH of blocks on shares, one to a clock from `c` on. -/
def hashShares (g : Drbg) (c : Nat) (sub : Shares) (blocks : List Nat) : Shares :=
  let h := (beNat sub.a, beNat sub.b)
  let r := (List.range blocks.length).foldl (fun y k => ghashShares (g.mask (c + k)) h y (blocks.getD k 0)) (0, 0)
  ⟨beBytes 16 r.1, beBytes 16 r.2⟩

/-- The text under the counter blocks from 2 on, one to a clock from `c` on: only the sum with the text leaves the shares. -/
def textShares (g : Drbg) (c : Nat) (key : Shares) (nonce text : List Byte) : List Byte :=
  let stream := (List.range (ceilDiv text.length 16)).map (fun i =>
    let m := g.mask (c + i)
    blockShares m key (counterShares m (padTo 12 nonce ++ beBytes 4 (i + 2))))
  xorBytes (xorBytes text (stream.flatMap (·.a))) (stream.flatMap (·.b))

end Sys2Proof.Machine
end

