-- ==== Sys2Proof/Machine/Keys.lean ====
section
/-!
DEFINITION. Sys2Proof/Machine/Keys.lean: the key stores of the vault, check values, random draws, and the layouts of contexts and
key-wrap slots (spec/15, spec/16).
-/
namespace Sys2Proof.Machine

/-! ### Stores (R533) -/

/-- A root slot; none: empty. -/
def State.root (s : State) (i : Nat) : Option RootKey := Tab.get none s.vault.roots i

/-- Replaces a root slot. -/
def State.setRoot (s : State) (i : Nat) (k : Option RootKey) : State :=
  { s with vault := { s.vault with roots := Tab.put none s.vault.roots i k } }

/-- A working key slot; none: empty. -/
def State.slot (s : State) (i : Nat) : Option SlotKey := Tab.get none s.vault.slots i

/-- Replaces a working key slot. -/
def State.setSlot (s : State) (i : Nat) (k : Option SlotKey) : State :=
  { s with vault := { s.vault with slots := Tab.put none s.vault.slots i k } }

/-- A private-key slot; none: empty. -/
def State.pk (s : State) (i : Nat) : Option PkKey := Tab.get none s.vault.pks i

/-- Replaces a private-key slot. -/
def State.setPk (s : State) (i : Nat) (k : Option PkKey) : State :=
  { s with vault := { s.vault with pks := Tab.put none s.vault.pks i k } }

/-- The check value of a key: the first 4 bytes of the encryption of the zero block, in output order (R534). -/
def kcv (key : List Byte) : Nat := fieldAt (aesBlock key (List.replicate 16 0)) 0 4

/-- `root[i].state` and `root[i].kcv`. -/
def rootState (s : State) (i : Nat) : Nat := match s.root i with | some k => k.origin | none => 0
def rootKcv (s : State) (i : Nat) : Nat := match s.root i with | some k => kcv k.key | none => 0

/-- `key_slot[i].state` and `key_slot[i].kcv`. -/
def slotState (s : State) (i : Nat) : Nat := match s.slot i with | some k => 1 + b01 k.exportable | none => 0
def slotKcv (s : State) (i : Nat) : Nat := match s.slot i with | some k => kcv k.key | none => 0

/-- The vault is locked (R560). -/
def vaultLocked (s : State) : Bool := s.attr .secTamperLocked = 1

/-- The vault DRBG as a draw finds it: reseeded from a healthy entropy source when it has no seed, or when 65,536 ticks have passed since
its last reseed (R520, R537). -/
def drbgFresh (s : State) : State :=
  if s.vault.rng.key.isEmpty || (s.attr .cipEntropyState = 1 && decide (s.vault.seeded + 65536 ≤ s.tick.toNat)) then
    let (n, s) := s.draw
    { s with vault := { s.vault with rng := s.vault.rng.seed (Config.entropy n), seeded := s.tick.toNat } }
  else s

/-- The next `n` bytes drawn from the vault DRBG. -/
def drbg (n : Nat) (s : State) : List Byte × State :=
  let s := drbgFresh s
  let g := s.vault.rng.generate n
  (g.1, { s with vault := { s.vault with rng := g.2 } })

/-- The wheels and the vault engine run in `D46` to `D49`, which never start on the AZ6400-CN (R532, R570). -/
def vaultRuns (s : State) : Bool := s.domRuns 49

/-! ### Contexts (Table 3 of 15) -/

def ctxState (c : List Byte) : Nat := fieldAt c 0 1
def ctxDir (c : List Byte) : Nat := fieldAt c 1 1
def ctxFromSlot (c : List Byte) : Bool := bitOf (fieldAt c 2 1) 0
def ctxTagOnly (c : List Byte) : Bool := bitOf (fieldAt c 2 1) 1
def ctxPin (c : List Byte) : Bool := bitOf (fieldAt c 2 1) 2
def ctxHdrLen (c : List Byte) : Nat := fieldAt c 3 1
def ctxSalt (c : List Byte) : Nat := fieldAt c 4 4
def ctxSlot (c : List Byte) : Nat := fieldAt c 8 2
def ctxRoot (c : List Byte) : Nat := fieldAt c 10 1
def ctxChannel (c : List Byte) : Nat := fieldAt c 12 2 % 4096
def ctxEpoch (c : List Byte) : Nat := fieldAt c 16 4
def ctxPnStart (c : List Byte) : Nat := fieldAt c 24 8
def ctxPnLimit (c : List Byte) : Nat := fieldAt c 32 8

/-- The check word of a context holds. -/
def ctxOk (c : List Byte) : Bool := fieldAt c 124 4 = crc32c (bytesAt c 0 124)

/-- A context with its check word, from its first 124 bytes. -/
def sealCtx (body : List Byte) : List Byte := padTo 124 body ++ leBytes 4 (crc32c (padTo 124 body))

/-- A context stays resident for its whole life: an encrypt context, or a pinned one (R501). -/
def ctxStays (c : List Byte) : Bool := ctxDir c = 0 || ctxPin c

/-- A context that has been deleted: state 0 (DESIGN CHOICE, log entry 190: with its other fields 0). -/
def deletedCtx : List Byte := sealCtx []

/-- The context of an SA as DRAM holds it. -/
def dramCtx (s : State) (sa : Nat) : List Byte := dramBytes s (contextAddr sa) 128

/-! ### Key-wrap slots (Table 4 of 16) -/

/-- A key-wrap slot: format, root, SA, KW output, check word. -/
def wrapSlot (format root sa : Nat) (blob : List Byte) : List Byte :=
  let body := leBytes 1 format ++ leBytes 1 root ++ leBytes 2 0 ++ leBytes 4 sa ++ padTo 40 blob ++ leBytes 12 0
  body ++ leBytes 4 (crc32c body)

/-- Why an SA load fails (Table 13 of 15): 0 poison, 1 check word, 2 unwrap, 3 empty working slot. -/
abbrev LoadCause := Nat

/-- The key of a context from the vault, given the burst of its key-wrap slot (R502, R543). -/
def contextKey (s : State) (sa : Nat) (c slot : List Byte) : Except LoadCause (List Byte) :=
  if ctxFromSlot c then
    match s.slot (ctxSlot c) with | some k => .ok k.key | none => .error 3
  else if fieldAt slot 60 4 ≠ crc32c (bytesAt slot 0 60) || fieldAt slot 0 1 ≠ 1 || fieldAt slot 4 4 ≠ sa ||
      fieldAt slot 1 1 ≠ ctxRoot c then .error 1
  else
    match s.root (ctxRoot c) with
    | none => .error 2
    | some r => match keyUnwrap r.key (bytesAt slot 8 40) with | some k => .ok k | none => .error 2

end Sys2Proof.Machine
end

