-- ==== Sys2Proof/Machine/Cipher.lean ====
section
/-!
DEFINITION. Sys2Proof/Machine/Cipher.lean: the cipher stage: entry, SA loads, wheels, deadlines, steals and suspension, completion
records, randomness, wheel resets, and its commands (spec/15); and what a packet meets as it leaves the stage.
-/
namespace Sys2Proof.Machine

/-! ### Access -/

/-- Changes the cipher stage. -/
def updCipher (f : Cipher → Cipher) (s : State) : State := { s with cipher := f s.cipher }

/-- A wheel. -/
def State.wheel (s : State) (w : Nat) : CipWheel := Tab.get {} s.cipher.wheels w

/-- Replaces a wheel. -/
def State.setWheel (s : State) (w : Nat) (x : CipWheel) : State :=
  { s with cipher := { s.cipher with wheels := Tab.put {} s.cipher.wheels w x } }

/-- A cog of a wheel. -/
def CipWheel.cog (x : CipWheel) (i : Nat) : CipCog := Tab.get {} x.cogs i

/-- Replaces a cog of a wheel. -/
def setCipCog (w i : Nat) (c : CipCog) (s : State) : State :=
  s.setWheel w { s.wheel w with cogs := Tab.put {} (s.wheel w).cogs i c }

/-- The clock domain of a wheel (R506). -/
def wheelDomain (w : Nat) : Nat := 46 + w / 4

/-- The cogs of a wheel that are in service (R523). -/
def wheelCogs (s : State) (w : Nat) : List Nat :=
  if s.domRuns (wheelDomain w) && (s.wheel w).reset.isNone then
    (List.range 8).filter (fun i => !(s.wheel w).retired.contains i)
  else []

/-- The dealer deals to a wheel with a cog in service that exhaustion has not stopped (R506, R521). -/
def dealable (s : State) (w : Nat) : Bool := !(wheelCogs s w).isEmpty && !(s.wheel w).stopped

/-- `cogs_in_service`: a byte for each wheel, wheel 0 first. -/
def cogsInService (s : State) : Nat := leNat ((List.range 12).map (fun w => BitVec.ofNat 8 (wheelCogs s w).length))

/-- A resident context. -/
def State.resident (s : State) (sa : Nat) : Option Resident := Tab.get none s.cipher.resident sa

/-- Replaces a resident context. -/
def State.setResident (s : State) (sa : Nat) (r : Option Resident) : State :=
  { s with cipher := { s.cipher with resident := Tab.put none s.cipher.resident sa r } }

/-- The resident contexts that pass a test. -/
def residents (s : State) (f : List Byte → Bool) : List (Nat × Resident) :=
  s.cipher.resident.filterMap (fun e => e.2.bind (fun r => if f r.ctx then some (e.1, r) else none))

/-- `resident_encrypt`, `resident_pinned` and `resident_cached`. -/
def residentEncrypt (s : State) : Nat := (residents s (fun c => ctxDir c = 0)).length
def residentPinned (s : State) : Nat := (residents s (fun c => ctxDir c ≠ 0 && ctxPin c)).length
def residentCached (s : State) : Nat := (residents s (fun c => !ctxStays c)).length

/-! ### Masked shares (R519, R520) -/

/-- The loader's mask bits: keys and subkeys are re-randomised at every load. -/
def loadMask (s : State) : List Byte × State :=
  let (n, s) := s.draw
  (Config.loadMask n, s)

/-- The mask bits that a wheel's DRBG supplies to its cogs. -/
def wheelMask (w : Nat) (s : State) : List Byte × State :=
  let x := s.wheel w
  let g := x.rng.generate 48
  (g.1, s.setWheel w { x with rng := g.2 })

/-! ### What a packet meets behind the stage -/

/-- A client-to-line packet leaves the stage: the channel's gate (R155), an unmapped channel (R405), the group's queue. -/
def leaveToLine (k : Pkt) (s : State) : State :=
  if !s.gates.chC2l.contains k.chan then stampDiscard k (s.bump .chGateDiscards k.chan)
  else if (s.groupNow (s.attrN .chGroup k.chan)).isNone then stampDiscard k (s.count .chPmUnmappedDiscards k.chan)
  else { s with mapq := s.mapq ++ [k] }

/-- A line-to-client packet leaves the stage: the channel's gate, the dormant interface (R445), line-to-client
action (R382), the interface's queue. -/
def leaveToClient (k : Pkt) (s : State) : State :=
  let l := s.attrN .chEgressIf k.chan
  if !s.gates.chL2c.contains k.chan then stampDiscard k (s.bump .chGateDiscards k.chan)
  else if l = 0xFF || !ifConfigured s l then stampDiscard k s
  else if laneState s l = 1 then stampDiscard k (s.count .chPmDormantDiscards k.chan)
  else if channelL2c s k.chan then stampDiscard k s
  else { s with egressq := s.egressq ++ [k] }

/-- A packet leaves the stage in its direction. -/
def leaveStage (s : State) (k : Pkt) : State := if k.dir = 0 then leaveToLine k s else leaveToClient k s

/-- Splits the places in order into those that stay and the packets that leave: a place stays while an earlier one of its
channel and direction stays (R512). -/
def exitsDue : List Exit → List (Nat × Nat) → List Exit × List Pkt
  | [], _ => ([], [])
  | e :: t, held =>
    if held.contains (e.chan, e.dir) then let r := exitsDue t held; (e :: r.1, r.2)
    else if e.done then
      let r := exitsDue t held
      (r.1, (match e.out with | some k => k :: r.2 | none => r.2))
    else let r := exitsDue t ((e.chan, e.dir) :: held); (e :: r.1, r.2)

/-- Lets every packet leave that no earlier one of its channel and direction holds back. -/
def releaseExits (s : State) : State :=
  let r := exitsDue s.cipher.exits []
  r.2.foldl leaveStage (updCipher (fun c => { c with exits := r.1 }) s)

/-- A packet's place is settled: it leaves with `out`, or has failed. -/
def settleExit (seq : Nat) (out : Option Pkt) (s : State) : State :=
  releaseExits (updCipher (fun c => { c with
    exits := c.exits.map (fun e => if e.seq = seq then { e with done := true, out := out } else e) }) s)

/-- A packet that passes the stage unchanged keeps its channel's order (R512). -/
def passStage (k : Pkt) (s : State) : State :=
  let n := s.cipher.nextSeq
  releaseExits (updCipher (fun c => { c with
    nextSeq := n + 1, exits := c.exits ++ [⟨n, k.chan, k.dir, true, some k⟩] }) s)

/-! ### Completion records (R517, R518) -/

/-- The status of a reason (Table 5). -/
def reasonStatus (reason : Nat) (late : Bool) : Status :=
  match reason with
  | 0 => if late then .lateAtTick else .ok
  | 1 | 2 => .eIntegrity
  | 3 | 4 | 6 => .eState
  | 5 => .eStale
  | 7 => .eBadParam
  | 8 => .eRange
  | 9 | 10 | 11 => .failedInFlight
  | _ => .abortedByReset

/-- The class used under R509: the flow entry's where it gives one, else the channel's. -/
def pktClass (s : State) (k : Pkt) : Nat := if k.cls = 0 then s.attrN .chClass k.chan else k.cls

/-- Makes the completion record of a packet (Table 6), with its counts and events. -/
def completion (k : Pkt) (reason cls flags wheel pn : Nat) (s : State) : State :=
  let late := bitOf flags 0
  let st := reasonStatus reason late
  let s := s.count .cipRecords reason
  let s := if reason ≠ 0 then s.count .chPmCipherFailed k.chan
    else if late then s.count .chPmCipherLate k.chan else s.count .chPmCipherOk k.chan
  let s := if reason = 0 then s else updCipher (fun c => { c with failures := c.failures + 1 }) s
  let s := if st = .lateAtTick then breakGuarantee k.chan 3 s else s
  if st = .ok then s
  else if 16384 ≤ s.cipher.records.length then s.bump .cipRecordOverflows
  else
    let r := leBytes 2 k.chan ++ leBytes 1 k.dir ++ leBytes 1 st.code ++ leBytes 1 reason ++ leBytes 1 cls ++
      leBytes 1 flags ++ leBytes 1 wheel ++ leBytes 4 k.sa ++ leBytes 2 k.bytes.length ++ leBytes 2 0 ++
      leBytes 8 pn ++ leBytes 8 s.tick.toNat
    let full : Bool := s.cipher.records.length = 16383
    let s := updCipher (fun c => { c with records := c.records ++ [r] }) s
    if full then raise 0x0F07 4 noIndex [] s else s

/-- A packet that has not become eligible fails. -/
def failEarly (k : Pkt) (reason pn : Nat) (s : State) : State :=
  completion k reason (pktClass s k) 0 0xFF pn (stampDiscard k s)

/-- The flags byte of a record. -/
def CipPkt.flags (p : CipPkt) : Nat := b01 p.late + 2 * b01 p.suspended + 4 * b01 p.stolen

/-- A packet that was eligible fails: its record, and its place in the order is released at once. -/
def failPkt (reason wheel : Nat) (s : State) (p : CipPkt) : State :=
  settleExit p.seq none (completion p.pkt reason p.cls p.flags wheel p.pn (stampDiscard p.pkt s))

/-! ### Packets (R496 to R500, R507) -/

/-- The fields of a received cipher header (Table 2). -/
def headerHdrLen (b : List Byte) : Nat := fieldAt b 1 1
def headerSa (b : List Byte) : Nat := fieldAt b 4 4 % 1048576
def headerPn (b : List Byte) : Nat := fieldAt b 8 8

/-- A received packet whose cipher header is malformed (R498). -/
def headerBad (b : List Byte) : Bool :=
  decide (b.length < 16) || byteAt b 0 ≠ 1 || fieldAt b 2 2 ≠ 0 || decide (1048576 ≤ fieldAt b 4 4) ||
  decide (b.length < 32 + headerHdrLen b)

/-- The clear header length and the encrypted or decrypted bytes of a packet under a context (R497). -/
def clearLen (k : Pkt) (c : List Byte) : Nat := if k.dir = 0 then ctxHdrLen c else headerHdrLen k.bytes
def textLen (k : Pkt) (c : List Byte) : Nat :=
  if k.dir = 0 then k.bytes.length - clearLen k c - 4 else k.bytes.length - 32 - clearLen k c

/-- Cog clocks of a packet (R507). -/
def cogClocks (k : Pkt) (c : List Byte) : Nat :=
  let a := ceilDiv (16 + clearLen k c) 16
  let t := ceilDiv (textLen k c) 16
  if k.dir ≠ 0 && ctxTagOnly c then a + 2 * t + 4 else a + t + 3

/-- The cipher header of an encryption. -/
def cipherHeader (h sa pn : Nat) : List Byte := leBytes 1 1 ++ leBytes 1 h ++ leBytes 2 0 ++ leBytes 4 sa ++ leBytes 8 pn

/-- The IV: salt and packet number, big-endian (R497). -/
def cipherIv (c : List Byte) (pn : Nat) : List Byte := beBytes 4 (ctxSalt c) ++ beBytes 8 pn

/-- The additional data of a packet under a context (R497). -/
def cipherAad (k : Pkt) (c : List Byte) (pn : Nat) : List Byte :=
  if k.dir = 0 then cipherHeader (ctxHdrLen c) k.sa pn ++ k.bytes.take (ctxHdrLen c) else k.bytes.take (16 + headerHdrLen k.bytes)

/-- The bytes of a packet that are encrypted or decrypted. -/
def cipherText (k : Pkt) (c : List Byte) : List Byte :=
  bytesAt k.bytes (if k.dir = 0 then ctxHdrLen c else 16 + headerHdrLen k.bytes) (textLen k c)

/-- The blocks of a packet's additional data, and of its text (R507). -/
def CipPkt.aadBlocks (p : CipPkt) : Nat := ceilDiv (16 + clearLen p.pkt p.ctx) 16
def CipPkt.textBlocks (p : CipPkt) : Nat := ceilDiv (textLen p.pkt p.ctx) 16

/-- A packet decrypted in hold mode: its plaintext lies in the wheel's hold buffer as it is produced (R515). -/
def CipPkt.holds (p : CipPkt) : Bool := p.pkt.dir ≠ 0 && !ctxTagOnly p.ctx

/-- The tag of a packet, computed on the shares of key and subkey that its cog holds, a block to a clock after the counter's set-up (R519); the
tag alone leaves the shares. -/
def cipherTag (p : CipPkt) (ct : List Byte) : List Byte :=
  let aad := cipherAad p.pkt p.ctx p.pn
  let n := 1 + p.aadBlocks + p.textBlocks
  let hash := hashShares p.rng 1 p.sub (gcmBlocks aad ++ gcmBlocks ct ++ [8 * aad.length * 2 ^ 64 + 8 * ct.length])
  let m := p.rng.mask (n + 1)
  (hash.add (blockShares m p.key (counterShares m (padTo 12 (cipherIv p.ctx p.pn) ++ beBytes 4 1)))).value

/-- The counter pass over a packet's bytes, on shares (R519): ciphertext of an encryption, plaintext of a decryption. In tag-only mode it is the
second pass (R516). -/
def counterPass (p : CipPkt) : List Byte :=
  let first := 1 + p.aadBlocks + (if p.pkt.dir = 0 || p.holds then 0 else p.textBlocks + 3)
  textShares p.rng first p.key (cipherIv p.ctx p.pn) (cipherText p.pkt p.ctx)

/-- Encrypts a frame (R497): cipher header, clear bytes, ciphertext and tag. -/
def encryptPkt (p : CipPkt) : List Byte :=
  let ct := counterPass p
  cipherAad p.pkt p.ctx p.pn ++ ct ++ cipherTag p ct

/-- The received tag of a packet matches the one computed. -/
def tagMatches (p : CipPkt) : Bool :=
  cipherTag p (cipherText p.pkt p.ctx) = bytesAt p.pkt.bytes (16 + headerHdrLen p.pkt.bytes + textLen p.pkt p.ctx) 16

/-- The frame that a decryption releases: clear bytes, plaintext and a fresh FCS (R497). -/
def clearFrame (p : CipPkt) (plain : List Byte) : List Byte :=
  let f := (p.pkt.bytes.drop 16).take (headerHdrLen p.pkt.bytes) ++ plain
  f ++ leBytes 4 (crc32 f)

/-- What a decryption releases: none when the tag does not match. In hold mode the plaintext comes from the hold buffer (R515); in
tag-only mode the counter pass runs once the tag has matched (R516). -/
def decryptPkt (p : CipPkt) (held : List Byte) : Option (List Byte) :=
  if !tagMatches p then none
  else some (clearFrame p (if p.holds then held else counterPass p))

/-- Blocks of a packet that remain with so many clocks of its run left (R513): those of its additional data and text, and in tag-only mode
those of the counter pass. The clocks of a steal's move and of a restore are no work, and the counter's set-up, the length block and the tag
are no blocks of the packet. -/
def CipPkt.blocksLeft (p : CipPkt) (left : Nat) : Nat :=
  let l := min left p.work
  let c := p.textBlocks
  if p.pkt.dir = 0 || p.holds then min (l - 2) (p.aadBlocks + c)
  else if l ≤ c then l
  else if l ≤ c + 3 then c
  else min (l - 3) (p.aadBlocks + 2 * c)

/-- Blocks that the GHASH pass and the counter pass of a packet have done when so many remain. -/
def CipPkt.blocksDone (p : CipPkt) (remain : Nat) : Nat × Nat :=
  let a := p.aadBlocks
  let c := p.textBlocks
  if p.pkt.dir = 0 || p.holds then (a + c - remain, a + c - remain - a)
  else (min (a + c) (a + 2 * c - remain), c - remain)

/-- The state of a cog after so many blocks of GHASH and of the counter: counter block, GHASH accumulator and length counts, in shares (R514,
R519). -/
def cogState (p : CipPkt) (mask : List Byte) (n : Nat × Nat) : Shares :=
  let aad := cipherAad p.pkt p.ctx p.pn
  let text := if p.pkt.dir = 0 then counterPass p else cipherText p.pkt p.ctx
  let hash := hashShares p.rng 1 p.sub ((gcmBlocks aad ++ gcmBlocks text).take n.1)
  let rest := maskWith (mask.drop 16) (beBytes 8 (8 * min aad.length (16 * n.1)) ++
    beBytes 8 (8 * min text.length (16 * (n.1 - p.aadBlocks))))
  let count := maskWith mask (padTo 12 (cipherIv p.ctx p.pn) ++ beBytes 4 (n.2 + 2))
  ⟨count.a ++ hash.a ++ rest.a, count.b ++ hash.b ++ rest.b⟩

/-! ### Wheels (R506 to R514) -/

/-- The place of a packet in the order of R509, lowest first. -/
def CipPkt.order (p : CipPkt) : Nat :=
  (((8 * b01 (!p.late) + p.cls) * 2 ^ 80 + p.clock) * 2 + b01 (decide (p.pkt.dir ≠ 0))) * 2 ^ 64 + p.seq

/-- The first packet of a queue by R509. -/
def firstOf : List CipPkt → Option CipPkt
  | [] => none
  | p :: t => match firstOf t with | none => some p | some q => if q.order < p.order then some q else some p

/-- The queue without a packet. -/
def without (q : List CipPkt) (p : CipPkt) : List CipPkt := q.filter (fun x => x.seq ≠ p.seq)

/-- The wheel that is dealt to: the next in rising order that takes packets. -/
def dealWheel (s : State) : Nat :=
  let n := s.cipher.dealNext
  (((List.range 12).map (fun k => (n + k) % 12)).find? (dealable s)).getD n

/-- Deals a packet to a wheel's queue (R506). -/
def deal (s : State) (p : CipPkt) : State :=
  let w := dealWheel s
  updCipher (fun c => { c with dealNext := (w + 1) % 12 }) (s.setWheel w { s.wheel w with queue := (s.wheel w).queue ++ [p] })

/-- The wheel's cogs take packets (R520, R521). -/
def wheelTakes (s : State) (w : Nat) : Bool := s.attr .cipEntropyState ≠ 0 && !(s.wheel w).stopped

/-- A cog starts a packet that stops at a clock, with mask bits of the wheel's DRBG for each of its clocks (R519). In hold mode the plaintext
goes to the wheel's hold buffer (R515). -/
def startCog (w i : Nat) (g : CipCog) (p : CipPkt) (stop : Nat) (s : State) : State :=
  let x := s.wheel w
  let p := { p with work := p.cost, rng := x.rng }
  let s := setCipCog w i { g with run := some (p, stop) } (s.setWheel w { x with rng := x.rng.after p.cost })
  if p.holds then s.setWheel w { s.wheel w with hold := Tab.put [] (s.wheel w).hold p.seq (counterPass p) } else s

/-- An idle cog takes from its own queue, or restores its most recently suspended packet (R509, R514). -/
def takeOwn (now : Nat) (s : State) (wi : Nat × Nat) : State :=
  let x := s.wheel wi.1
  let g := x.cog wi.2
  let take := fun (p : CipPkt) => startCog wi.1 wi.2 g p (now + p.cost) (s.setWheel wi.1 { x with queue := without x.queue p })
  let restore := fun (q : CipPkt) (left : Nat) (t : List (CipPkt × Nat)) =>
    setCipCog wi.1 wi.2 { g with run := some ({ q with saved := none, work := left }, now + 6 + left), susp := t } s
  if g.run.isSome || !wheelTakes s wi.1 then s
  else match g.susp, firstOf x.queue with
    | [], none => s
    | [], some p => take p
    | (q, left) :: t, some p =>
      if p.order < q.order then take p
      else restore q left t
    | (q, left) :: t, none => restore q left t

/-- The wheels a cog of wheel `w` examines, in order (R510). -/
def stealFrom (w : Nat) : List Nat := [(w + 1) % 12, (w + 11) % 12, (w + 2) % 12, (w + 10) % 12, (w + 3) % 12, (w + 9) % 12]

/-- The clock of a packet's deadline (R508). -/
def CipPkt.deadline (p : CipPkt) : Nat := (p.tick + 2) * 1728

/-- A cog with nothing of its own may steal (R510). -/
def takeStolen (now : Nat) (s : State) (wi : Nat × Nat) : State :=
  let x := s.wheel wi.1
  let g := x.cog wi.2
  if g.run.isSome || !g.susp.isEmpty || !x.queue.isEmpty || !wheelTakes s wi.1 then s
  else
    match (stealFrom wi.1).find? (fun v => decide (2 ≤ (s.wheel v).queue.length)) with
    | none => s
    | some v =>
      match firstOf (s.wheel v).queue with
      | none => s
      | some p =>
        if p.late || decide (now + 2 * p.cost + 24 ≤ p.deadline) then
          let s := s.setWheel v { s.wheel v with queue := without (s.wheel v).queue p }
          startCog wi.1 wi.2 g { p with stolen := true } (now + 24 + p.cost) (s.count .cipSteals)
        else s

/-- The cogs in service in rising wheel and cog order (R511). -/
def servingCogs (s : State) : List (Nat × Nat) := (List.range 12).flatMap (fun w => (wheelCogs s w).map (fun i => (w, i)))

/-- The cog of a wheel that is suspended for a waiting packet (R513): highest class, then most blocks remaining, then lowest
index. -/
def victim (s : State) (w now : Nat) (u : CipPkt) : Option Nat :=
  let ok := (wheelCogs s w).filterMap (fun i =>
    match (s.wheel w).cog i with
    | ⟨some (p, stop), susp⟩ =>
      let left := stop - (now + 1)
      if decide (u.cls < p.cls) && !p.late && decide (s.attrN .cipSuspendMinBlocks ≤ p.blocksLeft left) && decide (susp.length < 4)
      then some (i, p.cls * 2 ^ 32 + p.blocksLeft left) else none
    | _ => none)
  ok.foldl (fun (b : Option (Nat × Nat)) e => match b with | none => some e | some m => if m.2 < e.2 then some e else b) none
    |>.map (·.1)

/-- The packets of a queue in the order of R509. -/
def sortedQueue (q : List CipPkt) : List CipPkt :=
  (q.foldl (fun t p => Tab.ins t p.order p) ([] : Tab CipPkt)).map (·.2)

/-- A cog of a wheel suspends its packet for an urgent one: the block in progress ends, its state is saved, and the urgent packet starts (R514). -/
def suspendFor (now w i : Nat) (u : CipPkt) (s : State) : State :=
  let x := s.wheel w
  match (x.cog i).run with
  | none => s
  | some (p, stop) =>
    let (m, s) := wheelMask w (((s.setWheel w { x with queue := without x.queue u }).count .cipSuspensions).occurs 0x022 w)
    let left := stop - (now + 1)
    let work := min left p.work
    let q := { p with suspended := true, saved := some (cogState p m (p.blocksDone (p.blocksLeft left))) }
    startCog w i { (x.cog i) with susp := (q, work) :: (x.cog i).susp } u (now + 7 + u.cost) s

/-- One suspension on a wheel, when no cog is idle: for the first urgent packet that waits and finds a cog that may suspend (R513). -/
def suspendOne (now w : Nat) (s : State) : State :=
  let x := s.wheel w
  if (wheelCogs s w).any (fun i => (x.cog i).run.isNone) || !wheelTakes s w then s
  else
    match (sortedQueue (x.queue.filter (fun p => decide (p.cls ≤ 2)))).findSome? (fun u => (victim s w now u).map (fun i => (u, i))) with
    | none => s
    | some (u, i) => suspendFor now w i u s

/-- Every take, steal and suspension that is due at a clock (R509 to R513). -/
def settleWheels (now : Nat) (s : State) : State :=
  let cogs := servingCogs s
  let s := cogs.foldl (takeStolen now) (cogs.foldl (takeOwn now) s)
  (List.range 12).foldl (fun s w => (List.range 8).foldl (fun s _ => suspendOne now w s) s) s

/-- Settles what is due at clocks before `now`: the packets that became eligible then are dealt, client to line before line to client and each
direction in order, and cogs take, steal and suspend (R506, R511). -/
def cipherTo (now : Nat) (s : State) : State :=
  match s.cipher.settleAt with
  | none => s
  | some t =>
    if now ≤ t then s
    else
      let ps := s.cipher.ready.filter (fun p => p.pkt.dir = 0) ++ s.cipher.ready.filter (fun p => p.pkt.dir ≠ 0)
      settleWheels t (ps.foldl deal (updCipher (fun c => { c with ready := [], settleAt := none }) s))

/-- What is due at a clock is settled once the clock has passed: every packet that becomes eligible and every cog that stops in it has its
part. -/
def settleDue (now : Nat) (s : State) : State :=
  updCipher (fun c => { c with settleAt := some (match c.settleAt with | some t => max t now | none => now) }) s

/-! ### Eligibility (R500 to R503) -/

/-- The next packet number of an encrypt context. -/
def nextPn (s : State) (sa : Nat) (c : List Byte) : Nat := ctxPnStart c + Tab.get 0 s.cipher.handed sa

/-- Hands out a packet number, with the thresholds of R503. -/
def handPn (sa : Nat) (c : List Byte) (s : State) : State :=
  let s := updCipher (fun x => { x with handed := Tab.put 0 x.handed sa (Tab.get 0 x.handed sa + 1) }) s
  let n := nextPn s sa c
  let warn := fun (b : Nat) (at' : Nat) (s : State) =>
    if at' ≤ n && !bitOf (Tab.get 0 s.cipher.warned sa) b then
      raise 0x0F03 4 sa [(32, 8, n)] (updCipher (fun x => { x with warned := Tab.upd 0 x.warned sa (fun v => v ||| 2 ^ b) }) s)
    else s
  warn 1 (ctxPnLimit c) (warn 0 (ctxPnLimit c - 2 ^ 32) s)

/-- A context that was stamped on another die (R118). -/
def ctxForeign (s : State) (sa : Nat) : Bool := Tab.get 0 s.memory.ctxDies sa ≠ s.attrN .identityDieId

/-- The check of R500 that a packet fails, by its reason. -/
def contextFails (s : State) (k : Pkt) (c : List Byte) : Option Nat :=
  if ctxState c ≠ 1 || s.cipher.fresh.contains k.sa then some 3
  else if ctxDir c ≠ k.dir || ctxChannel c ≠ k.chan then some 4
  else if ctxEpoch c ≠ s.attrN .secEpoch || ctxForeign s k.sa then some 5
  else if k.dir = 0 && decide (ctxPnLimit c ≤ nextPn s k.sa c) then some 6
  else none

/-- A packet whose SA is resident becomes eligible at a clock (R500, R503), or fails. It is dealt when the clock has passed (R506). -/
def eligible (now : Nat) (r : Resident) (s : State) (k : Pkt) : State :=
  match contextFails s k r.ctx with
  | some reason => failEarly k reason (if k.dir = 0 then 0 else headerPn k.bytes) s
  | none =>
    let pn := if k.dir = 0 then nextPn s k.sa r.ctx else headerPn k.bytes
    let s := if k.dir = 0 then handPn k.sa r.ctx s else s
    let l := k.bytes.length
    if k.dir = 0 && decide (l < 4 + ctxHdrLen r.ctx) then failEarly k 7 pn s
    else if k.dir = 0 && decide (9700 < l) then failEarly k 8 pn s
    else
      let cost := cogClocks k r.ctx
      let p : CipPkt := { pkt := k, seq := s.cipher.nextSeq, tick := s.tick.toNat, clock := now, ctx := r.ctx, key := r.key,
                          sub := r.sub, pn := pn, cost := cost, cls := pktClass s k }
      updCipher (fun c => { c with
        nextSeq := c.nextSeq + 1, demand := c.demand + cost, ready := c.ready ++ [p]
        exits := c.exits ++ [⟨p.seq, k.chan, k.dir, false, none⟩] }) s

/-- CIPHER_PACKET_ENTRY (R498, R501, R502): the oldest packet on its way enters the stage. -/
def execCipherPacketEntry (phi : Fin 1728) (s : State) : Host.Outcome State Fault Refusal :=
  .next (match s.cipher.entry with
    | [] => s
    | k :: t =>
      let s := updCipher (fun c => { c with entry := t }) (cipherTo (s.now phi) s)
      let k := if k.dir = 0 then k else { k with sa := headerSa k.bytes }
      if k.dir ≠ 0 && headerBad k.bytes then failEarly k 7 0 s
      else
        match s.resident k.sa with
        | some r =>
          let n := s.cipher.useClock + 1
          let s := updCipher (fun c => { c with useClock := n }) (s.setResident k.sa (some { r with used := n }))
          settleDue (s.now phi) (eligible (s.now phi) r s k)
        | none =>
          let s := s.count .cipSaMissPackets
          let ls := s.cipher.loads
          if ls.any (fun l => l.sa = k.sa) then
            updCipher (fun c => { c with loads := ls.map (fun l =>
              if l.sa = k.sa then { l with waiting := l.waiting ++ [k] } else l) }) s
          else updCipher (fun c => { c with loads := ls ++ [⟨k.sa, false, [k]⟩] }) s)

/-- Makes a context resident, its key and subkey under fresh masks (R519); when the table is full, the cached one used longest ago goes
(R501). -/
def makeResident (sa : Nat) (c key : List Byte) (s : State) : State :=
  let n := s.cipher.useClock + 1
  let cached := residents s (fun c => !ctxStays c)
  let oldest := cached.foldl (fun (b : Option (Nat × Resident)) e =>
    match b with | none => some e | some m => if e.2.used < m.2.used then some e else b) none
  let s := if 16384 ≤ (residents s (fun _ => true)).length then
      match oldest with | some e => s.setResident e.1 none | none => s
    else s
  let (m, s) := loadMask s
  let (h, s) := loadMask s
  updCipher (fun x => { x with useClock := n })
    (s.setResident sa (some ⟨c, maskWith m key, maskWith h (aesBlock key (List.replicate 16 0)), n⟩))

/-- Waiting packets in the order of R506: client to line before line to client, each in descriptor order. -/
def waitingOrder (l : List Pkt) : List Pkt :=
  let ins := fun (l : List Pkt) => l.foldl (fun t k => Tab.ins t k.id k) ([] : Tab Pkt) |>.map (·.2)
  ins (l.filter (fun k => k.dir = 0)) ++ ins (l.filter (fun k => k.dir ≠ 0))

/-- The slots of priority 3 that a load takes are free (R471, R502): one in each channel for the context, one for the key-wrap slot. -/
def loadReady (s : State) (sa : Nat) : Bool :=
  let ch := addrChannel (wrapAddr sa)
  decide (2 ≤ slotsFree s ch 3) && decide (1 ≤ slotsFree s (1 - ch) 3)

/-- A loaded context serves packets: it is valid, of the present epoch and of this die (R500, R118). -/
def ctxServes (s : State) (sa : Nat) (c : List Byte) : Bool :=
  ctxState c = 1 && ctxEpoch c = s.attrN .secEpoch && !ctxForeign s sa

/-- SA_LOAD_DONE (R502, R526, R543): the two context bursts and the key-wrap burst of a load. The four unwrap engines complete at most
16 loads in a tick. A context that serves no packet does not become resident: its packets fail their checks (R500; DEDUCED, log entry
191). -/
def execSaLoadDone (phi : Fin 1728) (sa : Fin 1048576) (b0 b1 b2 : Burst) (s : State) : Host.Outcome State Fault Refusal :=
  .next (match s.cipher.loads.find? (fun l => l.sa = sa.val) with
    | none => s
    | some l =>
      if decide (16 ≤ s.cipher.loadsDone) || !loadReady s sa then s else
      let s := updCipher (fun c => { c with
        loads := c.loads.filter (fun x => x.sa ≠ sa.val), loadsDone := c.loadsDone + 1 }) (cipherTo (s.now phi) s)
      let s := s.count .cipSaLoads
      let ks := waitingOrder l.waiting
      let fail := fun (cause : Nat) (s : State) =>
        raise 0x0F02 4 sa [(24, 1, cause)] (ks.foldl (fun s k => failEarly k 2 (if k.dir = 0 then 0 else headerPn k.bytes) s) s)
      let s := ddrAccess (wrapAddr sa) 3 (ddrAccess (contextAddr sa + 64) 3 (ddrAccess (contextAddr sa) 3 s))
      let r0 := readBurst (contextAddr sa) b0 s
      let r1 := readBurst (contextAddr sa + 64) b1 r0.2
      let r2 := readBurst (wrapAddr sa) b2 r1.2
      let s := r2.2
      if l.deleted then
        ks.foldl (fun s k => failEarly k 3 (if k.dir = 0 then 0 else headerPn k.bytes) s) s
      else match r0.1.1, r1.1.1, r2.1.1 with
        | some c0, some c1, some w =>
          let c := c0 ++ c1
          if !ctxOk c then fail 1 s
          else if !ctxServes s sa c then
            ks.foldl (fun s k => failEarly k ((contextFails s k c).getD 3) (if k.dir = 0 then 0 else headerPn k.bytes) s) s
          else match contextKey s sa c w with
            | .error cause => fail cause s
            | .ok key =>
              let s := makeResident sa c key s
              match s.resident sa with
              | some r => settleDue (s.now phi) (ks.foldl (eligible (s.now phi) r) s)
              | none => s
        | _, _, _ => fail 0 s)

/-! ### Completion (R512, R515 to R517) and deadlines -/

/-- A recognised PTP message of the line-to-client direction gets its record after decryption (R452). -/
def recogniseDecrypted (s : State) (k : Pkt) : Pkt :=
  if k.dir = 0 then k else { k with record := stampRecord s k.chan 1 k.place k.stamp k.bytes }

/-- A cog finishes the packet it runs: plaintext in the hold buffer is released, or erased on a mismatch. -/
def finishCog (now : Nat) (s : State) (n : Nat) : State :=
  let w := n / 8
  let g := (s.wheel w).cog (n % 8)
  match g.run with
  | none => s
  | some (p, stop) =>
    if now < stop then s
    else
      let held := Tab.get [] (s.wheel w).hold p.seq
      let s := setCipCog w (n % 8) { g with run := none } s
      let s := s.setWheel w { s.wheel w with hold := Tab.put [] (s.wheel w).hold p.seq [] }
      let ok := fun (bytes : List Byte) (s : State) =>
        let s := completion p.pkt 0 p.cls p.flags w p.pn s
        settleExit p.seq (some (recogniseDecrypted s { p.pkt with bytes := bytes, crypt := p.pkt.dir = 0 })) s
      if p.pkt.dir = 0 then ok (encryptPkt p) s
      else match decryptPkt p held with
        | none => failPkt 1 w s (if p.holds then { p with pkt := { p.pkt with record := (recogniseDecrypted s { p.pkt with bytes := clearFrame p held }).record } } else p)
        | some b =>
          ok b (updCipher (fun c => { c with highest := Tab.upd 0 c.highest p.pkt.sa (fun v => max v p.pn) }) s)

/-- CIPHER_PACKET_DONE (R509 to R517): cogs, numbered 8 × wheel + place, finish at a clock, and what is due follows. -/
def execCipherPacketDone (phi : Fin 1728) (cogs : List (Fin 96)) (s : State) : Host.Outcome State Fault Refusal :=
  .next (settleDue (s.now phi) (cogs.foldl (fun s n => finishCog (s.now phi) s n.val) (cipherTo (s.now phi) s)))

/-- Marks a packet late when its deadline is the present boundary or before. -/
def lateIf (s : State) (p : CipPkt) : CipPkt := if p.tick + 2 ≤ s.tick.toNat then { p with late := true } else p

/-- CIPHER_DEADLINE (R508): every packet of the tick that ends that has not finished becomes late. -/
def cipherDeadline (s : State) : State :=
  let edge := s.tick.toNat * 1728
  let newly := fun (p : CipPkt) => b01 (!p.late && decide (p.tick + 2 ≤ s.tick.toNat))
  (List.range 12).foldl (fun s w =>
    let x := s.wheel w
    let running := fun (g : CipCog) => match g.run with | some (p, stop) => if edge < stop then some p else none | none => none
    let n := (x.queue.map newly).sum + (x.cogs.map (fun e =>
      (match running e.2 with | some p => newly p | none => 0) + (e.2.susp.map (fun q => newly q.1)).sum)).sum
    let s := if n = 0 then s else s.count .cipLatePackets 0 0 n
    s.setWheel w { x with
      queue := x.queue.map (lateIf s)
      cogs := x.cogs.map (fun e => (e.1, { e.2 with
        run := match e.2.run with | some (p, stop) => some ((if edge < stop then lateIf s p else p), stop) | none => none
        susp := e.2.susp.map (fun q => (lateIf s q.1, q.2)) })) }) s

/-- CIPHER_DEADLINE (R508). -/
def execCipherDeadline (s : State) : Host.Outcome State Fault Refusal :=
  .next (if s.clk.ticking then cipherDeadline s else s)

/-- The stage at the end of a tick: what was due before the boundary is settled, and `demand_max` takes the tick's cog clocks (R524). -/
def cipherTickEnd (s : State) : State :=
  let s := cipherTo (s.now 1728) s
  updCipher (fun c => { c with demand := 0 }) (s.countMax .cipDemandMax 0 0 s.cipher.demand)

/-- What the stage does at a boundary besides deadlines: contexts created a tick ago take packets, and what has become late may be stolen
(R510). -/
def cipherBoundary (s : State) : State := settleDue (s.now 0) (updCipher (fun c => { c with fresh := [], loadsDone := 0 }) s)

/-- At a latch: `cipher_failures` (R518). -/
def cipherLatch (s : State) : State :=
  let n := s.cipher.failures
  if n = 0 then s else raise 0x0F01 4 noIndex [(24, 4, n)] (updCipher (fun c => { c with failures := 0 }) s)

/-! ### Ends of packets in bulk -/

/-- The packets in the cogs of a wheel, running and suspended. -/
def CipWheel.inCogs (x : CipWheel) : List CipPkt :=
  x.cogs.flatMap (fun e => (match e.2.run with | some q => [q.1] | none => []) ++ e.2.susp.map (·.1))

/-- Every packet of a wheel fails for a reason. -/
def failWheel (reason w : Nat) (queued : Bool) (s : State) : State :=
  let x := s.wheel w
  let s := s.setWheel w { x with cogs := [], hold := [], queue := if queued then [] else x.queue }
  let s := x.inCogs.foldl (failPkt reason w) s
  if queued then x.queue.foldl (failPkt reason 0xFF) s else s

/-- Every packet in the stage fails for a reason, and the resident table is cleared (R525, R559). The number counts them. -/
def flushCipher (reason : Nat) (s : State) : Nat × State :=
  let ks := s.cipher.loads.flatMap (fun l => l.waiting)
  let n := ks.length + s.cipher.ready.length + ((List.range 12).map (fun w => (s.wheel w).inCogs.length + (s.wheel w).queue.length)).sum
  let rs := s.cipher.ready
  let s := updCipher (fun c => { c with loads := [], resident := [], ready := [], settleAt := none }) s
  let s := rs.foldl (failPkt reason 0xFF) s
  let s := ks.foldl (fun s k => failEarly k reason (if k.dir = 0 then 0 else headerPn k.bytes) s) s
  (n, (List.range 12).foldl (fun s w => failWheel reason w true s) s)

/-! ### Randomness (R520, R521) -/

/-- A wheel's DRBG reseeds from the entropy source. -/
def reseed (w : Nat) (s : State) : State :=
  let (n, s) := s.draw
  s.setWheel w { s.wheel w with seeded := s.tick.toNat, rng := (s.wheel w).rng.seed (Config.entropy n) }

/-- Every wheel's DRBG reseeds. -/
def reseedAll (s : State) : State :=
  (List.range 12).foldl (fun s w => let s := reseed w s; s.setWheel w { s.wheel w with stopped := false }) s

/-- The repetition count test fails: 41 equal samples in a row. -/
def repetitionFails (l : List Bool) : Bool :=
  decide (41 ≤ (l.foldl (fun (r : Option Bool × Nat × Nat) x =>
    let run := if r.1 = some x then r.2.1 + 1 else 1
    (some x, run, max r.2.2 run)) (none, 0, 0)).2.2)

/-- The adaptive proportion test fails: in a window of 1,024 samples, 624 equal its first. -/
def proportionFails (l : List Bool) : Bool :=
  (List.range (l.length / 1024)).any (fun k =>
    let w := (l.drop (1024 * k)).take 1024
    decide (624 ≤ w.countP (fun x => x = w.headD false)))

/-- The test that a run of samples fails: 0 repetition count, 1 adaptive proportion (R520). -/
def entropyTest (l : List Bool) : Option Nat :=
  if repetitionFails l then some 0 else if proportionFails l then some 1 else none

/-- The start-up tests pass: 1,024 samples, and neither test fails. -/
def startUpPasses (l : List Bool) : Bool := l.length = 1024 && (entropyTest l).isNone

/-- DRBG_RESEED (R520): every 65,536 ticks while the entropy source is healthy. -/
def execDrbgReseed (wheel : Fin 12) (s : State) : Host.Outcome State Fault Refusal :=
  let x := s.wheel wheel
  .next (if vaultRuns s && s.attr .cipEntropyState = 1 && decide (x.seeded + 65536 ≤ s.tick.toNat) then
    reseed wheel s else s)

/-- ENTROPY_FAIL (R520, R521): the samples on which a continuous test fails. -/
def execEntropyFail (samples : List Bool) (s : State) : Host.Outcome State Fault Refusal :=
  .next (match entropyTest samples with
    | some test =>
      if vaultRuns s && s.attr .cipEntropyState = 1 then
        raise 0x0F05 4 noIndex [(24, 1, test)]
          (updCipher (fun c => { c with entropyTick := s.tick.toNat }) (s.setAttr .cipEntropyState 0 0 2))
      else s
    | none => s)

/-- DRBG_EXHAUSTED (R521): 1,048,576 ticks after its last reseed a wheel stops, and its packets fail. -/
def execDrbgExhausted (wheel : Fin 12) (s : State) : Host.Outcome State Fault Refusal :=
  let x := s.wheel wheel
  .next (if vaultRuns s && s.attr .cipEntropyState = 2 && !x.stopped && decide (x.seeded + 1048576 ≤ s.tick.toNat) then
    failWheel 10 wheel true (s.setWheel wheel { x with stopped := true }) else s)

/-- ENTROPY_RETEST (R521): 1 s after the failure, or the last failed re-test. -/
def execEntropyRetest (phi : Fin 1728) (samples : List Bool) (s : State) : Host.Outcome State Fault Refusal :=
  .next (if vaultRuns s && s.attr .cipEntropyState = 2 && decide (s.cipher.entropyTick + sTicks 1 ≤ s.tick.toNat) then
    if startUpPasses samples then
      settleDue (s.now phi) (raise 0x0F06 4 noIndex [] (reseedAll ((cipherTo (s.now phi) s).setAttr .cipEntropyState 0 0 1)))
    else updCipher (fun c => { c with entropyTick := s.tick.toNat }) s
    else s)

/-- ENTROPY_START_UP_TESTS_PASS (R520): with `D49` running, samples that pass make the source healthy, and the wheels may take packets. -/
def execEntropyStartUpTestsPass (start : EntropyStart) (s : State) : Host.Outcome State Fault Refusal :=
  .next (if vaultRuns s && s.attr .cipEntropyState = 0 && startUpPasses start.samples then
    settleDue (s.now start.phi) (reseedAll ((cipherTo (s.now start.phi) s).setAttr .cipEntropyState 0 0 1)) else s)

/-! ### Wheel reset (R522, R523) -/

/-- Steps 1 to 4 of Table 7: the wheel's running and suspended packets fail, its queue is dealt again, and cog state, DRBG state and
hold buffer are zeroised. A steal of the same clock stands (R526). -/
def wheelReset (w cause : Nat) (cmds : List CmdRef) (now : Nat) (s : State) : State :=
  let s := cipherTo (now + 1) s
  let x := s.wheel w
  let s := s.setWheel w { x with reset := some ⟨cause, cmds⟩, cogs := [], queue := [], hold := [], rng := {} }
  let s := x.inCogs.foldl (failPkt 9 w) s
  settleDue now (x.queue.foldl deal s)

/-- The parity of a share's bits. -/
def shareParity (l : List Byte) : Bool := (l.map (fun x => (bitsBelow 8 x.toNat).length)).sum % 2 = 1

/-- The share-consistency check fails: the parities of the two shares of the round state do not recombine to that of the round (R522). -/
def shareFails (x : ShareCheck) : Bool := (shareParity x.first ^^ shareParity x.second) ≠ x.parity

/-- WHEEL_RESET (R522): the share-consistency check of a round in a cog that runs a packet fails. -/
def execWheelReset (phi : Fin 1728) (check : ShareCheck) (s : State) : Host.Outcome State Fault Refusal :=
  let w := check.wheel.val
  let s' := cipherTo (s.now phi) s
  .next (if s.domRuns (wheelDomain w) && (s'.wheel w).reset.isNone && ((s'.wheel w).cog check.cog).run.isSome && shareFails check then
      wheelReset w 1 [] (s.now phi) s'
    else s)

/-- WHEEL_KAT_DONE (R522, R523): the cogs that pass return to service. A wheel reset while the entropy source has failed stays
out of service until R521 lets it resume (R526). -/
def execWheelKatDone (phi : Fin 1728) (wheel : Fin 12) (passed : List (Fin 8)) (s : State) :
    Host.Outcome State Fault Refusal :=
  let x := s.wheel wheel
  .next (match x.reset with
    | none => s
    | some r =>
      let ok := (List.range 8).filter (fun i => passed.any (fun j => j.val = i))
      let s := cipherTo (s.now phi) s
      let failed : Bool := s.attr .cipEntropyState = 2
      let s := if failed then s else reseed wheel s
      let s := s.setWheel wheel { s.wheel wheel with
        reset := none, retired := nsDiff (List.range 8) ok, stopped := failed }
      let n := (wheelCogs s wheel).length
      let s := raise 0x0F04 4 wheel [(24, 1, n), (25, 1, r.cause)] s
      settleDue (s.now phi) (r.cmds.foldl (fun s c => finish c .ok [(16, 1, n)] s) s))

/-! ### Commands (R527 to R529) -/

/-- A host command reads a context; none: a burst of it is poisoned. -/
def readCtx (sa : Nat) (s : State) : Option (List Byte) × State :=
  let r0 := readAt (contextAddr sa) 4 s
  let r1 := readAt (contextAddr sa + 64) 4 r0.2
  (match r0.1.1, r1.1.1 with | some a, some b => some (a ++ b) | _, _ => none, r1.2)

/-- Writes a context burst by burst, its state last (R528): whether all of it was written. -/
def writeCtx (put : Nat → List Byte → State → Bool × State) (sa : Nat) (c : List Byte) (s : State) : Bool × State :=
  match put (contextAddr sa + 64) (bytesAt c 64 64) s with
  | (false, s) => (false, s)
  | (true, s) => put (contextAddr sa) (bytesAt c 0 64) s

/-- A context is valid. -/
def ctxGood (c : List Byte) : Bool := ctxOk c && ctxState c = 1

/-- The response of SY_SA (Table 11). -/
def saFields (s : State) (st sa : Nat) (c : List Byte) : List Fld :=
  [(16, 1, st), (17, 1, b01 (s.resident sa).isSome), (20, 4, ctxEpoch c),
   (24, 8, if ctxDir c = 0 then nextPn s sa c else Tab.get 0 s.cipher.highest sa)]

/-- Evicts a context from the resident table and zeroises its key. -/
def evict (sa : Nat) (s : State) : State := s.setResident sa none

/-- The delete action of op 1 (R528, R546): invalid in DRAM, with one write in each channel; evicted; a load under way is discarded at its end
(R526). -/
def deleteContext (put : Nat → List Byte → State → Bool × State) (s : State) (sa : Nat) : State :=
  updCipher (fun x => { x with
    loads := x.loads.map (fun l => if l.sa = sa then { l with deleted := true } else l)
    deletes := x.deletes.filter (· ≠ sa)
    encrypts := x.encrypts.filter (· ≠ sa), pinned := x.pinned.filter (· ≠ sa) }) (evict sa (writeCtx put sa deletedCtx s).2)

/-- The SA indices of the contexts in filled blocks: all of them are stale after an advance of the epoch (R546). -/
def filledContexts (s : State) : List Nat :=
  ((List.range 128).filter (fun b => bitOf s.memory.filled (2048 + b))).flatMap (fun b => (List.range 8192).map (8192 * b + ·))

/-- Writes in each channel that a rebuild makes. -/
def rebuildNeeds (s : State) : Nat := 8192 * ((List.range 128).filter (fun b => bitOf s.memory.filled (2048 + b))).length

/-- A rebuild starts: none where no block of the region is filled. -/
def rebuildStart (s : State) : State :=
  let s := { s with memory := { s.memory with rebuild := (0, 0) } }
  if rebuildNeeds s = 0 then s else s.setAttr .secCtxSweepPending 0 0 1

/-- A rebuild under way makes its writes in the slots of a tick that priority 4 finds free, while firmware serves (R546). Those to a channel in
self-refresh wait. -/
def rebuildTick (s : State) : State :=
  if s.attr .secCtxSweepPending ≠ 1 || !s.fwServing then s
  else
    let need := rebuildNeeds s
    let r := s.memory.rebuild
    let room := fun (ch : Nat) => if s.attr .memDdrState ch = 3 then 0 else slotsFree s ch 4
    let g0 := min (room 0) (need - r.1)
    let g1 := min (room 1) (need - r.2)
    let take := fun (ch n : Nat) (t : Tab Nat) => Tab.put 0 t (8 * ch + 4) (slotsUsed s ch 4 + n)
    { s with memory := { s.memory with rebuild := (r.1 + g0, r.2 + g1), used := take 0 g0 (take 1 g1 s.memory.used) } }

/-- A rebuild's write of a burst, whose slot has been taken. -/
def rebuildWrite (a : Nat) (d : List Byte) (s : State) : Bool × State :=
  let (n, s) := linkTake a s
  writeBurst a d n (ddrServed (addrChannel a) 4 1 s)

/-- A rebuild ends once its slots have been enough: the delete action has met every context of a filled block (R546). -/
def rebuildEnd (s : State) : State :=
  if s.fwServing && s.attr .secCtxSweepPending = 1 && decide (rebuildNeeds s ≤ min s.memory.rebuild.1 s.memory.rebuild.2) then
    ((filledContexts s).foldl (deleteContext rebuildWrite) s).setAttr .secCtxSweepPending 0 0 0
  else s

/-- The deletes that wait take effect at a boundary. -/
def deletesDue (s : State) : State := s.cipher.deletes.foldl (deleteContext (fun a d => writeAt a 4 d)) s

/-- The context that op 0 writes (Table 3), from its entry. -/
def newContext (s : State) (e : List Byte) : List Byte :=
  sealCtx (leBytes 1 1 ++ bytesAt e 17 3 ++ bytesAt e 24 4 ++ bytesAt e 28 2 ++ bytesAt e 30 1 ++ leBytes 1 0 ++ bytesAt e 32 2
    ++ leBytes 2 0 ++ leBytes 4 (s.attrN .secEpoch) ++ leBytes 4 0 ++ bytesAt e 40 8 ++ bytesAt e 48 8)

/-- The key that op 0 needs: unwrapped once for key_source 0, the slot's for a context that becomes resident. -/
def createKey (sa : Nat) (c : List Byte) (s : State) : Except Status (List Byte) × State :=
  if ctxFromSlot c then
    (match s.slot (ctxSlot c) with
    | some k => .ok k.key
    | none => if ctxStays c then .error .eState else .ok [], s)
  else
    match readAt (wrapAddr sa) 4 s with
    | ((none, _), s) => (.error .eIntegrity, s)
    | ((some w, _), s) => (match contextKey s sa c w with | .ok k => .ok k | .error _ => .error .eIntegrity, s)

/-- A context has been created: its numbers start anew, an entry that stood resident for its SA goes, and it is resident at once if it stays so
(R501, R503, R528). -/
def createdContext (sa : Nat) (c key : List Byte) (s : State) : State :=
  let s := evict sa (updCipher (fun x => { x with
    handed := Tab.put 0 x.handed sa 0, warned := Tab.put 0 x.warned sa 0, highest := Tab.put 0 x.highest sa 0
    fresh := nsIns x.fresh sa
    encrypts := if ctxDir c = 0 then nsIns x.encrypts sa else x.encrypts
    pinned := if ctxDir c ≠ 0 && ctxPin c then nsIns x.pinned sa else x.pinned }) s)
  let s := { s with memory := { s.memory with ctxDies := Tab.put 0 s.memory.ctxDies sa (s.attrN .identityDieId) } }
  if ctxStays c then makeResident sa c key s else s

/-- The effect of op 0 once its fields stand: the context must be invalid, its key must unwrap, and it is written, its state last. What DRAM
gives as poison, or does not take, ends it with E_INTEGRITY (DESIGN CHOICE, log entry 192). -/
def createSa (sa : Nat) (n : List Byte) (s : State) : State × Answer :=
  match readCtx sa s with
  | (none, s) => (s, .final .eIntegrity [])
  | (some old, s) =>
    if ctxGood old then (s, .final .eState [])
    else match createKey sa n s with
      | (.error st, s) => (s, .final st [])
      | (.ok key, s) =>
        match writeCtx (fun a d => writeAt a 4 d) sa n s with
        | (false, s) => (s, .final .eIntegrity [])
        | (true, s) => let s := createdContext sa n key s; (s, .final .ok (saFields s 1 sa n))

/-- SY_SA op 0 (R528, R546, R560). This row also takes the values of op that Table 11 does not give. -/
def execSySaCreate (c : CmdRef) (s : State) : Host.Outcome State Fault Refusal :=
  .next (serve 0x0F01 (fun e => fieldAt e 16 1 ≠ 1 && fieldAt e 16 1 ≠ 2)
    [(16, 4), (20, 4), (24, 4), (28, 2), (30, 1), (32, 2), (40, 8), (48, 8)]
    (fun s sid e =>
      let dir := fieldAt e 17 1
      let flags := fieldAt e 18 1
      let sa := fieldAt e 20 4
      let n := newContext s e
      [(decide (s.attrN .sessionPermission sid < 2), .ePermission),
       (decide (7 < flags) || (dir = 0 && decide (2 ≤ flags)) || (dir = 1 && (fieldAt e 40 8 ≠ 0 || fieldAt e 48 8 ≠ 0)),
        .eBadParam),
       (fieldAt e 16 1 ≠ 0 || decide (1 < dir) || decide (128 < fieldAt e 19 1) || decide (1048575 < sa) ||
          decide (8191 < fieldAt e 28 2) || decide (15 < fieldAt e 30 1) || decide (4095 < fieldAt e 32 2) ||
          (dir = 0 && (fieldAt e 40 8 = 0 || decide (fieldAt e 48 8 ≤ fieldAt e 40 8))), .eRange),
       (!isFilled s (contextAddr sa) || vaultLocked s || s.attr .secCtxSweepPending = 1 ||
          (dir = 0 && decide (8192 ≤ s.cipher.encrypts.length)) ||
          (dir = 1 && ctxPin n && decide (4096 ≤ s.cipher.pinned.length)) ||
          (ctxFromSlot n && ctxStays n && (s.slot (ctxSlot n)).isNone), .eState)])
    (fun s _ e => createSa (fieldAt e 20 4) (newContext s e) s)
    c s)

/-- Ops 1 and 2 on a context that has been read: it must be valid, and epoch_port 5 must come with its epoch (R528). One in a block that is
not filled is not valid; a poisoned one ends the command with E_INTEGRITY (log entry 192). -/
def onContext (e : List Byte) (k : List Byte → State → State × Answer) (s : State) : State × Answer :=
  let sa := fieldAt e 20 4
  match readCtx sa s with
  | (none, t) => (t, .final (if isFilled s (contextAddr sa) then .eIntegrity else .eState) [])
  | (some c, t) =>
    if !ctxGood c then (t, .final .eState [])
    else if entryEpochPort e ≠ 5 || entryEpoch e ≠ ctxEpoch c || ctxForeign t sa then (t, .final .eStale [])
    else k c t

/-- SY_SA op 1 (R528): the context is invalid from the next boundary. -/
def execSySaDelete (c : CmdRef) (s : State) : Host.Outcome State Fault Refusal :=
  .next (serve 0x0F01 (fun e => fieldAt e 16 1 = 1) [(16, 1), (20, 4)]
    (fun s sid e =>
      [(decide (s.attrN .sessionPermission sid < 2), .ePermission), (decide (1048575 < fieldAt e 20 4), .eRange)])
    (fun s _ e => onContext e (fun x s =>
      let sa := fieldAt e 20 4
      (updCipher (fun c => { c with deletes := nsIns c.deletes sa }) s, .final .ok (saFields s 0 sa x))) s)
    c s)

/-- SY_SA op 2 (R504, R528). -/
def execSySaRead (c : CmdRef) (s : State) : Host.Outcome State Fault Refusal :=
  .next (serve 0x0F01 (fun e => fieldAt e 16 1 = 2) [(16, 1), (20, 4)]
    (fun _ _ e => [(decide (1048575 < fieldAt e 20 4), .eRange)])
    (fun s _ e => onContext e (fun x s => (s, .final .ok (saFields s 1 (fieldAt e 20 4) x))) s)
    c s)

/-- SY_CIPHER_RECORDS (R529). -/
def execSyCipherRecords (c : CmdRef) (s : State) : Host.Outcome State Fault Refusal :=
  .next (serve 0x0F02 anyForm [(20, 4), (24, 8)]
    (fun s sid e =>
      let n := fieldAt e 20 4
      [(n = 0 || decide (16384 < n) || ((s.sess sid).onDie && decide (256 < n)) ||
          areaBad s sid (fieldAt e 24 8) (32 * n), .eRange)])
    (fun s c e =>
      let q := s.cipher.records
      let n := min (fieldAt e 20 4) q.length
      let s := if n = 0 then s else writeArea s c.session (fieldAt e 24 8) (q.take n).flatten
      (updCipher (fun x => { x with records := q.drop n }) s, .final .ok [(16, 4, n), (20, 4, q.length - n)]))
    c s)

/-- SY_CIPHER_WHEEL_RESET (R522, R529): the response follows step 5. -/
def execSyCipherWheelReset (c : CmdRef) (phi : Fin 1728) (s : State) : Host.Outcome State Fault Refusal :=
  .next (serve 0x0F03 anyForm [(16, 1)]
    (fun _ _ e => [(decide (11 < fieldAt e 16 1), .eRange)])
    (fun s c e =>
      let w := fieldAt e 16 1
      let old := match (s.wheel w).reset with | some r => r.cmds | none => []
      (wheelReset w 0 (old ++ [c]) (s.now phi) (startQuietly c s), .accept))
    c s)

end Sys2Proof.Machine
end

