-- ==== Sys2Proof/Machine/Pcs.lean ====
section
/-!
DEFINITION. Sys2Proof/Machine/Pcs.lean: the PCS and RS-FEC of a client interface (R24, R25, R431): 66-bit blocks, transcoding, scrambling,
alignment markers, RS(544,514) and the distribution to PCS lanes. The layouts and tables are those of IEEE 802.3 Clauses 81, 82, 119 and
172, which the spec names (PRESUMED, log entry 167).
-/
namespace Sys2Proof.Machine

/-! ### Blocks of 66 bits -/

/-- The block types of a frame's end, by how many of its bytes are in the block. -/
def endTypes : List Byte := [0x87, 0x99, 0xAA, 0xB4, 0xCC, 0xD2, 0xE1, 0xFF]

/-- A block with idle characters alone. -/
def idleBlock : PcsBlock := ⟨false, [0x1E, 0, 0, 0, 0, 0, 0, 0]⟩

/-- The local-fault ordered set. -/
def faultBlock : PcsBlock := ⟨false, [0x4B, 0, 0, 1, 0, 0, 0, 0]⟩

/-- The block with which a frame starts: its preamble and SFD. -/
def startBlock : PcsBlock := ⟨false, [0x78, 0x55, 0x55, 0x55, 0x55, 0x55, 0x55, 0xD5]⟩

/-- The blocks of a frame. -/
def frameBlocks (l : List Byte) : List PcsBlock :=
  let n := l.length / 8
  let rest := l.drop (8 * n)
  startBlock :: (chunks n 8 l).map (fun x => ⟨true, x⟩) ++ [⟨false, padTo 8 (endTypes.getD rest.length 0 :: rest)⟩]

/-- The bytes of a frame that blocks carry; blocks that do not spell a frame carry none. -/
def framePayload (l : List PcsBlock) : List Byte :=
  let body := l.tail.takeWhile (fun b => b.data)
  match l.head?, l.tail.drop body.length with
  | some f, [e] =>
    let n := endTypes.findIdx (fun t => t = byteAt e.payload 0)
    if f = startBlock && !e.data && decide (n < 8) then body.flatMap (fun b => b.payload) ++ bytesAt e.payload 1 n else []
  | _, _ => []

/-! ### Transcoding and scrambling -/

/-- The bits of a number, least significant first. -/
def lowBits (n v : Nat) : List Bool := (List.range n).map v.testBit

/-- The number that bits spell, least significant first. -/
def symbolOf (l : List Bool) : Nat := l.foldr (fun b n => b.toNat + 2 * n) 0

/-- The bits of bytes in the order in which they are sent. -/
def sentBits (l : List Byte) : List Bool := l.flatMap (fun b => lowBits 8 b.toNat)

/-- Four blocks as one of 257 bits: the first control block drops the second half of its type. -/
def transcode (l : List PcsBlock) : List Bool :=
  let bits := l.flatMap (fun b => sentBits b.payload)
  if l.all (fun b => b.data) then true :: bits
  else
    let first := 64 * (l.takeWhile (fun b => b.data)).length
    false :: l.map (fun b => b.data) ++ bits.take (first + 4) ++ bits.drop (first + 8)

/-- The self-synchronous scrambler 1 + x^39 + x^58: its last 58 bits, the latest first, and what it sends. -/
def scramble (last bits : List Bool) : List Bool × List Bool :=
  let r := bits.foldl (fun (r : List Bool × List Bool) b =>
    let o := b ^^ (r.1.getD 38 false ^^ r.1.getD 57 false)
    ((o :: r.1).take 58, o :: r.2)) (last, [])
  (r.1, r.2.reverse)

/-! ### RS(544,514) -/

/-- The product in GF(2^10) with field polynomial x^10 + x^3 + 1. -/
def rsMul (a b : Nat) : Nat :=
  ((List.range 10).foldl (fun (r : Nat × Nat) i =>
    ((if b.testBit i then r.1 ^^^ r.2 else r.1), (if r.2.testBit 9 then (2 * r.2) ^^^ 0x409 else 2 * r.2))) (0, a)).1

/-- The generator polynomial without its leading 1, from x^29 down: the product of x - 2^j for j from 0 to 29. -/
def rsGenerator : List Nat :=
  ((List.range 30).foldl (fun (r : List Nat × Nat) _ =>
    (((r.1 ++ [0]).zip (0 :: r.1)).map (fun (c : Nat × Nat) => c.1 ^^^ rsMul c.2 r.2), rsMul 2 r.2)) ([1], 1)).1.tail

/-- A codeword: the message's 514 symbols, then the 30 of its parity. -/
def rsEncode (m : List Nat) : List Nat :=
  m ++ m.foldl (fun (r : List Nat) c =>
    let f := c ^^^ r.headD 0
    ((r.tail ++ [0]).zip rsGenerator).map (fun (x : Nat × Nat) => x.1 ^^^ rsMul f x.2)) (List.replicate 30 0)

/-- What a decoder of 15 errors makes of a codeword that comes with so many wrong symbols: corrected or not. -/
def rsCorrects (wrong : Nat) : Bool := decide (wrong ≤ 15)

/-! ### Alignment markers and lanes -/

/-- The first unique bytes of the PCS lanes' markers: UP0, UP1, UM0, UM1, UM2. -/
def markerTable : List (List Nat) :=
  [[0xB6, 0xD9, 0x01, 0x71, 0xF3], [0x04, 0x67, 0x5A, 0xDE, 0x7E], [0x46, 0xFE, 0x3E, 0xF3, 0x56], [0x5A, 0x84, 0x86, 0x80, 0xD0],
   [0xE1, 0x19, 0x2A, 0x51, 0xF2], [0xF2, 0x4E, 0x12, 0x4F, 0xD1], [0x3D, 0xEE, 0x42, 0xA1, 0x9C], [0x22, 0x32, 0xD6, 0x76, 0x5B],
   [0x60, 0x9F, 0xE1, 0x73, 0x75], [0x6B, 0xA2, 0x71, 0xC4, 0x3C], [0xFA, 0x04, 0x95, 0xEB, 0xD8], [0x6C, 0x71, 0x22, 0x66, 0x38],
   [0x18, 0x5B, 0xA2, 0xF6, 0x95], [0x14, 0xCC, 0x31, 0x97, 0xC3], [0xD0, 0xB1, 0xCA, 0xFB, 0xA6], [0xB4, 0x56, 0xA6, 0xBA, 0x79]]

/-- A lane's marker, 15 bytes; those of an 800GBASE-R interface are open (log entry 167). -/
def marker (wide : Bool) (lane : Nat) : List Byte :=
  if wide then padTo 15 (Config.marker lane)
  else
    let u := markerTable.getD lane []
    let at' := fun (k : Nat) => u.getD k 0
    let not' := fun (k : Nat) => 255 - u.getD k 0
    [0x9A, 0x4A, 0x26, at' 0, 0x65, 0xB5, 0xD9, at' 1, at' 2, at' 3, at' 4, not' 1, not' 2, not' 3, not' 4].map (BitVec.ofNat 8)

/-- The markers of a flow's 16 lanes in their places before the encoder, and the bits after them, which are open: 2,056 bits. -/
def markerGroup (wide : Bool) (flow nth : Nat) : List Bool :=
  let bits := (List.range 16).map (fun i => sentBits (marker wide (16 * flow + i)))
  (List.range 12).flatMap (fun k => (List.range 16).flatMap (fun i =>
    ((bits.getD (if k % 2 = 0 then i else i ^^^ 1) []).drop (10 * k)).take 10)) ++ lowBits 136 (Config.markerPad flow nth)

/-- Two codewords at a time go to the 16 lanes of a flow, each lane taking symbols of both in turn. -/
def laneSymbols (a b : List Nat) (i : Nat) : List Nat :=
  (List.range 68).map (fun k => (if (k + i) % 2 = 0 then a else b).getD (8 * k + i / 2) 0)

/-- Two codewords of a message of 10,280 bits, as the symbols of the 16 lanes. -/
def codewordPair (bits : List Bool) : List (List Nat) :=
  let sym := (chunks 1028 10 bits).map symbolOf
  let half := fun (o : Nat) => rsEncode ((List.range 514).map (fun i => sym.getD (2 * i + o) 0))
  (List.range 16).map (laneSymbols (half 0) (half 1))

/-! ### A tick of an interface -/

/-- The pairs of codewords of a tick before which a flow's markers are due: every 4,096 pairs. -/
def markersDue (x : PcsFlow) : Nat := ((List.range 50).filter (fun k => (x.pairs + k) % 4096 = 0)).length

/-- A flow's tick of 50 pairs of codewords: its blocks go out transcoded and scrambled, markers between them as they are. -/
def PcsFlow.tick (wide : Bool) (flow : Nat) (blocks : List PcsBlock) (x : PcsFlow) : List (List Nat) × PcsFlow :=
  let r := scramble x.last ((chunks 2000 4 blocks).flatMap transcode)
  let o := (List.range 50).foldl (fun (o : List (List Nat) × List Bool) k =>
    let n := x.pairs + k
    let due : Bool := n % 4096 = 0
    let own := if due then 8224 else 10280
    let lanes := codewordPair ((if due then markerGroup wide flow (n / 4096) else []) ++ o.2.take own)
    (if o.1.isEmpty then lanes else o.1.zipWith (· ++ ·) lanes, o.2.drop own)) ([], r.2)
  (o.1, { last := r.1, pairs := x.pairs + 50 })

/-- Blocks without the first `n` idle ones. -/
def dropIdles : Nat → List PcsBlock → List PcsBlock
  | 0, l => l
  | _, [] => []
  | n + 1, b :: t => if b = idleBlock then dropIdles n t else b :: dropIdles (n + 1) t

/-- A frame takes its place among the blocks of the tick, so many bytes after its start. -/
def Cif.putFrame (at' : Nat) (l : List Byte) (x : Cif) : Cif :=
  { x with blocks := x.blocks ++ List.replicate (at' / 8 - x.blocks.length) idleBlock ++ frameBlocks l }

/-- What an interface sends in a tick: the symbols of its PCS lanes. Idles, or the local-fault sequence, fill what its frames leave;
idles give way to the markers (R382, R431). -/
def Cif.pcsTick (wide : Bool) (x : Cif) : List (List Nat) × Cif :=
  let flows := if wide then 2 else 1
  let f := (List.range flows).map (fun i => x.flows.getD i { last := Config.scramblerStart i })
  let room := flows * (8000 - 32 * markersDue (f.headD {}))
  let l := dropIdles (x.blocks.length - room) x.blocks
  let l := l ++ List.replicate (room - l.length) (if x.lf then faultBlock else idleBlock)
  let send := l.take room
  let out := (List.range flows).map (fun i =>
    (f.getD i {}).tick wide i ((List.range (room / flows)).map (fun k => send.getD (flows * k + i) idleBlock)))
  (out.flatMap (fun o => o.1), { x with blocks := l.drop room, flows := out.map (fun o => o.2) })

/-- The transmit PCS of an interface at a boundary. One whose transmitters are off or dormant starts anew (R445). -/
def pcsBoundary (s : State) (l : Nat) : State :=
  if !ifConfigured s l then s
  else if laneState s l ≤ 1 then s.setCif l { s.cif l with blocks := [], flows := [] }
  else
    let r := (s.cif l).pcsTick (s.attr .laneIfType l = 2)
    (s.setCif l r.2).emit (.pcsLanes l r.1)

end Sys2Proof.Machine
end

