-- ==== Sys2Proof/Machine/Flow.lean ====
section
/-!
DEFINITION. Sys2Proof/Machine/Flow.lean: client ingress, keys, flow lookups and the flow cache, versioned rebuilds, and the
memory port's commands (spec/14).
-/
namespace Sys2Proof.Machine

/-- Changes the memory port. -/
def updMemory (f : Memory → Memory) (s : State) : State := { s with memory := f s.memory }

/-! ### Keys (R476, R477) -/

/-- The ports of a layer-4 header when the protocol has them. -/
def l4Ports (proto : Nat) (l : List Byte) (o : Option Nat) : List Byte :=
  match o with
  | some o => if proto = 6 || proto = 17 || proto = 132 then bytesAt l o 4 else List.replicate 4 0
  | none => List.replicate 4 0

/-- The key type a packet would have, before `key_enable`. -/
def keyTypeOf (x : Ether) : Nat := if x.etype = 0xAEFE then 1 else if x.etype = 0x0800 then 2 else if x.etype = 0x86DD then 3 else 0

/-- The key bytes of a type (Table 7). -/
def keyBytes (type first : Nat) (l : List Byte) (x : Ether) : List Byte :=
  let outer := beBytes 2 (x.vids.getD 0 0)
  let vids := outer ++ beBytes 2 (x.vids.getD 1 0)
  let o := x.body
  match type with
  | 1 => leBytes 1 first ++ vids ++ bytesAt l (o + 1) 1 ++ bytesAt l (o + 4) 2
  | 2 =>
    let proto := (byteAt l (o + 9)).toNat
    leBytes 1 first ++ vids ++ bytesAt l (o + 12) 8 ++ leBytes 1 proto ++ l4Ports proto l (ipv4L4 l o)
  | 3 =>
    let next := (byteAt l (o + 6)).toNat
    leBytes 1 first ++ outer ++ bytesAt l (o + 8) 32 ++ leBytes 1 next ++ l4Ports next l (some (o + 40))
  | _ => leBytes 1 first ++ vids ++ bytesAt l 0 6 ++ beBytes 2 x.etype

/-- The 41 bytes of a packet's key: key_type and 40 key bytes. A type that is not enabled falls back to type 0. -/
def packetKey (enable first : Nat) (l : List Byte) : List Byte :=
  let x := ether l
  let t := if bitOf enable (keyTypeOf x) then keyTypeOf x else 0
  leBytes 1 t ++ padTo 40 (keyBytes t first l x)

/-- A candidate index from a seed. -/
def hashIndex (seed : Nat) (key : List Byte) : Nat := (crc32cFrom seed key ^^^ 0xFFFFFFFF) % 33554432

/-- h1 and h2 (R477). -/
def hashPair (seed1 seed2 : Nat) (key : List Byte) : Nat × Nat :=
  let h1 := hashIndex seed1 key
  let h2 := hashIndex seed2 key
  (h1, if h2 = h1 then h1 ^^^ 1 else h2)

/-! ### Entries (Table 6) -/

def entryMember (e : List Byte) : Nat := fieldAt e 0 1 % 4
def entryOverflow (e : List Byte) : Bool := bitOf (fieldAt e 0 1) 2
def entryKey (e : List Byte) : List Byte := bytesAt e 1 1 ++ bytesAt e 24 40

/-- The entry with member bits and overflow as given. -/
def entryCtl (e : List Byte) (member : Nat) (overflow : Bool) : List Byte :=
  overlay e 0 (leBytes 1 (member + 4 * b01 overflow))

/-- The entry with the counts of another laid over it. -/
def withCounts (e counts : List Byte) : List Byte := overlay e 12 (bytesAt counts 12 12)

/-- A packet of so many bytes is counted in an entry. -/
def countIn (e : List Byte) (n : Nat) : List Byte :=
  overlay e 12 (leBytes 6 (fieldAt e 12 6 + 1) ++ leBytes 6 (fieldAt e 18 6 + n))

/-! ### The flow cache (R479) -/

/-- The cached line of an entry. -/
def cached (s : State) (e : Nat) : Option CacheLine := (s.memory.cache.find? (fun c => c.1 = e)).map (·.2)

/-- The lines of the set of an entry. -/
def cacheSet (s : State) (e : Nat) : List (Nat × CacheLine) := s.memory.cache.filter (fun c => c.1 % 16384 = e % 16384)

/-- The line that an allocation would evict: the least recently used of a full set. -/
def evictee (s : State) (e : Nat) : Option (Nat × CacheLine) :=
  let set := cacheSet s e
  if set.length < 16 then none
  else set.foldl (fun (b : Option (Nat × CacheLine)) c =>
    match b with | none => some c | some m => if c.2.used < m.2.used then some c else b) none

/-- Writes a line, marking it used. -/
def putLine (e : Nat) (entry : List Byte) (dirty : Bool) (s : State) : State :=
  updMemory (fun m => { m with cache := Tab.ins m.cache e ⟨entry, dirty, m.useClock + 1⟩, useClock := m.useClock + 1 }) s

/-- Allocates an entry in the cache; a dirty line that goes is queued for write-back. -/
def allocLine (e : Nat) (entry : List Byte) (s : State) : State :=
  let s := match evictee s e with
    | none => s
    | some (v, c) => updMemory (fun m => { m with
        cache := Tab.erase m.cache v, wbq := if c.dirty then m.wbq ++ [(v, c.entry)] else m.wbq }) s
  putLine e entry false s

/-- An entry that waits to be written back. -/
def inWriteBack (s : State) (e : Nat) : Option (List Byte) :=
  (s.memory.wbq.reverse.find? (fun w => w.1 = e)).map (·.2)

/-- The counts that stand for an entry beside DRAM's, in the cache or on their way back. -/
def mergedEntry (s : State) (e : Nat) (stored : List Byte) : List Byte :=
  match cached s e with
  | some c => withCounts stored c.entry
  | none => match inWriteBack s e with | some w => withCounts stored w | none => stored

/-- The write-back queue of a channel drains at the end of a tick: 40 entries, with the slots that lookups have left (R471, Table 4). -/
def drainChannel (ch : Nat) (s : State) : State :=
  let room := if s.attr .memDdrState ch = 3 then 0 else slotsFree s ch 2
  let due := (s.memory.wbq.filter (fun w => w.1 % 2 = ch)).take room
  let s := updMemory (fun m => { m with
    wbq := m.wbq.filter (fun w => w.1 % 2 ≠ ch) ++ (m.wbq.filter (fun w => w.1 % 2 = ch)).drop room }) s
  due.foldl (fun s w => if isFilled s (flowAddr w.1) then (writeAt (flowAddr w.1) 2 w.2 s).2 else s) s

/-- Both channels' write-backs at the end of a tick. -/
def drainWriteBack (s : State) : State := drainChannel 1 (drainChannel 0 s)

/-! ### Lookups (R477 to R480) -/

/-- What reading an entry for a lookup gives. -/
inductive Fetch where
  | wait | poison | entry (e : List Byte)
deriving DecidableEq, Repr

/-- Allocating an entry would evict a dirty line. -/
def evictsDirty (s : State) (e : Nat) : Bool :=
  (cached s e).isNone && (match evictee s e with | some c => c.2.dirty | none => false)

/-- The write-back queue holds a read of an entry back (R479). -/
def fetchHeld (s : State) (e : Nat) : Bool := decide (57344 < s.memory.wbq.length) && evictsDirty s e

/-- An entry can be read in the present tick: it is cached, or a priority-1 slot of its channel is left and no dirty line
has to wait for the write-back queue. -/
def canFetch (s : State) (e : Nat) : Bool :=
  (cached s e).isSome || (decide (0 < slotsFree s (e % 2) 1) && !fetchHeld s e)

/-- Reads an entry for a lookup. -/
def fetch (e : Nat) (n : Burst) (s : State) : Fetch × State :=
  match cached s e with
  | some c => (.entry c.entry, putLine e c.entry c.dirty s)
  | none =>
    if !canFetch s e then (.wait, s)
    else
      let r := readBurst (flowAddr e) n (ddrAccess (flowAddr e) 1 ((s.count .memFlowMissReads).occurs 0x031 0))
      match r.1.1 with
      | none => (.poison, r.2)
      | some d =>
        let d := match inWriteBack r.2 e with | some w => w | none => d
        (.entry d, allocLine e d r.2)

/-- The end of a lookup, or where it waits. -/
inductive Found where
  | wait (m : Miss) | poison | miss | hit (index : Nat) (e : List Byte)
deriving DecidableEq, Repr

/-- An entry matches a key in a generation (R477). -/
def entryMatches (e key : List Byte) (gen : Nat) : Bool := entryKey e = key && bitOf (entryMember e) gen

/-- The read at h2. -/
def lookupSecond (m : Miss) (n : Burst) (s : State) : Found × State :=
  match fetch m.h2 n s with
  | (.wait, s) => (.wait { m with second := true }, s)
  | (.poison, s) => (.poison, s)
  | (.entry e, s) => (if entryMatches e m.key m.gen then .hit m.h2 e else .miss, s)

/-- The entry that a waiting packet reads next. -/
def Miss.next (m : Miss) : Nat := if m.second then m.h2 else m.h1

/-- Each packet of the miss queue that the write-back queue holds back is counted once (R479). -/
def noteStalls (s : State) : State :=
  let held := fun (m : Miss) => !m.stalled && fetchHeld s m.next &&
    (s.memory.missq.find? (fun x => x.key = m.key)).any (fun x => x.pkt.id = m.pkt.id)
  if 57344 < s.memory.wbq.length then
    let n := s.memory.missq.countP held
    let s' := updMemory (fun x => { x with missq := x.missq.map (fun m => if held m then { m with stalled := true } else m) }) s
    if n = 0 then s' else s'.count .memFlowWbStalls 0 0 n
  else s

/-- Goes on with a lookup (R477). -/
def lookup (m : Miss) (n1 n2 : Burst) (s : State) : Found × State :=
  if m.second then lookupSecond m n2 s
  else match fetch m.h1 n1 s with
    | (.wait, s) => (.wait m, s)
    | (.poison, s) => (.poison, s)
    | (.entry e, s) =>
      if entryMatches e m.key m.gen then (.hit m.h1 e, s)
      else if entryOverflow e then lookupSecond m n2 (s.count .memFlowSecondProbes)
      else (.miss, s)

/-! ### Classification (R405, R419, R475, R478) -/

/-- A packet classified to a channel: unmapped or refused packets are discarded; the others go to the cipher stage, or pass
it (R24, R3). -/
def toChannel (k : Pkt) (s : State) : State :=
  let k := { k with record := stampRecord s k.chan 0 k.place k.stamp k.bytes }
  let cls := pktClass s k
  if s.attr .chGroup k.chan = 0xFFFF then stampDiscard k (s.count .chPmUnmappedDiscards k.chan)
  else if refused s cls then
    breakGuarantee k.chan 4 (stampDiscard k (s.count .chPmRefusedPackets k.chan))
  else if k.encrypt && !s.isCN then updCipher (fun c => { c with entry := c.entry ++ [k] }) s
  else passStage k s

/-- An entry as a packet of a tick meets it: an op 3 that has taken effect since does not hold for it (R526). -/
def entryThen (s : State) (i tick : Nat) (e : List Byte) : List Byte :=
  match s.memory.past.find? (fun x => x.index = i && decide (tick < x.tick)) with
  | some x => overlay e 2 x.old
  | none => e

/-- What a finished lookup does with its packet. -/
def classify (k : Pkt) (f : Found) (s : State) : State :=
  match f with
  | .wait _ => s
  | .poison => s.count .memFlowPoisonDiscards
  | .miss =>
    let s := s.count .memFlowNoMatch
    if s.attr .memFlowDefaultAction = 1 then toChannel { k with chan := s.attrN .memFlowDefaultChannel } s else s
  | .hit i e =>
    let s := putLine i (countIn e k.bytes.length) true (s.count .memFlowHits)
    let e := entryThen s i k.tick e
    toChannel { k with
      chan := fieldAt e 4 2 % 4096, cls := fieldAt e 2 1 % 8, encrypt := bitOf (fieldAt e 2 1) 3
      sa := fieldAt e 8 4 % 1048576 } s

/-- A frame's check sequence holds. -/
def fcsOk (l : List Byte) : Bool := decide (4 ≤ l.length) && fieldAt l (l.length - 4) 4 = crc32 (l.take (l.length - 4))

/-- An ESMC PDU (R434): slow-protocol EtherType, subtype 0x0A, ITU-T OUI. -/
def isEsmc (l : List Byte) : Bool := be16 l 12 = 0x8809 && bytesAt l 14 4 = [0x0A, 0x00, 0x19, 0xA7]

/-- The interface of a lane takes traffic. -/
def laneCarries (s : State) (lane : Nat) : Bool :=
  s.power.phase = .active && s.attr .laneIfFirst lane ≠ 0xFF && laneState s lane = 4

/-- A packet joins the miss queue (R480). Without a free descriptor it has no place there and is lost (R419; DESIGN CHOICE, log
entry 188). -/
def queueMiss (m : Miss) (s : State) : State :=
  if 131072 ≤ descriptorsUsed s then s
  else noteStalls (updMemory (fun x => { x with missq := x.missq ++ [m] }) (s.count .memFlowMissOverruns))

/-- CLIENT_PACKET_RX (R24, R431, R452, R476 to R480): the PCS decodes the blocks of a frame whose first bit after the SFD crosses the balls of a lane so many ps after the
present boundary. -/
def execClientPacketRx (lane : Fin 64) (blocks : List PcsBlock) (ps : Nat) (n1 n2 : Burst) (s : State) :
    Host.Outcome State Fault Refusal :=
  let l := s.attrN .laneIfFirst lane
  let frame := framePayload blocks
  .next (if !laneCarries s lane then s
    else if !fcsOk frame then s.count .laneIfRxFcsErrors l
    else
      let s := s.count .laneIfRxPackets l
      if isEsmc frame || decide (frame.length < 64) || decide (9728 < frame.length) then s
      else
        let k : Pkt := { id := s.nextPkt, chan := 0, bytes := frame, tick := s.tick.toNat, dir := 0,
                         place := lane.val, stamp := stampAt s ps }
        let s := { s with nextPkt := s.nextPkt + 1 }
        let key := packetKey (s.attrN .laneIfKeyEnable l) l frame
        let h := hashPair (s.attrN .memFlowSeed1) (s.attrN .memFlowSeed2) key
        let m : Miss := { pkt := k, key := key, h1 := h.1, h2 := h.2, gen := s.attrN .memFlowCommittedGen }
        if s.memory.missq.any (fun x => x.key = key) then queueMiss m s
        else match lookup m n1 n2 s with
          | (.wait m, s) => queueMiss m s
          | (f, s) => classify k f s)

/-- FLOW_LOOKUP_COMPLETE (R480): the first packet of the miss queue whose next read can be served goes on; packets with equal keys go in
arrival order. -/
def execFlowLookupComplete (n1 n2 : Burst) (s : State) : Host.Outcome State Fault Refusal :=
  let first := fun (m : Miss) => (s.memory.missq.find? (fun x => x.key = m.key)).any (fun x => x.pkt.id = m.pkt.id)
  .next (match s.memory.missq.find? (fun m => first m && canFetch s m.next) with
    | none => s
    | some m =>
      match lookup m n1 n2 s with
      | (.wait m', s) => noteStalls (updMemory (fun x => { x with
          missq := x.missq.map (fun y => if y.pkt.id = m.pkt.id then { m' with stalled := false } else y) }) s)
      | (f, s) => noteStalls (classify m.pkt f (updMemory (fun x => { x with
          missq := x.missq.filter (fun y => y.pkt.id ≠ m.pkt.id) }) s)))

/-! ### Flow-table items (R481 to R484) -/

/-- An entry's cached copy, and what waits to be written back, follow a write to DRAM (R481). -/
def flowCopies (e : Nat) (d : List Byte) (s : State) : State :=
  let s := updMemory (fun m => { m with wbq := m.wbq.filter (fun w => w.1 ≠ e) }) s
  match cached s e with
  | some c => updMemory (fun m => { m with cache := Tab.ins m.cache e { c with entry := d, dirty := false } }) s
  | none => s

/-- Writes an entry to DRAM and to any cached copy in the same access (R481): whether it was written (R462). -/
def writeFlow (e : Nat) (d : List Byte) (s : State) : Bool × State :=
  match writeAt (flowAddr e) 4 d s with
  | (true, s) => (true, flowCopies e d s)
  | (false, s) => (false, s)

/-- Logs a touched index once. -/
def logTouch (e : Nat) (s : State) : State :=
  updMemory (fun m => { m with touch := if m.touch.contains e then m.touch else m.touch ++ [e] }) s

/-- A commit that names the flow table is pending. -/
def flowCommitPending (s : State) : Bool := s.commits.any (fun c => bitOf c.mask 0)

/-- The touch log takes an index. -/
def logRoom (s : State) (e : Nat) : Bool := s.memory.touch.contains e || decide (s.memory.touch.length < 524288)

/-- The flow table counts as staged (R482). -/
def flowStaged (s : State) : Bool := !s.memory.touch.isEmpty && s.attr .memFlowSettlePending = 0

/-- Ops 3 and 4 on an entry. -/
def editEntry (x : FlowEdit) (d : List Byte) : List Byte :=
  if x.op = 4 then entryCtl d (entryMember d) (bitOf x.flags 1)
  else
    let d := overlay (overlay (overlay d 2 (bytesAt x.entry 2 1)) 4 (bytesAt x.entry 4 2)) 8 (bytesAt x.entry 8 4)
    if bitOf x.flags 2 then overlay d 12 (List.replicate 12 0) else d

/-- What an op 3 replaces is kept for the packets that wait since before it (R526). -/
def keepPast (x : FlowEdit) (d : List Byte) (s : State) : State :=
  if x.op = 3 && !s.memory.missq.isEmpty then
    updMemory (fun m => { m with past := m.past ++ [⟨x.index, s.tick.toNat, bytesAt d 2 10⟩] }) s
  else s

/-- An edit of op 3 or 4 takes effect. An entry that reads poison stays as it is. -/
def editDue (s : State) (x : FlowEdit) : State :=
  match readAt (flowAddr x.index) 4 s with
  | ((none, _), s) => s
  | ((some d, _), s) =>
    let d := mergedEntry s x.index d
    match writeFlow x.index (editEntry x d) s with
    | (true, s) => keepPast x d s
    | (false, s) => s

/-- The edits of ops 3 and 4 that wait take effect at a boundary. What no waiting packet needs of earlier ones is dropped. -/
def editsDue (s : State) : State :=
  let l := s.memory.edits
  l.foldl editDue (updMemory (fun m => { m with
    edits := []
    past := m.past.filter (fun x => m.missq.any (fun y => decide (y.pkt.tick < x.tick))) }) s)

/-- The flags an op may set (Table 8). -/
def flowFlags : Nat → Nat
  | 2 => 3 | 3 => 4 | 4 => 2 | _ => 0

/-- An entry given for ops 1 and 3 with a reserved bit set, or with a field out of its range. -/
def flowEntryReserved (e : List Byte) : Bool :=
  decide (8 ≤ fieldAt e 0 1) || decide (16 ≤ fieldAt e 2 1) || byteAt e 3 ≠ 0 || decide (4096 ≤ fieldAt e 4 2) ||
  fieldAt e 6 2 ≠ 0 || decide (1048576 ≤ fieldAt e 8 4)
def flowEntryRange (e : List Byte) : Bool := decide (3 < fieldAt e 1 1) || decide (4 < fieldAt e 2 1 % 8)

/-- The failure of a flow item before its entry is read (R23, R469, R483). -/
def flowItemFails (s : State) (perm : Nat) (it : List Byte) : Option Status :=
  let op := fieldAt it 0 1
  let flags := fieldAt it 1 1
  let i := fieldAt it 4 4
  let e := bytesAt it 8 64
  let key := entryKey e
  let h := hashPair ((s.attrRead .memFlowSeed1 0 0).toNat) ((s.attrRead .memFlowSeed2 0 0).toNat) key
  let builds : Bool := op = 1 || op = 2
  firstFail
    [(op ≠ 5 && decide (perm < 1), .ePermission),
     (flags &&& (255 - flowFlags op) ≠ 0 || ((op = 1 || op = 3) && flowEntryReserved e) ||
        (op = 1 && i ≠ h.1 && i ≠ h.2), .eBadParam),
     (decide (33554431 < i) || ((op = 1 || op = 3) && flowEntryRange e), .eRange),
     ((op ≠ 5 && !isFilled s (flowAddr i)) ||
        (builds && (flowCommitPending s || s.attr .memFlowSettlePending = 1 || !logRoom s i)), .eState)]

/-- Runs a flow item whose entry was read. -/
def flowOp (it d : List Byte) (s : State) : State × Status × List Byte :=
  let op := fieldAt it 0 1
  let flags := fieldAt it 1 1
  let i := fieldAt it 4 4
  let e := bytesAt it 8 64
  let stage := 1 - s.attrN .memFlowCommittedGen
  let now := mergedEntry s i d
  let say := fun (st : Status) => leBytes 1 st.code ++ List.replicate 7 0
  match op with
  | 1 =>
    if entryMember d ≠ 0 then (s, .eState, say .eState)
    else
      let new := entryCtl e (2 ^ stage) (entryOverflow e)
      match writeFlow i new s with
      | (true, s) => (logTouch i (allocLine i new (updMemory (fun m => { m with cache := Tab.erase m.cache i }) s)), .ok, say .ok)
      | (false, s) => (s, .eIntegrity, say .eIntegrity)
  | 2 =>
    if !bitOf (entryMember d) stage then (s, .eState, say .eState)
    else
      let new := entryCtl now (entryMember d - 2 ^ stage) (if bitOf flags 0 then bitOf flags 1 else entryOverflow d)
      match writeFlow i new s with
      | (true, s) => (logTouch i s, .ok, say .ok)
      | (false, s) => (s, .eIntegrity, say .eIntegrity)
  | 3 =>
    if entryMember d ≠ 3 then (s, .eState, say .eState)
    else (updMemory (fun m => { m with edits := m.edits ++ [⟨i, op, flags, e⟩] }) s, .ok, say .ok)
  | 4 => (updMemory (fun m => { m with edits := m.edits ++ [⟨i, op, flags, e⟩] }) s, .ok, say .ok)
  | _ => (s, .ok, say .ok ++ now)

/-- One item of SY_FLOW, with what its read of DRAM meets (R483). -/
def flowItem (perm : Nat) (s : State) (x : List Byte × Burst) : State × Status × List Byte :=
  let it := x.1
  let fail := fun (st : Status) (s : State) =>
    (s, st, leBytes 1 st.code ++ List.replicate 7 0 ++ (if fieldAt it 0 1 = 5 then List.replicate 64 0 else []))
  match flowItemFails s perm it with
  | some st => fail st s
  | none =>
    match readBurst (flowAddr (fieldAt it 4 4)) x.2 (ddrAccess (flowAddr (fieldAt it 4 4)) 4 s) with
    | ((none, _), s) => fail .eIntegrity s
    | ((some d, _), s) => flowOp it d s

/-- An item can be served in the present tick: a slot of its channel is left, and an insert that would evict a dirty line finds room in the
write-back queue (R471, R479). -/
def flowReady (s : State) (x : List Byte × Burst) : Bool :=
  let i := fieldAt x.1 4 4
  decide (0 < slotsFree s (i % 2) 4) &&
    !(fieldAt x.1 0 1 = 1 && decide (65536 ≤ s.memory.wbq.length) && evictsDirty s i)

/-- SY_FLOW (R482, R490): items of 72 bytes under the rules of R145, with what the read of each item's entry meets. -/
def execSyFlow (c : CmdRef) (dma : BatchIn) (bursts : List Burst) (s : State) : Host.Outcome State Fault Refusal :=
  .next (serve 0x0E03 anyForm batchNamed
    (fun s sid e =>
      let n := fieldAt e 16 4
      let l := batchIn s sid e dma.bytes
      let ops := (List.range n).map (fun k => fieldAt l (72 * k) 1)
      batchAreas 4096 72 s sid e ++
      [(!batchUnread s sid e && (ops.any (fun o => o = 0 || decide (5 < o)) ||
          decide (fieldAt e 32 4 < (ops.map (fun o => if o = 5 then 72 else 8)).sum)), .eBadParam),
       (gated s 0 || gated s 1, .eState)])
    (fun s c e =>
      let l := batchInput s c e dma.bytes
      let items := (List.range (fieldAt e 16 4)).map (fun k => (bytesAt l (72 * k) 72, bursts.getD k {}))
      let b := batchProgress s c
      runBatchWhile c dma.slice l (fieldAt e 40 8) flowReady (flowItem b.rights.perm) items [] b s)
    c s)

/-- The flow table's part of a commit at its boundary (R484): generation, settle and seeds. -/
def flowSwap (s : State) : State :=
  let seed := fun (a : Attr) (s : State) =>
    let v := s.attrRead a 0 0
    { s.setAttr a 0 0 v with written := Tab.erase s.written (a.key 0 0) }
  let s := seed .memFlowSeed2 (seed .memFlowSeed1 s)
  let s := updMemory (fun m => { m with toSettle := m.touch, settleBy := s.tick.toNat + ceilDiv m.touch.length 8 + 1 }) s
  (s.setAttr .memFlowCommittedGen 0 0 (1 - s.attr .memFlowCommittedGen)).setAttr .memFlowSettlePending 0 0 1

/-- The settle gives a logged entry its normal form (R484). One that reads poison, or whose write fails, stays as it is. -/
def settleEntry (s : State) (i : Nat) : State :=
  match readAt (flowAddr i) 4 s with
  | ((none, _), s) => s
  | ((some d, _), s) =>
    let d := mergedEntry s i d
    (writeFlow i (if bitOf (entryMember d) (s.attrN .memFlowCommittedGen) then entryCtl d 3 (entryOverflow d)
      else entryCtl (List.replicate 64 0) 0 (entryOverflow d)) s).2

/-- The settle visits so many more indices of each channel; those of one in self-refresh wait. -/
def settleSome (slots : Nat → Nat) (s : State) : State :=
  let room := fun (ch : Nat) => if s.attr .memDdrState ch = 3 then 0 else slots ch
  let mine := fun (ch : Nat) => s.memory.toSettle.filter (fun i => i % 2 = ch)
  let now := (mine 0).take (room 0) ++ (mine 1).take (room 1)
  now.foldl settleEntry (updMemory (fun m => { m with toSettle := (mine 0).drop (room 0) ++ (mine 1).drop (room 1) }) s)

/-- The settle ends once it has visited every logged index: the log empties (R484). -/
def settleClose (s : State) : State :=
  if s.memory.toSettle.isEmpty then updMemory (fun m => { m with touch := [] }) (s.setAttr .memFlowSettlePending 0 0 0) else s

/-- The settle goes on in the slots of a tick (R471, R484): two accesses an index, of those that priority 4 finds free, and at least its
16 reserved slots a channel. -/
def settleTick (s : State) : State :=
  if s.attr .memFlowSettlePending = 1 then settleSome (fun ch => max 8 (slotsFree s ch 4 / 2)) s else s

/-- SETTLE_DONE (R484): it has visited what the free slots of the present tick allow; none being left, it ends. -/
def execSettleDone (s : State) : Host.Outcome State Fault Refusal :=
  .next (if s.attr .memFlowSettlePending = 1 then settleClose (settleSome (fun ch => slotsFree s ch 4 / 2) s) else s)

/-- A settle ends at its bound at the latest (R484). -/
def settleBoundary (s : State) : State :=
  if s.attr .memFlowSettlePending = 1 && decide (s.memory.settleBy ≤ s.tick.toNat) then
    settleClose (settleSome (fun _ => s.memory.toSettle.length) s)
  else s

/-! ### Fill, scrub and access (R470 to R473, R489, R491) -/

/-- SY_MEM_FILL (R488, R489). -/
def execSyMemFill (c : CmdRef) (s : State) : Host.Outcome State Fault Refusal :=
  .next (serve 0x0E01 anyForm [(16, 8), (24, 8)]
    (fun s sid e =>
      let a := fieldAt e 16 8
      let n := fieldAt e 24 8
      [(decide (s.attrN .sessionPermission sid < 2) && decide (a < hostBase) && decide (contextBase < a + n), .ePermission),
       (a % 1048576 ≠ 0 || n % 1048576 ≠ 0 || decide (dramSize < a + n), .eRange),
       (s.memory.fill.isSome || gated s 0 || gated s 1, .eState)])
    (fun s c e =>
      (updMemory (fun m => { m with fill := some { cmd := c, first := addrBlock (fieldAt e 16 8), count := addrBlock (fieldAt e 24 8) } }) s, .accept))
    c s)

/-- Writes that fail for good in a pass of a channel are counted, the first reported (R466): so many from an address on. -/
def burstsBad (a n : Nat) (s : State) : State :=
  if n = 0 then s else
  let s := burstBad a s
  if n = 1 then s else s.count .memDdrUncorrectable (addrChannel a) 0 (n - 1)

/-- What the writes of a fill meet: retries and failures that the link shows (R462), and a channel that does not serve (R461). -/
def fillFaults (lo n : Nat) (s : State) : State :=
  let inside := fun (x : Nat × Burst) => decide (lo * 1048576 ≤ x.1) && decide (x.1 < (lo + n) * 1048576)
  let met := s.memory.link.filter inside
  let s := updMemory (fun m => { m with link := m.link.filter (fun x => !inside x) }) s
  [0, 1].foldl (fun s ch =>
    if !ddrReady s ch then burstsBad (lo * 1048576 + 64 * ch) (8192 * n) s
    else (met.filter (fun x => addrChannel x.1 = ch)).foldl (fun s x =>
      let s := if x.2.retries = 0 then s else s.count .memDdrCrcRetries ch 0 (min 3 x.2.retries.val)
      if x.2.retries = 4 then burstBad x.1 s else s) s) s

/-- A fill has passed so many more blocks (R468): cached copies of flow entries that it has overwritten go. -/
def fillMore (j : FillJob) (n : Nat) (s : State) : State :=
  let lo := j.first + j.done
  let inside := fun (e : Nat) => decide (lo ≤ addrBlock (flowAddr e)) && decide (addrBlock (flowAddr e) < lo + n)
  let good := n - (fillLost lo n s).length
  updMemory (fun m => { m with
    fill := some { j with done := j.done + n, good := j.good + good }
    cache := m.cache.filter (fun c => !inside c.1), wbq := m.wbq.filter (fun w => !inside w.1) })
    (fillFaults lo n (ddrServed 0 5 (8192 * n) (ddrServed 1 5 (8192 * n) (fillBlocks lo n s))))

/-- Blocks that the slots of a fill have allowed, at 8,192 bursts of each channel to a block (R470). -/
def FillJob.allowed (j : FillJob) : Nat := min j.count (min j.room.1 j.room.2 / 8192)

/-- A fill ends: its last blocks, and its response (R489). -/
def fillEnd (j : FillJob) (s : State) : State :=
  let s := fillMore j (j.count - j.done) s
  let good := match s.memory.fill with | some x => x.good | none => 0
  finish j.cmd .ok [(16, 4, good), (24, 8, s.tick.toNat)] (updMemory (fun m => { m with fill := none }) s)

/-- MEM_FILL_DONE (R468, R470): the rest of the range is filled, when the slots left to the fill have been enough. -/
def execMemFillDone (s : State) : Host.Outcome State Fault Refusal :=
  .next (match s.memory.fill with
    | none => s
    | some j => if j.allowed = j.count then fillEnd j s else s)

/-- A running fill at the end of a tick: it has filled what is shown, of what its slots allow; one of the whole memory that has had every
slot ends within 1.1 s (R470), and a smaller one in proportion. -/
def fillTick (shown : Nat) (s : State) : State :=
  match s.memory.fill with
  | none => s
  | some j =>
    if 343750000 * j.count ≤ 32768 * min j.room.1 j.room.2 then fillEnd j s
    else
      let n := min shown (j.allowed - j.done)
      if n = 0 then s else fillMore j n s

/-- The slots of a tick that the other priorities have left go to fill and range scrub, in halves when both run (R471). -/
def grantSlots (s : State) : State :=
  let both := s.memory.fill.isSome && s.memory.scrub.isSome
  let part := fun (ch : Nat) => if both then slotsFree s ch 5 / 2 else slotsFree s ch 5
  let give := fun (r : Nat × Nat) => (r.1 + part 0, r.2 + part 1)
  updMemory (fun m => { m with
    fill := m.fill.map (fun j => { j with room := give j.room }), scrub := m.scrub.map (fun j => { j with room := give j.room }) }) s

/-- A tick's accesses beyond 400 on a channel are made in the slots of host commands of the next tick (R471). -/
def slotsCarried (s : State) : State :=
  let beyond := fun (ch : Nat) => ([1, 2, 3, 4, 5].map (slotsUsed s ch)).sum - 400
  updMemory (fun m => { m with used := Tab.put 0 (Tab.put 0 [] 4 (beyond 0)) 12 (beyond 1) }) s

/-- DRAM at the end of a tick: write-backs, the settle, and what is left to fill and range scrub, in the order of Table 4. -/
def memoryTick (shown : Nat) (s : State) : State :=
  slotsCarried (fillTick shown (grantSlots (noteStalls (rebuildTick (settleTick (drainWriteBack s))))))

/-- The background scrubber moves on; the end of the flow-table region ends the pass (R472). -/
def scrubAdvance (next : Nat) (s : State) : State :=
  if next < contextBase then s.setAttr .memScrubPosition 0 0 next
  else
    let m := s.memory
    let s := (s.setAttr .memScrubPosition 0 0 0).bump .memScrubPasses
    raise 0x0E03 5 noIndex [(24, 4, m.passCorrected), (28, 4, m.passBad)]
      (updMemory (fun x => { x with passCorrected := 0, passBad := 0 }) s)

/-- A scrub reads a burst and writes a corrected one back. The number tells what it met: 0 clean, 1 corrected on `device`, 2
uncorrectable. -/
def scrubBurst (a : Nat) (n : Burst) (s : State) : Decoded × State :=
  match readBurst a n s with
  | ((some d, .corrected k), s) => (.corrected k, (writeAt a 5 d s).2)
  | ((_, r), s) => (r, s)

/-- The background scrubber waits so many bursts at the pace of one pass in `scrub.pass_s`; a time it has missed does not count (R472). -/
def scrubPace (bursts : Nat) (s : State) : State :=
  let now := s.tick.toNat * 33554432
  let step := s.attrN .memScrubPassS * 781250
  updMemory (fun m => { m with scrubAt := (if now < m.scrubAt + 2 * step then m.scrubAt else now) + bursts * step }) s

/-- SCRUB_READ (R472): the next burst of the flow-table region, when the pace allows it; a block that is not filled is skipped whole.
A channel in self-refresh is not read. -/
def execScrubRead (n : Burst) (s : State) : Host.Outcome State Fault Refusal :=
  let a := s.attrN .memScrubPosition
  .next (if s.attr .thermalLevel ≠ 0 || s.power.phase ≠ .active || s.attr .memDdrState (addrChannel a) = 3 ||
      decide (s.tick.toNat * 33554432 < s.memory.scrubAt) || slotsFree s (addrChannel a) 5 = 0 then s
    else
    let s := scrubPace (if isFilled s a then 1 else ((addrBlock a + 1) * 1048576 - a) / 64) s
    if !isFilled s a then scrubAdvance ((addrBlock a + 1) * 1048576) s
    else match scrubBurst a n (ddrAccess a 5 s) with
      | (.corrected _, s) => scrubAdvance (a + 64) (updMemory (fun m => { m with passCorrected := m.passCorrected + 1 }) s)
      | (.uncorrectable, s) => scrubAdvance (a + 64) (updMemory (fun m => { m with passBad := m.passBad + 1 }) s)
      | (.clean, s) => scrubAdvance (a + 64) s)

/-- SY_MEM_SCRUB (R473). -/
def execSyMemScrub (c : CmdRef) (s : State) : Host.Outcome State Fault Refusal :=
  .next (serve 0x0E02 anyForm [(16, 8), (24, 8)]
    (fun s _ e =>
      let a := fieldAt e 16 8
      let n := fieldAt e 24 8
      [(a % 64 ≠ 0 || n % 64 ≠ 0 || decide (n < 64) || decide (dramSize < a + n), .eRange),
       (s.memory.scrub.isSome || gated s 0 || gated s 1, .eState)])
    (fun s c e => (updMemory (fun m => { m with scrub := some { cmd := c, start := fieldAt e 16 8, length := fieldAt e 24 8, tick := s.tick.toNat } }) s, .accept))
    c s)

/-- Bursts of a channel whose burst number lies from `lo` to below `hi`. -/
def burstsOf (lo hi ch : Nat) : Nat := (hi + 1 - ch) / 2 - (lo + 1 - ch) / 2

/-- The parts of a range in blocks that pass a test, as burst numbers from and to. -/
def blockSpans (start length : Nat) (f : Nat → Bool) : List (Nat × Nat) :=
  let b0 := addrBlock start
  let b1 := addrBlock (start + length - 1)
  ((List.range (b1 + 1 - b0)).map (b0 + ·)).filterMap (fun b =>
    if f b then some (max start (b * 1048576) / 64, min (start + length) ((b + 1) * 1048576) / 64) else none)

/-- What a range scrub has met: corrections, uncorrectable bursts, devices, the first bad address. -/
structure ScrubSum where
  corrected : Nat := 0
  bad : Nat := 0
  mask : Nat := 0
  first : Nat := 0xFFFFFFFFFFFFFFFF
deriving DecidableEq, Repr

/-- Bursts of a channel in parts of a range. -/
def spanBursts (l : List (Nat × Nat)) (ch : Nat) : Nat := (l.map (fun x => burstsOf x.1 x.2 ch)).sum

/-- The first burst of a channel in parts of a range, by address. -/
def spanFirst (l : List (Nat × Nat)) (ch : Nat) : Nat :=
  ((l.filter (fun x => decide (0 < burstsOf x.1 x.2 ch))).map (fun x => 64 * (if x.1 % 2 = ch then x.1 else x.1 + 1))).foldl min
    0xFFFFFFFFFFFFFFFF

/-- MEM_SCRUB_DONE (R473, Table 5): the bursts that met an error, by address; every other burst of the range read clean. Bursts
of a channel that does not serve are all uncorrectable. The pass cannot end before the slots left to it have been enough (R471). -/
def execMemScrubDone (bursts : List (Nat × Burst)) (s : State) : Host.Outcome State Fault Refusal :=
  .next (match s.memory.scrub with
    | none => s
    | some j =>
      let filled := blockSpans j.start j.length (fun b => bitOf s.memory.filled b)
      if j.room.1 < spanBursts filled 0 || j.room.2 < spanBursts filled 1 then s else
      let empty := blockSpans j.start j.length (fun b => !bitOf s.memory.filled b)
      let total := fun (l : List (Nat × Nat)) => (l.map (fun x => x.2 - x.1)).sum
      let dead := [0, 1].filter (fun ch => !ddrReady s ch)
      let deadBursts := (dead.map (spanBursts filled)).sum
      let deadFirst := (dead.map (spanFirst filled)).foldl min 0xFFFFFFFFFFFFFFFF
      let s := [0, 1].foldl (fun s ch => ddrServed ch 5 (spanBursts filled ch) s) s
      let s := dead.foldl (fun s ch => burstsBad (spanFirst filled ch) (spanBursts filled ch) s) s
      let mine := bursts.filter (fun x => x.1 % 64 = 0 && decide (j.start ≤ x.1) && decide (x.1 < j.start + j.length) &&
        isFilled s x.1 && ddrReady s (addrChannel x.1))
      let r := mine.foldl (fun (r : ScrubSum × State) x =>
        match scrubBurst x.1 x.2 r.2 with
        | (.corrected d, s) =>
          ({ r.1 with corrected := r.1.corrected + 1, mask := r.1.mask ||| 2 ^ (16 * addrChannel x.1 + d) }, s)
        | (.uncorrectable, s) => ({ r.1 with bad := r.1.bad + 1, first := min r.1.first x.1 }, s)
        | (.clean, s) => (r.1, s)) ({}, s)
      let s := updMemory (fun m => { m with scrub := none }) r.2
      finish j.cmd .ok
        [(16, 8, total filled), (24, 4, r.1.corrected), (28, 4, r.1.bad + deadBursts), (32, 4, total empty),
         (36, 4, r.1.mask), (40, 8, min r.1.first deadFirst), (48, 8, j.tick), (56, 8, s.tick.toNat)] s)

/-- A block that serves bytes of a range is gated (R180). -/
def spanGated (s : State) (a n : Nat) : Bool :=
  gated s (addrChannel a) || (decide (64 < n) && (gated s 0 || gated s 1))

/-- A range lies in the host region, or in the flow-table region. -/
def inHostRegion (a n : Nat) : Bool := decide (hostBase ≤ a) && decide (a + n ≤ dramSize)
def inFlowRegion (a n : Nat) : Bool := decide (a + n ≤ contextBase)

/-- Reads words one after another until one is poisoned: the bytes read. A flow entry comes with its cached counts (R481). -/
def readWords : Nat → Nat → List Burst → State → List Byte × State
  | 0, _, _, s => ([], s)
  | n + 1, a, bs, s =>
    match readBurst a (bs.headD {}) (ddrAccess a 4 s) with
    | ((none, _), s) => ([], s)
    | ((some d, _), s) =>
      let d := if a < contextBase then mergedEntry s (a / 64) d else d
      let r := readWords n (a + 64) bs.tail s
      (d ++ r.1, r.2)

/-- Writes words one after another until one fails its retries (R462): the words written. -/
def writeWords : List (List Byte) → Nat → List Burst → State → Nat × State
  | [], _, _, s => (0, s)
  | d :: t, a, bs, s =>
    match writeBurst a d (bs.headD {}) (ddrAccess a 4 s) with
    | (false, s) => (0, s)
    | (true, s) => let r := writeWords t (a + 64) bs.tail s; (r.1 + 1, r.2)

/-- SY_MEM_ACCESS (R469, R491). -/
def execSyMemAccess (c : CmdRef) (dma : List Byte) (bursts : List Burst) (s : State) : Host.Outcome State Fault Refusal :=
  .next (serve 0x0E04 anyForm [(16, 1), (20, 4), (24, 8), (32, 8)]
    (fun s sid e =>
      let op := fieldAt e 16 1
      let n := fieldAt e 20 4
      let a := fieldAt e 24 8
      [(decide (1 < op) || n = 0 || decide (1024 < n) || a % 64 ≠ 0 || decide (dramSize < a + 64 * n) ||
          areaBad s sid (fieldAt e 32 8) (64 * n), .eRange),
       ((op = 0 && !inHostRegion a (64 * n) && !inFlowRegion a (64 * n)) || (op = 1 && !inHostRegion a (64 * n)) ||
          (op = 1 && (List.range n).any (fun k => !isFilled s (a + 64 * k))) || spanGated s a (64 * n), .eState)])
    (fun s c e =>
      let n := fieldAt e 20 4
      let a := fieldAt e 24 8
      if fieldAt e 16 1 = 0 then
        let r := readWords n a bursts s
        let s := if r.1.isEmpty then r.2 else writeArea r.2 c.session (fieldAt e 32 8) r.1
        (s, .final (if r.1.length = 64 * n then .ok else .eIntegrity) [(16, 4, r.1.length / 64)])
      else
        let d := readArea s c.session (fieldAt e 32 8) (64 * n) dma
        let r := writeWords (chunks n 64 d) a bursts s
        (r.2, .final (if r.1 = n then .ok else .eIntegrity) [(16, 4, r.1)]))
    c s)

end Sys2Proof.Machine
end

