-- ==== Sys2Proof/Machine/Timing.lean ====
section
/-!
DEFINITION. Sys2Proof/Machine/Timing.lean: reference monitors, quality levels and ESMC, selection, the clean-up loop's states,
holdover and ageing (R571 to R589 of spec/17).
-/
namespace Sys2Proof.Machine

/-- Changes the timing port. -/
def updTiming (f : Timing → Timing) (s : State) : State := { s with timing := f s.timing }

/-- The monitor of a candidate. -/
def State.ref (s : State) (i : Nat) : Ref := Tab.get {} s.timing.refs i

/-- Replaces it. -/
def State.setRef (s : State) (i : Nat) (r : Ref) : State := updTiming (fun t => { t with refs := Tab.put {} t.refs i r }) s

/-- A picosecond in the units of the time counter. -/
def psUnit : Nat := 100000000

/-- A second in the units of the time counter. -/
def secondUnits : Nat := 100000000000000000000

/-! ### Quality levels (R574, R575) -/

/-- The rank of a quality level (Table 3); every other value ranks with QL-DNU. -/
def qlRank (q : Nat) : Nat := match q with | 0x2 => 1 | 0x4 => 2 | 0x8 => 3 | 0xB => 4 | _ => 5

/-- A received or assigned value as an effective QL: 0xFE is QL-INV. -/
def qlOf (v : Nat) : Nat := if v = 0x2 || v = 0x4 || v = 0x8 || v = 0xB || v = 0xF then v else 0xFE

/-- The first lane of the interface that holds a candidate's lane. -/
def refIface (s : State) (i : Nat) : Option Nat :=
  let l := s.attrN .timRefSourceLane i
  if l = 0xFF || s.attr .laneIfFirst l = 0xFF then none else some (s.attrN .laneIfFirst l)

/-- The effective QL of a candidate now. -/
def effectiveQl (s : State) (i : Nat) : Nat :=
  let o := s.attrN .timRefQlOverride i
  if o ≠ 0xFF then qlOf o
  else if i < 4 then 0xFF
  else if i < 6 then
    let q := s.attrN .alfQlRx (i - 4)
    if q = 0xFF then 0xFF else qlOf q
  else match refIface s i with
    | none => 0xFF
    | some l => match (Tab.get {} s.timing.esmc l).ql with | some q => qlOf q | none => 0xFF

/-- The effective QL in force, since the last tick boundary. -/
def refQl (s : State) (i : Nat) : Nat := s.attrN .timRefQl i

/-! ### Candidates (R572, R577, R578) -/

/-- A candidate is present (Table 2); the monitors run in `D53`. -/
def refPresent (s : State) (i : Nat) : Bool :=
  s.domRuns 53 &&
  (decide (i < 4) || (decide (i < 6) && portActive s (i - 4)) ||
   (decide (6 ≤ i) && s.attr .timRefSourceLane i ≠ 0xFF && laneState s (s.attrN .timRefSourceLane i) = 4))

/-- The selected candidate, 0xFF for none. -/
def selectedRef (s : State) : Nat := s.attrN .timSelected

/-- Hold-off runs on the selected candidate. -/
def holdOffRuns (s : State) : Bool := s.timing.holdOff.isSome

/-- A candidate is eligible (R577). -/
def refEligible (s : State) (i : Nat) : Bool :=
  refPresent s i && (s.ref i).good && (s.ref i).wait.isNone && s.attr .timRefPriority i ≠ 0 &&
  decide (qlRank (refQl s i) ≤ min (qlRank (s.attrN .timLocalQl)) 4)

/-- The order of R577, best lowest. -/
def refOrder (s : State) (i : Nat) : Nat := (qlRank (refQl s i) * 256 + s.attrN .timRefPriority i) * 16 + i

/-- The best eligible candidate, 0xFF for none. -/
def bestRef (s : State) : Nat :=
  (List.range 14).foldl (fun b i =>
    if refEligible s i && (b = 0xFF || decide (refOrder s i < refOrder s b)) then i else b) 0xFF

/-- `ref[i].status` (Table 12). -/
def refStatus (s : State) (i : Nat) : Nat :=
  if !refPresent s i then 0
  else if selectedRef s = i then (if holdOffRuns s then 6 else 5)
  else if s.attr .timRefPriority i = 0 then 1
  else if !(s.ref i).good then 2
  else if (s.ref i).wait.isSome then 3
  else if refEligible s i then 4
  else (Config.refStatus i).toNat

/-- A change of the state of the port, with its event (R582). -/
def setTimingState (v : Nat) (s : State) : State :=
  let old := s.attrN .timState
  if old = v then s else raise 0x1102 3 noIndex [(24, 1, old), (25, 1, v), tickFld s 32] (s.setAttr .timState 0 0 v)

/-- A candidate fails (R572, R580). The hold-off of the selected one counts from the boundary of tick `start`; whether the port bridges
is decided at that boundary (R601). -/
def refFail (i : Nat) (start : Nat) (s : State) : State :=
  let r := s.ref i
  if !r.good then s
  else
    let s := s.setRef i { r with good := false, wait := none, edges := 0, since := none }
    let s := raise 0x1103 3 i [(24, 1, 0), tickFld s 32] (s.bump .timRefFailures i)
    if selectedRef s = i && (s.attr .timState = 1 || s.attr .timState = 2 || s.attr .timState = 3) then
      updTiming (fun t => { t with
        holdOff := some (start + msTicks (s.attrN .timHoldOffMs))
        failQl := if s.attr .timState = 3 && t.holdOff.isSome then t.failQl else refQl s i
        whole := false }) s
    else s

/-- A candidate turns good (R572, R578, R580): it waits, unless its hold-off runs. -/
def refTurnGood (i : Nat) (start : Nat) (s : State) : State :=
  let r := s.ref i
  if r.good || !refPresent s i then s
  else
    let held := selectedRef s = i && holdOffRuns s
    let secs := if r.served then s.attrN .timWtrS else 1
    let s := s.setRef i { r with
      good := true, served := true, wait := if held then none else some (start + sTicks secs) }
    raise 0x1103 3 i [(24, 1, 1), tickFld s 32] s

/-- The conditions of Table 2 under which a line candidate is good again. -/
def lineRefFit (s : State) (p : Nat) : Bool := s.attr .mrState p = 8 && s.attrN .defectDeclared p % 4 = 0

/-- A clock on `REFINi` has no rising edge for 4 nominal periods, or for 1 us if that is longer (Table 2). -/
def refIdle (s : State) (i : Nat) (idlePs : Nat) : Bool :=
  decide (1000000 ≤ idlePs) && decide (4000000000000 ≤ idlePs * s.attrN .timRefFreqHz i)

/-- A frequency lies outside `freq_window_ppb` of nominal (Table 2). -/
def refOut (s : State) (ppb : Int) : Bool := decide (s.attrN .timFreqWindowPpb < ppb.natAbs)

/-- The failure condition of Table 2, by what the monitor shows; that of a line candidate or a pulse is the block's own. -/
def refBad (s : State) (k : RefLook) : Bool :=
  let i := k.ref.val
  if 6 ≤ i then k.windows.any (refOut s)
  else if 4 ≤ i then !lineRefFit s (i - 4)
  else if s.attr .timRefType i = 1 then
    match (s.ref i).valid with
    | some e => decide (e + 2000000000000 + 10000000 < (s.tick.toNat + 1) * 1280000)
    | none => false
  else refIdle s i k.idlePs || k.windows.any (refOut s)

/-- The good condition of Table 2 has held for 100 ms: ten windows of 10 ms. A pulse turns good by its edges. -/
def refFit (s : State) (k : RefLook) : Bool :=
  let i := k.ref.val
  let steady := decide (10 ≤ k.windows.length) && !k.windows.any (refOut s)
  if 6 ≤ i then steady
  else if 4 ≤ i then
    lineRefFit s (i - 4) && (match (s.ref i).since with
      | some a => decide (a + msTicks 100 ≤ s.tick.toNat + 1)
      | none => false)
  else s.attr .timRefType i ≠ 1 && steady && !refIdle s i k.idlePs

/-- REF_GOOD (R572): a candidate's good condition has held for its time. -/
def execRefGood (look : RefLook) (s : State) : Host.Outcome State Fault Refusal :=
  .next (if refFit s look then refTurnGood look.ref (s.tick.toNat + 1) s else s)

/-- Line candidates, and presence of every candidate, at a boundary: a failure acts at once, and good conditions count 100 ms. -/
def monitorBoundary (s : State) (i : Nat) : State :=
  let t := s.tick.toNat
  if !refPresent s i then refFail i t s
  else if i = 4 || i = 5 then
    if !lineRefFit s (i - 4) then
      let s := refFail i t s
      s.setRef i { s.ref i with since := none }
    else match (s.ref i).since with
      | none => s.setRef i { s.ref i with since := some t }
      | some a => if a + msTicks 100 ≤ t then refTurnGood i t s else s
  else s

/-- Folds a time to the range above −0.5 s up to 0.5 s. -/
def foldSecond (x : Int) : Int :=
  let m := x % (secondUnits : Int)
  if (secondUnits : Int) < 2 * m then m - (secondUnits : Int) else m

/-- REFIN_PULSE_EDGE (R572, R573): an edge so many ps after the present boundary. A valid edge lies 1 s ± 10 us after the previous
valid one. An edge that comes later is not valid: a run of edges begins again with it, and the seconds without a valid edge count on. One
that comes earlier is passed over. -/
def execRefinPulseEdge (ref : Fin 4) (ps : Nat) (s : State) : Host.Outcome State Fault Refusal :=
  .next (if s.attr .timRefType ref ≠ 1 || !refPresent s ref then s
    else
      let r := s.ref ref
      let now := s.tick.toNat * 1280000 + ps
      let offset := fun (s : State) =>
        if (s.ref ref).good then
          s.setAttr .timRefPhaseOffsetPs ref 0
            (roundDiv (foldSecond ((s.timing.tai : Int) + ((ps * psUnit : Nat) : Int)
              - s.attr .timRefDelayPs ref * (psUnit : Int))) psUnit)
        else s
      match r.edge with
      | none => offset (s.setRef ref { r with edge := some now, edges := 0 })
      | some e =>
        if now + 10000000 < e + 1000000000000 then s
        else if e + 1000000000000 + 10000000 < now then offset (s.setRef ref { r with edge := some now, edges := 0 })
        else
          let s := s.setRef ref { r with edge := some now, valid := some now, edges := r.edges + 1 }
          offset (if 3 ≤ r.edges + 1 then refTurnGood ref (s.tick.toNat + 1) s else s))

/-- A pulse candidate fails after two seconds in a row without a valid edge (Table 2). -/
def pulseBoundary (s : State) (i : Nat) : State :=
  if s.attr .timRefType i ≠ 1 then s
  else match (s.ref i).valid with
    | some e => if e + 2000000000000 + 10000000 < s.tick.toNat * 1280000 then refFail i s.tick.toNat s else s
    | none => s

/-- The waits of R578 that have ended. -/
def wtrDue (s : State) (i : Nat) : State :=
  match (s.ref i).wait with
  | some t => if t ≤ s.tick.toNat then s.setRef i { s.ref i with wait := none } else s
  | none => s

/-- WTR_EXPIRY (R578). -/
def execWtrExpiry (ref : Fin 14) (s : State) : Host.Outcome State Fault Refusal := .next (wtrDue s ref)

/-! ### Selection and states (R579 to R583) -/

/-- Another candidate displaces the followed one (R579). In hold-off the followed one ranks with its QL at the failure. -/
def displaces (s : State) (b cur : Nat) : Bool :=
  let rb := qlRank (refQl s b)
  let rc := qlRank (if holdOffRuns s then s.timing.failQl else refQl s cur)
  decide (rb < rc) ||
  (s.attr .timRevertive = 1 && rb = rc && decide (s.attrN .timRefPriority b < s.attrN .timRefPriority cur))

/-- The candidate to follow in automatic mode. A priority of 0 is never held off (R580). -/
def autoTarget (s : State) : Nat :=
  let cur := selectedRef s
  let b := bestRef s
  if cur ≠ 0xFF && (refEligible s cur || (holdOffRuns s && s.attr .timRefPriority cur ≠ 0)) then
    if b ≠ 0xFF && b ≠ cur && displaces s b cur then b else cur
  else b

/-- The candidate to follow (Table 4). -/
def refTarget (s : State) : Nat :=
  let r := s.attrN .timSelectRef
  match s.attrN .timSelectMode with
  | 0 => autoTarget s
  | 1 => if refEligible s r then r else autoTarget s
  | 2 => if (refPresent s r && (s.ref r).good) || (selectedRef s = r && holdOffRuns s) then r else 0xFF
  | _ => 0xFF

/-- The state of the port once the candidate to follow is known; `fresh`: it is followed from now. -/
def nextState (s : State) (target : Nat) (fresh : Bool) : Nat :=
  if s.attr .clockPllCoast = 1 then 5
  else if target = 0xFF then
    if s.attr .timSelectMode ≠ 4 && s.attr .timHoldoverValid = 1 then 4 else 0
  else if holdOffRuns s then 3
  else if fresh then 1
  else if s.attr .timState = 2 then 2
  else if s.attr .timState = 1 && decide (-100000000000 ≤ s.timing.err) && decide (s.timing.err ≤ 100000000000) then 2
  else 1

/-- The phase error that pull-in starts from (R583). -/
def startErr (s : State) (i : Nat) : Int := if i = 0xFF then 0 else s.attr .timRefPhaseOffsetPs i * (psUnit : Int)

/-- Hold-off at a boundary: a candidate that is good again is followed again; else a hold-off that has run ends (R580, R601). -/
def holdOffDue (s : State) : State :=
  match s.timing.holdOff with
  | none => s
  | some t =>
    let cur := selectedRef s
    if (s.ref cur).good then
      setTimingState 1 (updTiming (fun x => { x with holdOff := none, err := startErr s cur }) s)
    else if t ≤ s.tick.toNat then updTiming (fun x => { x with holdOff := none }) s
    else s

/-- Selection at a tick boundary (R579). -/
def selectBoundary (s : State) : State :=
  if s.attr .clockPllCoast = 1 then setTimingState 5 s
  else
    let cur := selectedRef s
    let target := refTarget s
    if target = cur then setTimingState (nextState s cur (s.attr .timState = 3 && !holdOffRuns s)) s
    else
      let s := updTiming (fun x => { x with holdOff := none, err := startErr s target }) (s.setAttr .timSelected 0 0 target)
      let st := nextState s target true
      let s := raise 0x1101 3 (if target = 0xFF then noIndex else target)
        [(24, 1, cur), (25, 1, st), sfld 32 8 (s.timing.err / (psUnit : Int))] (s.bump .timSwitches)
      setTimingState st s

/-! ### Holdover (R584 to R587) -/

/-- Point j of the holdover table: raw count, temperature, deviation (Table 6). -/
def tablePoint (t : List Byte) (j : Nat) : Nat × Int × Int :=
  (fieldAt t (8 + 12 * j) 4, fieldInt t (12 + 12 * j) 4, fieldInt t (16 + 12 * j) 4)

/-- Points of the table. -/
def tablePoints (t : List Byte) : List (Nat × Int × Int) := (List.range (fieldAt t 5 1)).map (tablePoint t)

/-- A value on the line from (x0, y0) to (x1, y1), rounded to the nearest whole number. -/
def onLine (x0 y0 x1 y1 x : Int) : Int := if x1 ≤ x0 then y0 else y0 + roundDiv ((y1 - y0) * (x - x0)) (x1 - x0).toNat

/-- Temperature and deviation for a raw count: linear between points, the end points outside (R586). -/
def oscRead : List (Nat × Int × Int) → Nat → Int × Int
  | [], _ => (0, 0)
  | [p], _ => p.2
  | p :: q :: t, raw =>
    if raw ≤ p.1 then p.2
    else if raw < q.1 then
      (onLine (p.1 : Int) p.2.1 (q.1 : Int) q.2.1 (raw : Int), onLine (p.1 : Int) p.2.2 (q.1 : Int) q.2.2 (raw : Int))
    else oscRead (q :: t) raw

/-- The deviation for a temperature: on the first segment of the table that spans it, else that of the nearer end point. -/
def deviationAt (l : List (Nat × Int × Int)) (x : Int) : Int :=
  let spans := fun (s : (Nat × Int × Int) × (Nat × Int × Int)) =>
    decide (min s.1.2.1 s.2.2.1 ≤ x) && decide (x ≤ max s.1.2.1 s.2.2.1)
  match (l.zip (l.drop 1)).find? spans with
  | some (p, q) =>
    if p.2.1 ≤ q.2.1 then onLine p.2.1 p.2.2 q.2.1 q.2.2 x else onLine q.2.1 q.2.2 p.2.1 p.2.2 x
  | none =>
    match l, l.getLast? with
    | p :: _, some q => if (p.2.1 - x).natAbs ≤ (q.2.1 - x).natAbs then p.2.2 else q.2.2
    | _, _ => 0

/-- The oscillator temperature and deviation at a 1PPS (R586); none while not valid. -/
def readOscillator (s : State) : Option (Int × Int) :=
  let i := s.attrN .timHoldoverSns
  if i = 0xFF || s.timing.table.isEmpty || gated s 3 || s.attr .snsShorted i = 1 then none
  else some (oscRead (tablePoints s.timing.table) (s.attrN .snsRaw i))

/-- The oscillator's reading of the last 1PPS, while none of the conditions of R586 holds. -/
def oscNow (s : State) : Option (Int × Int) := if (readOscillator s).isSome then s.timing.osc else none

/-- The holdover value of y (R585); none while nothing is recorded. -/
def holdoverY (s : State) : Option Int :=
  s.timing.hold.map (fun h =>
    let fix := match oscNow s, h.temp with
      | some (_, c), some m => c - deviationAt (tablePoints s.timing.table) m
      | _, _ => 0
    h.y - fix - roundDiv (s.attr .timHoldoverAgeingPptDay * (2 * (s.tick.toNat : Int) - (h.twiceTick : Int)))
      (2 * 781250 * 86400))

/-- The mean of a list, rounded. -/
def meanOf (l : List Int) : Option Int := if l.isEmpty then none else some (roundDiv l.sum l.length)

/-- The record that the last seconds in state 2 give (R584). -/
def holdRecord (l : List Second) : Option Held2 :=
  match l, l.getLast? with
  | a :: _, some z =>
    some ⟨(meanOf (l.map (·.y))).getD 0, meanOf (l.filterMap (·.temp)), a.tick - 781250 + z.tick⟩
  | _, _ => none

/-- A second ends (R584, R586, R587): temperature, the record of a second in state 2, holdover. -/
def holdoverSecond (s : State) : State :=
  let osc := readOscillator s
  let s := updTiming (fun t => { t with osc := osc }) s
  let s := (s.setAttr .timHoldoverTempValid 0 0 (b01 osc.isSome)).setAttr .timHoldoverTempMc 0 0
    (match osc with | some x => x.1 | none => s.attr .timHoldoverTempMc)
  let t := s.timing
  let in2 : Bool := s.attr .timState = 2
  let fresh := fun (t : Timing) => { t with ySum := 0, yTicks := 0, whole := in2 }
  let s :=
    if t.whole && in2 && t.yTicks ≠ 0 then
      let y := roundDiv t.ySum t.yTicks
      updTiming (fun t => { t with
        seconds := t.seconds ++ [⟨y, osc.map (·.1), s.tick.toNat⟩], daySeconds := t.daySeconds + 1
        daySum := t.daySum - y - (match osc with | some x => x.2 | none => 0) }) s
    else s
  let n := s.attrN .timHoldoverAvgS
  updTiming (fun t =>
    let l := t.seconds.drop (t.seconds.length - n)
    fresh { t with
      seconds := l, hold := if in2 && s.attr .timHoldoverValid = 1 && !l.isEmpty then holdRecord l else t.hold }) s

/-- The least-squares slope of points, rounded; 0 for fewer than two. -/
def slopeOf (l : List (Nat × Int)) : Int :=
  let n : Int := (l.length : Int)
  let sx := (l.map (fun p => (p.1 : Int))).sum
  let sy := (l.map (·.2)).sum
  let sxy := (l.map (fun p => (p.1 : Int) * p.2)).sum
  let sxx := (l.map (fun p => (p.1 : Int) * (p.1 : Int))).sum
  roundDiv (n * sxy - sx * sy) (n * sxx - sx * sx).toNat

/-- Closes a day (R587). -/
def dayClose (s : State) : State :=
  let t := s.timing
  if !t.dayOwed then s
  else
    let clear := fun (t : Timing) => { t with dayOwed := false, daySeconds := 0, daySum := 0, day := t.day + 1 }
    if t.daySeconds < 72000 then updTiming clear s
    else
      let l := t.means ++ [(t.day, roundDiv t.daySum t.daySeconds)]
      let l := l.drop (l.length - s.attrN .timHoldoverAgeDays)
      let a := if l.length < 2 then 0 else slopeOf l
      let s := updTiming (fun t => clear { t with means := l }) (s.setAttr .timHoldoverAgeingPptDay 0 0 (wrapS 32 a))
      raise 0x1107 3 noIndex [sfld 24 4 a, (28, 4, l.length)] s

/-- AGEING_DAY_CLOSE (R587). -/
def execAgeingDayClose (s : State) : Host.Outcome State Fault Refusal := .next (dayClose s)

/-! ### Output quality level and ESMC (R576, R588, R589) -/

/-- The output QL (R588). -/
def outputQl (s : State) : Nat :=
  let clean := fun (q : Nat) => if q = 0xFE || q = 0xFF then 0xF else q
  if !s.timing.ready then 0xF
  else match s.attrN .timState with
    | 1 | 2 => clean (refQl s (selectedRef s))
    | 3 => clean s.timing.failQl
    | 5 => 0xF
    | _ => s.attrN .timLocalQl

/-- The port follows or bridges a candidate. -/
def following (s : State) : Bool := s.attr .timState = 1 || s.attr .timState = 2 || s.attr .timState = 3

/-- The QL that an interface sends. -/
def ifaceQl (s : State) (l : Nat) : Nat :=
  let sel := selectedRef s
  if following s && decide (6 ≤ sel) && decide (sel < 14) && (ifLanes s l).contains (s.attrN .timRefSourceLane sel) then 0xF
  else s.attrN .timOutputQl

/-- The configured interfaces with `esmc_tx` = 1. -/
def esmcIfaces (s : State) : List Nat :=
  (List.range 64).filter (fun l => ifConfigured s l && s.attr .laneIfEsmcTx l = 1)

/-- Output QL, `alf.ql_tx` and the QL of the interfaces, at a boundary. -/
def qlBoundary (s : State) : State :=
  let old := s.attrN .timOutputQl
  let q := outputQl s
  let s := if q = old then s else raise 0x1104 3 noIndex [(24, 1, old), (25, 1, q)] (s.setAttr .timOutputQl 0 0 q)
  let s := [0, 1].foldl (fun (s : State) (p : Nat) =>
    s.setAttr .alfQlTx p 0 (if following s && clockSelected s p then 0xF else q)) s
  (List.range 64).foldl (fun s l =>
    if !ifConfigured s l then s
    else
      let v := ifaceQl s l
      if v = Tab.get 0xF s.timing.sendQl l then s
      else updTiming (fun t => { t with
        sendQl := Tab.put 0xF t.sendQl l v
        eventOwed := if s.attr .laneIfEsmcTx l = 1 then Tab.put 0 t.eventOwed l (s.tick.toNat + 781) else t.eventOwed }) s) s

/-- An ESMC PDU of 64 bytes (R589), with its FCS. -/
def esmcPdu (mac : Nat) (ql : Nat) (isEvent : Bool) : List Byte :=
  let f : List Byte := [0x01, 0x80, 0xC2, 0x00, 0x00, 0x02] ++ leBytes 6 mac ++ [0x88, 0x09, 0x0A, 0x00, 0x19, 0xA7, 0x00, 0x01]
    ++ [if isEvent then 0x18 else 0x10] ++ [0, 0, 0, 0x01, 0x00, 0x04] ++ leBytes 1 ql
  padTo 60 f ++ leBytes 4 (crc32 (padTo 60 f))

/-- An interface sends an ESMC PDU. -/
def sendEsmc (isEvent : Bool) (s : State) (l : Nat) : State :=
  if laneCarries s l then
    let pdu := esmcPdu (s.attrN .laneIfEsmcMac l) (ifaceQl s l) isEvent
    (s.setCif l ((s.cif l).putFrame 0 pdu)).emit (.esmc l pdu)
  else s

/-- An interface sends the event PDU that it owes (R589). -/
def sendEvent (s : State) (l : Nat) : State :=
  if Tab.get 0 s.timing.eventOwed l = 0 then s
  else
    let s := updTiming (fun t => { t with eventOwed := Tab.erase t.eventOwed l }) s
    if s.attr .laneIfEsmcTx l = 1 && ifConfigured s l then sendEsmc true s l else s

/-- ESMC_EVENT_PDU (R589). -/
def execEsmcEventPdu (lane : Fin 64) (s : State) : Host.Outcome State Fault Refusal := .next (sendEvent s lane)

/-- The event PDUs that were not sent until the boundary past which they would come more than 1 ms after the change (R589). -/
def eventsDue (s : State) : State :=
  (s.timing.eventOwed.filter (fun e => decide (e.2 ≤ s.tick.toNat))).foldl (fun s e => sendEvent s e.1) s

/-- A received ESMC PDU is valid (R576). -/
def esmcValid (l : List Byte) : Bool :=
  isEsmc l && bytesAt l 0 6 = [0x01, 0x80, 0xC2, 0x00, 0x00, 0x02] && be16 l 18 = 1 && (byteAt l 20).toNat / 16 = 1 &&
  byteAt l 24 = 0x01 && be16 l 25 = 4

/-- ESMC_PDU_RX (R576): a frame with a good check sequence on a lane. -/
def execEsmcPduRx (lane : Fin 64) (frame : List Byte) (s : State) : Host.Outcome State Fault Refusal :=
  let l := s.attrN .laneIfFirst lane
  .next (if !laneCarries s lane || !fcsOk frame || !isEsmc frame then s
    else if esmcValid frame then
      let q := (byteAt frame 27).toNat % 16
      updTiming (fun t => { t with esmc := Tab.put {} t.esmc l ⟨some q, s.tick.toNat⟩ }) (s.bump .laneIfEsmcRx l)
    else s.bump .laneIfEsmcBad l)

/-- The interface's last PDU is 5 s old (R575). -/
def esmcTimeout (s : State) (l : Nat) : State :=
  let e := Tab.get {} s.timing.esmc l
  if e.ql.isSome && decide (e.tick + sTicks 5 ≤ s.tick.toNat) then
    updTiming (fun t => { t with esmc := Tab.put {} t.esmc l { e with ql := none } }) (s.bump .laneIfEsmcTimeouts l)
  else s

/-- ESMC_TIMEOUT (R575). -/
def execEsmcTimeout (lane : Fin 64) (s : State) : Host.Outcome State Fault Refusal := .next (esmcTimeout s lane)

/-! ### The boundary -/

/-- The phase samples of the followed candidate are discarded in the tick that ends: a line port with `los_raw` or `lol_raw` (R572). -/
def samplesLost (s : State) (i : Nat) : Bool :=
  (i = 4 || i = 5) && (s.attr .mrLosRaw (i - 4) = 1 || s.attr .mrLolRaw (i - 4) = 1)

/-- What the loop may set y to while it follows a candidate: no more than the slope of pull-in from the candidate's frequency, which is
known to 1 ppb (R583). With its samples discarded it keeps the value it has. -/
def followY (y : Int) (s : State) : Int :=
  let f := s.attr .timRefFreqOffsetPpb (selectedRef s) * 1000
  let d := s.attr .timPullInSlopeNsS * 1000 + 500
  if samplesLost s (selectedRef s) then s.timing.y else clampInt (f - d) (f + d) y

/-- What the loop has done in the tick that ends (R583, R584): pull-in, and the time and the mean of y in state 2. -/
def loopPull (s : State) : State :=
  let t := s.timing
  let st := s.attrN .timState
  let step : Int := s.attr .timPullInSlopeNsS * 128000
  let err := if st = 1 || st = 2 then (if 0 ≤ t.err then max 0 (t.err - step) else min 0 (t.err + step)) else 0
  let s := updTiming (fun t => { t with
    err := err
    ySum := if st = 2 then t.ySum + t.y else t.ySum
    yTicks := if st = 2 then t.yTicks + 1 else t.yTicks
    locked := if st = 2 then t.locked + 1 else t.locked
    whole := t.whole && st = 2 }) s
  if sTicks (s.attrN .timHoldoverLearnS) ≤ s.timing.locked then s.setAttr .timHoldoverValid 0 0 1 else s

/-- y and the phase error that remains, in the state that the port has now (R582, R583, R585). `y` is what the loop sets while it follows a
candidate, and the open value while it bridges with nothing recorded. -/
def loopSet (y : Int) (s : State) : State :=
  let host := s.attr .timHostFreqPpt
  let st := s.attrN .timState
  let v := match st with
    | 0 => host
    | 1 | 2 => followY y s
    | 3 => (holdoverY s).getD y
    | 4 => (holdoverY s).getD 0 + host
    | _ => s.timing.y
  let err := if st = 1 || st = 2 then s.timing.err else 0
  ((updTiming (fun t => { t with y := v }) s).setAttr .timFreqOffsetPpt 0 0 v).setAttr .timPhaseErrorPs 0 0 (roundDiv err psUnit)

/-- HOLD_OFF_EXPIRY (R580): at the boundary where the hold-off ends. -/
def execHoldOffExpiry (s : State) : Host.Outcome State Fault Refusal :=
  .next (match s.timing.holdOff with
    | some t => if t ≤ s.tick.toNat then loopSet s.timing.y (selectBoundary (holdOffDue s)) else s
    | none => s)

/-- REF_FAILED (R572, R580): the failure condition of a candidate is met within the present tick; where the followed one fails the
port bridges from now. -/
def execRefFailed (look : RefLook) (s : State) : Host.Outcome State Fault Refusal :=
  .next (if s.domRuns 53 && refBad s look then
    let s := refFail look.ref (s.tick.toNat + 1) s
    if holdOffRuns s && selectedRef s = look.ref.val then loopSet s.timing.y (setTimingState 3 s) else s
  else s)

/-- The nominal frequency of a clock candidate in Hz (R572). -/
def refHz (s : State) (i : Nat) : Nat := if i < 4 then s.attrN .timRefFreqHz i else 156250000

/-- A phase in ps, modulo one period of a clock of so many Hz: the offset of smallest magnitude, at half a period the positive one
(R573). -/
def foldPeriod (hz : Nat) (ps : Int) : Int :=
  let m := ps * (hz : Int) % 1000000000000
  roundDiv (if 1000000000000 < 2 * m then m - 1000000000000 else m) hz

/-- What a monitor compared in the tick that ends (R573): phase in ps, frequency in ppb. -/
def refSeen (s : State) (e : Nat × Int × Int) : State :=
  if decide (e.1 < 14) && (s.ref e.1).good then
    let s := s.setAttr .timRefFreqOffsetPpb e.1 0 e.2.2
    if (decide (e.1 < 4) && s.attr .timRefType e.1 = 1) || samplesLost s e.1 then s
    else s.setAttr .timRefPhaseOffsetPs e.1 0 (foldPeriod (refHz s e.1) e.2.1)
  else s

/-- The timing port at a tick boundary (R575 to R589). `seen` gives, for candidates, the phase in ps and the frequency in ppb that
their monitors compared. -/
def timingBoundary (y : Int) (seen : List (Nat × Int × Int)) (s : State) : State :=
  let s := seen.foldl refSeen s
  -- the recovered line clocks are derived from the ratio words (R240)
  let s := [0, 1].foldl (fun (s : State) (p : Nat) =>
    if (s.ref (4 + p)).good then s.setAttr .timRefFreqOffsetPpb (4 + p) 0 (s.attr .mrTimingOffsetPpb p) else s) s
  let s := loopPull s
  let s := (List.range 64).foldl esmcTimeout s
  let s := (List.range 14).foldl (fun s i => s.setAttr .timRefQl i 0 (effectiveQl s i)) s
  let s := (List.range 4).foldl pulseBoundary ((List.range 14).foldl monitorBoundary s)
  let s := (List.range 14).foldl wtrDue (holdOffDue s)
  eventsDue (qlBoundary (loopSet y (selectBoundary s)))

/-- What a cold reset, warm reset or sealed wake keeps of the timing port: its NVM records. -/
def Timing.kept (t : Timing) : Timing := { table := t.table, means := t.means, day := t.day }

/-- Entry into minimal state (R594): the monitors stop, and the port holds over, runs free, or coasts. -/
def timingMinimal (s : State) : State :=
  let s := selectBoundary (updTiming (fun t => { t with refs := [], holdOff := none, clkOut := [] }) s)
  qlBoundary (loopSet s.timing.y s)

end Sys2Proof.Machine
end

