-- ==== Sys2Proof/Machine/TimeOfDay.lean ====
section
/-!
DEFINITION. Sys2Proof/Machine/TimeOfDay.lean: the time counter, the calendar, the outputs, and the commands of the timing port
(R590 to R603 of spec/17), and the alignment of the tick grid (R184, R185 of spec/05).
-/
namespace Sys2Proof.Machine

/-! ### The counter (R590) -/

/-- A time in whole TAI seconds of 48 bits. -/
def secondsOf (t : Nat) : Nat := t / secondUnits % 2 ^ 48

/-- The length of a tick at the locked frequency in the units of the time counter, under the alignment trim in force (R184), to first
order. -/
def lockedUnits (s : State) : Nat := (128000000000000 - 128 * s.attr .timTickTrimPpt).toNat

/-- What a tick of the coasting loops adds to the counter (R173, R594), from the operands that show how long the tick lasts and how far
`D50` counts in it: the tick lasts from 2.33 µs to 2.84 µs and the counter runs between 0.45 and 0.55 of real time; in a tick that can
hold a part of the slew neither bound of the coasting frequency holds yet, but the tick is no shorter than a locked one and the counter
no faster than real time. -/
def coastCount (len count : Nat) (s : State) : Nat :=
  let slew : Bool := s.tick.toNat ≤ s.clk.slewUntil
  let l := max (if slew then lockedUnits s else 233000000000000) (min len 284000000000000)
  max (45 * l / 100) (min count (if slew then l else 55 * l / 100))

/-- What the present tick adds to the counter: its length by the counter. -/
def tickUnits (s : State) : Nat := if s.attr .clockPllCoast = 1 then s.clk.coastUnits else lockedUnits s

/-- An edge `o` units behind the present boundary of a tick of `len` units lies nearest to that boundary (R184). -/
def edgeEarly (o len : Nat) : Bool := decide (2 * o ≤ len)

/-- How far behind the present boundary the counter's next rollover lies, when it lies within so many units. -/
def edgeWithin (s : State) (len : Nat) : Option Nat :=
  let o := secondUnits - s.timing.tai % secondUnits
  if o ≤ len then some o else none

/-- The 1PPS edge of the present tick (R182, R590). -/
def edgeAhead (s : State) : Option Nat := edgeWithin s (tickUnits s)

/-- The counter after so many units. -/
def advanceTai (n : Nat) (s : State) : State :=
  updTiming (fun t => { t with
    tai := (((t.tai + n : Nat) : Int) + t.shift * (secondUnits : Int)).toNat % (2 ^ 48 * secondUnits), shift := 0 }) s

/-! ### The calendar (R595 to R597) -/

/-- A leap year (R595). -/
def leapYear (y : Nat) : Bool := y % 4 = 0 && (y % 100 ≠ 0 || y % 400 = 0)

/-- Days of a month. -/
def monthDays (y m : Nat) : Nat :=
  match m with
  | 4 | 6 | 9 | 11 => 30
  | 2 => if leapYear y then 29 else 28
  | _ => 31

/-- Days from 1970-01-01 to the first day of a year from 1970 on. -/
def yearDays (y : Nat) : Nat := 365 * (y - 1970) + ((y - 1) / 4 - (y - 1) / 100 + (y - 1) / 400 - 477)

/-- Days from 1970-01-01 to a date. -/
def dateDays (y m d : Nat) : Nat := yearDays y + ((List.range (m - 1)).map (fun k => monthDays y (k + 1))).sum + (d - 1)

/-- The year, month and day of a day number counted from 1970-01-01: by cycles of 400 years from 1 March of year 0. -/
def dateOf (days : Int) : Nat × Nat × Nat :=
  let z := (days + 719468).toNat
  let doe := z % 146097
  let yoe := (doe - doe / 1460 + doe / 36524 - doe / 146096) / 365
  let doy := doe - (365 * yoe + yoe / 4 - yoe / 100)
  let mp := (5 * doy + 2) / 153
  let m := if mp < 10 then mp + 3 else mp - 9
  (yoe + z / 146097 * 400 + b01 (decide (m ≤ 2)), m, doy - (153 * mp + 2) / 5 + 1)

/-- UTC seconds of a TAI second, outside an inserted leap second. -/
def utcOf (s : State) (sec : Nat) : Int := (sec : Int) - s.attr .timTimeUtcOffsetS

/-- The TAI second follows 23:59:59 UTC on 30 June or 31 December. -/
def leapPlace (s : State) (sec : Nat) : Bool :=
  let u := utcOf s sec
  u % 86400 = 0 && (let d := dateOf (u / 86400 - 1); (d.2.1 = 6 && d.2.2 = 30) || (d.2.1 = 12 && d.2.2 = 31))

/-- Year, month, day, hour, minute and second of a TAI second (R597). -/
def calendarOf (s : State) (sec : Nat) : Nat × Nat × Nat × Nat × Nat × Nat :=
  let leap := s.timing.leapNow
  let u := utcOf s sec - (if leap then 1 else 0)
  let d := dateOf (u / 86400)
  let t := (u % 86400).toNat
  (d.1, d.2.1, d.2.2, t / 3600, t / 60 % 60, if leap then 60 else t % 60)

/-! ### The 1PPS -/

/-- R184 and R185 at an edge `o` units behind the present boundary, in a tick of `len` units. -/
def alignEdge (o len : Nat) (s : State) : State :=
  let early := edgeEarly o len
  let e : Int := if early then -(o : Int) else (len : Int) - (o : Int)
  let ps := clampInt (-640000) 639750 (250 * roundDiv e (250 * psUnit))
  let coast : Bool := s.attr .clockPllCoast = 1
  let s := (s.setAttr .timTickOffsetPs 0 0 ps).setAttr .timTickPpsTick 0 0 (wrapU 64 (s.tick.toNat + b01 (!early) : Nat))
  let s := if coast then s else
    let m := s.attr .timPullInSlopeNsS * 1000
    s.setAttr .timTickTrimPpt 0 0 (clampInt (-m) m ps)
  if coast then s.setAttr .timTickAligned 0 0 0
  else if ps.natAbs ≤ 1000 then s.setAttr .timTickAligned 0 0 1
  else if 4000 < ps.natAbs then s.setAttr .timTickAligned 0 0 0
  else s

/-- Time sets at an edge at which the counter would read `sec` (R591): the seconds it reads, and the state. -/
def applySets (sec : Nat) (s : State) : Nat × State :=
  s.timing.sets.foldl (fun r x =>
    let (_, s) := r
    let s := updTiming (fun t => { t with shift := (x.2 : Int) - (sec : Int) }) s
    let s := if s.attr .clockPllCoast = 1 then s else s.setAttr .timTimeValid 0 0 1
    let s := raise 0x1105 3 noIndex [(32, 8, x.2)] s
    (x.2, finish x.1 .ok [tickFld s 16] s)) (sec, updTiming (fun t => { t with sets := [] }) s)

/-- Leap seconds at an edge (R597, R601): one that ends is counted in; then one may begin at the second the counter reaches, set or
not. -/
def leapEdge (before after : Nat) (s : State) : State :=
  let s :=
    if s.timing.leapNow then
      let s := s.bump .timTimeUtcOffsetS
      let s := updTiming (fun t => { t with leapNow := false }) (s.setAttr .timTimeLeapPending 0 0 0)
      raise 0x1106 3 noIndex [sfld 24 2 (s.attr .timTimeUtcOffsetS)] s
    else s
  if s.attr .timTimeLeapPending = 1 && (leapPlace s before || leapPlace s after) then
    updTiming (fun t => { t with leapNow := true }) s
  else s

/-- A pulse output. -/
def State.pulse (s : State) (j : Nat) : PulseOut := Tab.get {} s.timing.pulses j

/-- Replaces a pulse output. -/
def State.setPulse (s : State) (j : Nat) (x : PulseOut) : State := updTiming (fun t => { t with pulses := Tab.put {} t.pulses j x }) s

/-- The attributes of a pulse output take the values of an alignment. -/
def configurePulse (a : AlignJob) (s : State) : State :=
  let s := (s.setAttr .timPulseOutType a.index 0 a.type).setAttr .timPulseOutWidthNs a.index 0 a.width
  if a.type = 1 then s.setAttr .timPulseOutPeriodTicks a.index 0 a.period else s

/-- Alignments at a 1PPS edge (R600): clock outputs, and 1PPS outputs in mode 0. -/
def alignPps (s : State) : State :=
  let s := s.timing.aligns.foldl (fun s a =>
    if a.inForce then s
    else if a.kind = 0 then updTiming (fun t => { t with clkAligned := Tab.ins t.clkAligned a.index s.tick.toNat }) s
    else if a.type = 0 && a.mode = 0 then (configurePulse a s).setPulse a.index { s.pulse a.index with set := true, offset := 0 }
    else s) s
  let s := updTiming (fun t => { t with aligns := t.aligns.map (fun a =>
    if a.kind = 0 || (a.type = 0 && a.mode = 0) then { a with inForce := true } else a) }) s
  [0, 1].foldl (fun (s : State) (j : Nat) => s.setAttr .timPulseOutOffsetPs j 0 (roundDiv (s.pulse j).offset psUnit)) s

/-- Alignments at a tick boundary (R600): frame pulses, and 1PPS outputs in mode 1, which slew. -/
def alignBoundary (s : State) : State :=
  s.timing.aligns.foldl (fun s a =>
    let force := fun (s : State) => updTiming (fun t => { t with aligns := t.aligns.map (fun b =>
      if b.cmd = a.cmd then { b with inForce := true } else b) }) s
    if a.inForce || a.kind = 0 || decide (s.tick.toNat < a.due) then s
    else if a.type = 1 then
      force ((configurePulse a s).setPulse a.index { s.pulse a.index with set := true, residue := a.residue % a.period })
    else if a.mode = 1 then
      let p := s.pulse a.index
      let d : Int := s.attr .timPullInSlopeNsS * 128000
      let o := if 0 ≤ p.offset then max 0 (p.offset - d) else min 0 (p.offset + d)
      let s := (configurePulse a s).setPulse a.index { p with set := true, offset := o }
      if o.natAbs ≤ 100000000000 then force s else s
    else s) s

/-- A 1PPS edge (R184, R185, R584 to R591, R597, R600), `o` units behind the present boundary in a tick of `len` units, at which the
counter reads `sec`. -/
def timingEdge (o len sec : Nat) (s : State) : State :=
  let s := updTiming (fun t => { t with ppsDone := true, pps := t.pps + 1 }) (alignEdge o len s)
  let s := holdoverSecond s
  let s := if s.timing.pps % 86400 = 0 then updTiming (fun t => { t with dayOwed := true }) s else s
  let r := applySets sec s
  let s := alignPps (leapEdge sec r.1 r.2)
  (esmcIfaces s).foldl (sendEsmc false) s

/-- TIME_SET_APPLY (R591): sets that wait meet the 1PPS edge of the present tick. -/
def execTimeSetApply (s : State) : Host.Outcome State Fault Refusal :=
  .next (match edgeAhead s with
    | some o => if s.timing.ppsDone || !s.clk.ticking then s else (applySets (secondsOf (s.timing.tai + o)) s).2
    | none => s)

/-- Phase steps at a tick boundary after their start of service (R592): the counter moves, the pulse outputs do not. -/
def applySteps (s : State) : State :=
  let due := s.timing.steps.filter (fun x => decide (x.2.2 ≤ s.tick.toNat))
  let s := updTiming (fun t => { t with steps := t.steps.filter (fun x => !decide (x.2.2 ≤ s.tick.toNat)) }) s
  due.foldl (fun s x =>
    let d := x.2.1 * (psUnit : Int)
    let s := updTiming (fun t => { t with
      tai := (((t.tai : Int) - d) % ((2 ^ 48 * secondUnits : Nat) : Int)).toNat
      pulses := Tab.mapVals {} t.pulses (fun _ p => { p with offset := foldSecond (p.offset - d) }) }) s
    finish x.1 .ok [tickFld s 16] s) s

/-- TIME_STEP_APPLY (R592). -/
def execTimeStepApply (s : State) : Host.Outcome State Fault Refusal := .next (applySteps s)

/-! ### Outputs (R598, R599) -/

/-- A clock output runs; otherwise it is driven low (R598). -/
def clkOutRuns (s : State) (j : Nat) : Bool :=
  let q := s.attrN .timClkOutSquelchQl j
  !gated s 4 && !s.minimal && s.attr .timState ≠ 5 &&
  (q = 0xFF || decide (qlRank (s.attrN .timOutputQl) ≤ qlRank q))

/-- A pulse output is not held low. -/
def pulseOutRuns (s : State) (j : Nat) : Bool := (s.pulse j).set && !gated s 5 && !s.minimal

/-- A frame pulse output marks the boundary of the present tick. -/
def framePulseNow (s : State) (j : Nat) : Bool :=
  pulseOutRuns s j && s.attr .timPulseOutType j = 1 &&
  s.tick.toNat % s.attrN .timPulseOutPeriodTicks j = (s.pulse j).residue

/-- The clock outputs at a boundary, with their frequencies (R598). -/
def clkOutputs (s : State) : State :=
  updTiming (fun t => { t with clkOut :=
    ((List.range 4).filter (clkOutRuns s)).map (fun j => (j, s.attrN .timClkOutFreq j + 1)) }) s

/-- A jump of a 1PPS output waits for the next internal 1PPS, which is its next pulse (R600). -/
def jumpWaits (s : State) (j : Nat) : Bool :=
  s.timing.aligns.any (fun a => !a.inForce && a.kind = 1 && a.type = 0 && a.mode = 0 && a.index = j)

/-- The pulse of a 1PPS output within the tick that ends, of `len` units (R599): it keeps its own count of seconds, which lies `offset` past
that of the counter. -/
def ppsPulse (len : Nat) (s : State) (j : Nat) : State :=
  let o := (secondUnits : Int) - ((s.timing.tai : Int) - (s.pulse j).offset) % (secondUnits : Int)
  if pulseOutRuns s j && s.attr .timPulseOutType j = 0 && !jumpWaits s j && decide (o ≤ (len : Int)) then
    s.emit (.pulse j s.tick.toNat (o.toNat / psUnit) (s.attrN .timPulseOutWidthNs j))
  else s

/-- The pulses of the 1PPS outputs in a tick that ends. -/
def ppsPulses (len : Nat) (s : State) : State := [0, 1].foldl (ppsPulse len) s

/-- The outputs at a tick boundary: clocks run or are driven low, and frame pulses mark their ticks. -/
def outputsBoundary (s : State) : State :=
  [0, 1].foldl (fun (s : State) (j : Nat) =>
    if framePulseNow s j then s.emit (.pulse j s.tick.toNat 0 (s.attrN .timPulseOutWidthNs j)) else s) (clkOutputs s)

/-! ### Commands (R602, R603) -/

/-- SY_REF_SELECT (R581). -/
def execSyRefSelect (c : CmdRef) (s : State) : Host.Outcome State Fault Refusal :=
  .next (serve 0x1101 anyForm [(16, 1), (17, 1)]
    (fun s _ e =>
      let m := fieldAt e 16 1
      let named : Bool := m = 1 || m = 2
      [(decide (4 < m) || (named && decide (13 < fieldAt e 17 1)), .eRange),
       (named && !refPresent s (fieldAt e 17 1), .eState)])
    (fun s _ e =>
      let m := fieldAt e 16 1
      let s := s.setAttr .timSelectMode 0 0 m
      (if m = 1 || m = 2 then s.setAttr .timSelectRef 0 0 (fieldAt e 17 1) else s, .final .ok []))
    c s)

/-- The calendar fields of an entry are wrong as a date (R596). -/
def badDate (y mo d h mi sec : Nat) : Bool :=
  mo = 0 || decide (12 < mo) || d = 0 || decide (monthDays y mo < d) || decide (24 ≤ h) || decide (60 ≤ mi) || decide (60 < sec) ||
  (sec = 60 && !(h = 23 && mi = 59 && ((mo = 6 && d = 30) || (mo = 12 && d = 31))))

/-- The TAI seconds of a calendar time: a second 60 is 59 plus 1. -/
def taiOfDate (offset : Nat) (y mo d h mi sec : Nat) : Nat :=
  86400 * dateDays y mo d + 3600 * h + 60 * mi + sec + offset

/-- SY_TIME_SET (R591, R596): it waits for the 1PPS. -/
def execSyTimeSet (c : CmdRef) (s : State) : Host.Outcome State Fault Refusal :=
  .next (serve 0x1102 anyForm [(16, 1), (24, 8), (32, 2), (34, 5)]
    (fun _ _ e =>
      let f := fieldAt e 16 1
      let y := fieldAt e 32 2
      [((f = 0 && (fieldAt e 32 2 ≠ 0 || fieldAt e 34 5 ≠ 0)) || (f = 1 && fieldAt e 24 8 ≠ 0), .eBadParam),
       (decide (1 < f) || (f = 0 && decide (2 ^ 48 ≤ fieldAt e 24 8)) || (f = 1 && (decide (y < 1970) || decide (9999 < y))),
        .eRange),
       (f = 1 && badDate y (fieldAt e 34 1) (fieldAt e 35 1) (fieldAt e 36 1) (fieldAt e 37 1) (fieldAt e 38 1), .eDate)])
    (fun s c e =>
      let v := if fieldAt e 16 1 = 0 then fieldAt e 24 8
        else taiOfDate (s.attrN .timTimeUtcOffsetS) (fieldAt e 32 2) (fieldAt e 34 1) (fieldAt e 35 1) (fieldAt e 36 1)
          (fieldAt e 37 1) (fieldAt e 38 1)
      (updTiming (fun t => { t with sets := t.sets ++ [(c, v)] }) s, .accept))
    c s)

/-- The selected candidate is a pulse candidate in states 1 to 3 (R593). -/
def pulseFollowed (s : State) : Bool :=
  following s && decide (selectedRef s < 4) && s.attr .timRefType (selectedRef s) = 1

/-- SY_TIME_STEP (R592, R593): it waits for the next boundary. -/
def execSyTimeStep (c : CmdRef) (s : State) : Host.Outcome State Fault Refusal :=
  .next (serve 0x1103 anyForm [(16, 8)]
    (fun s _ e =>
      [(decide (500000000000 < (fieldInt e 16 8).natAbs), .eRange),
       (pulseFollowed s || s.attr .clockPllCoast = 1, .eState)])
    (fun s c e => (updTiming (fun t => { t with steps := t.steps ++ [(c, fieldInt e 16 8, nextBoundary s)] }) s, .accept))
    c s)

/-- SY_TIME_GET (R602). -/
def execSyTimeGet (c : CmdRef) (s : State) : Host.Outcome State Fault Refusal :=
  .next (serve 0x1104 anyForm [] (fun _ _ _ => [])
    (fun s _ _ =>
      let b := stampBytes (roundStamp s.timing.tai)
      let sec := secondsOf s.timing.tai
      let d := calendarOf s sec
      let flags := s.attrN .timTimeValid + 2 * s.attrN .timTimeLeapPending + 4 * b01 s.timing.leapNow
      (s, .final .ok
        [tickFld s 16, (24, 6, fieldAt b 0 6), (30, 2, s.attrN .timTimeUtcOffsetS), (32, 2, d.1), (34, 1, d.2.1),
         (35, 1, d.2.2.1), (36, 1, d.2.2.2.1), (37, 1, d.2.2.2.2.1), (38, 1, d.2.2.2.2.2), (40, 4, fieldAt b 6 4),
         (44, 2, fieldAt b 10 2), (46, 1, flags)]))
    c s)

/-- SY_OUT_ALIGN (R600, R603). -/
def execSyOutAlign (c : CmdRef) (s : State) : Host.Outcome State Fault Refusal :=
  .next (serve 0x1105 anyForm [(16, 4), (20, 4), (24, 4), (32, 8)]
    (fun s _ e =>
      let kind := fieldAt e 16 1
      let j := fieldAt e 17 1
      let mode := fieldAt e 18 1
      let type := fieldAt e 19 1
      let w := fieldAt e 20 4
      let p := fieldAt e 24 4
      [((kind = 0 && (mode ≠ 0 || type ≠ 0 || w ≠ 0)) || (type = 1 && mode ≠ 0) ||
          ((kind = 0 || type = 0) && (p ≠ 0 || fieldAt e 32 8 ≠ 0)), .eBadParam),
       (decide (1 < kind) || decide ((if kind = 0 then 3 else 1) < j) || decide (1 < mode) || decide (1 < type) ||
          (kind = 1 && (decide (w < 8) || decide (500000000 < w) ||
            (type = 1 && (p = 0 || decide (781250 < p) || decide (1280 * p ≤ w))))), .eRange),
       ((kind = 0 && (gated s 4 || s.attr .timClkOutFreq j = 7)) || (kind = 1 && gated s 5) ||
          s.attr .clockPllCoast = 1, .eState)])
    (fun s c e =>
      let a : AlignJob := { cmd := c, kind := fieldAt e 16 1, index := fieldAt e 17 1, mode := fieldAt e 18 1,
                            type := fieldAt e 19 1, width := fieldAt e 20 4, period := fieldAt e 24 4,
                            residue := fieldAt e 32 8, due := nextBoundary s }
      (updTiming (fun t => { t with aligns := t.aligns ++ [a] }) s, .accept))
    c s)

/-- OUT_ALIGN_DONE (R600): the commands whose alignment is in force are answered. -/
def execOutAlignDone (s : State) : Host.Outcome State Fault Refusal :=
  let done := s.timing.aligns.filter (·.inForce)
  .next (done.foldl (fun s a => finish a.cmd .ok [] s)
    (updTiming (fun t => { t with aligns := t.aligns.filter (fun a => !a.inForce) }) s))

/-- Raw counts rise strictly from point to point. -/
def rawsRise : List (Nat × Int × Int) → Bool
  | p :: q :: t => decide (p.1 < q.1) && rawsRise (q :: t)
  | _ => true

/-- SY_HOLDOVER_TABLE op 0 (R603). -/
def execSyHoldoverTableWrite (c : CmdRef) (dma : List Byte) (s : State) : Host.Outcome State Fault Refusal :=
  .next (serve 0x1106 (fun e => fieldAt e 16 1 ≠ 1) [(16, 1), (24, 8)]
    (fun s sid e =>
      let t := readArea s sid (fieldAt e 24 8) 396 dma
      let n := fieldAt t 5 1
      let used : Bool := fieldAt e 16 1 = 0
      [(used && !areaBad s sid (fieldAt e 24 8) 396 && fieldAt t 6 2 ≠ 0, .eBadParam),
       (!used || areaBad s sid (fieldAt e 24 8) 396 || decide (n < 2) || decide (32 < n) ||
          bytesAt t 0 4 ≠ asciiBytes "ZHOT" || fieldAt t 4 1 ≠ 1 || !rawsRise (tablePoints t), .eRange),
       (fieldAt t 392 4 ≠ crc32c (bytesAt t 0 392), .eIntegrity)])
    (fun s c e => (updTiming (fun t => { t with table := readArea s c.session (fieldAt e 24 8) 396 dma }) s, .final .ok []))
    c s)

/-- SY_HOLDOVER_TABLE op 1 (R602). -/
def execSyHoldoverTableRead (c : CmdRef) (s : State) : Host.Outcome State Fault Refusal :=
  .next (serve 0x1106 (fun e => fieldAt e 16 1 = 1) [(16, 1), (24, 8)]
    (fun s sid e => [(areaBad s sid (fieldAt e 24 8) 396, .eRange)])
    (fun s c e => (writeArea s c.session (fieldAt e 24 8) (padTo 396 s.timing.table), .final .ok []))
    c s)

end Sys2Proof.Machine
end

