-- ==== Sys2Proof/Machine/Tarnish.lean ====
section
/-!
DEFINITION. Sys2Proof/Machine/Tarnish.lean: margin domains, the daily plan and the wear ledger (spec/19).
-/
namespace Sys2Proof.Machine

/-! ### Margin domains (R626 to R628) -/

/-- The monitors of a domain: first and count (Table 1). -/
def tarnMonitors : Nat → Nat × Nat
  | 0 => (0, 16) | 1 => (16, 4) | 2 => (20, 4) | 3 => (24, 2) | 4 => (26, 4) | 5 => (30, 2) | 6 => (32, 4)
  | 7 => (36, 2) | 8 => (38, 4) | 9 => (42, 2) | 10 => (44, 2) | _ => (46, 2)

/-- The offset range of a domain in steps (Table 1). -/
def tarnRange : Nat → Int × Int
  | 0 => (-6, 12) | 1 | 2 | 4 | 5 => (-4, 8) | 3 | 10 | 11 => (0, 6) | _ => (-10, 20)

/-- The most steps a plan raises a domain by (R630). -/
def tarnLimit (d : Nat) : Int := if d < 6 then 4 else if d < 10 then 2 else 1

/-- The line port of a domain of 6 to 11. -/
def tarnPort (d : Nat) : Nat := if d = 6 || d = 7 || d = 10 then 0 else 1

/-- The rail of a domain of 0 to 5, by its row of Table 5 (02). -/
def tarnRail (d : Nat) : Nat := if d = 5 then 6 else d

/-- The converter cores of a bias domain in core order. -/
def tarnCores (d : Nat) : List Nat :=
  if d = 6 || d = 8 then List.range 8 else if d = 7 || d = 9 then [8, 9, 10, 11] else []

/-- A domain of the ledger. -/
def State.tarn (s : State) (d : Nat) : TarnDomain := Tab.get {} s.tarnish.doms d

/-- Replaces it. -/
def State.setTarn (s : State) (d : Nat) (x : TarnDomain) : State :=
  { s with tarnish := { s.tarnish with doms := Tab.put {} s.tarnish.doms d x } }

/-- The bias of a converter core in percent of nominal: the cell record's plus the tarnish offset, clipped (R627). -/
def appliedBias (s : State) (p c row : Nat) : Int :=
  clampInt (-10) 20 (Tab.get 0 (s.conv p).params (c * 8 + row) + Tab.get 0 s.tarnish.cores (12 * p + c))

/-- Readings of a domain are taken (R628): those of a port's domains not while it is feathered or wakes. -/
def tarnReadable (s : State) (d : Nat) : Bool :=
  d < 6 || (!s.minimal && decide (s.attr .featherState (tarnPort d) < 4) && (s.conv (tarnPort d)).fg.isNone &&
    s.attr .convTestMode (tarnPort d) = 0)

/-- The readings of a domain among those of the 48 monitors. -/
def tarnReadings (margins : List (Option Int)) (d : Nat) : List Int :=
  ((margins.drop (tarnMonitors d).1).take (tarnMonitors d).2).filterMap id

/-- The lowest and the highest of some readings. -/
def lowestOf (l : List Int) : Int := l.foldl min (l.headD 0)
def highestOf (l : List Int) : Int := l.foldl max (l.headD 0)

/-- The second's margin of one domain (R628), which also counts in a settle (R630). -/
def tarnRead (margins : List (Option Int)) (s : State) (d : Nat) : State :=
  let l := tarnReadings margins d
  if l.isEmpty || !tarnReadable s d then s
  else
    let m := lowestOf l
    let x := s.tarn d
    let s := (s.setAttr .tarnishDomainMarginNow d 0 (wrapS 16 m)).setAttr .tarnishDomainMarginSpread d 0 (wrapU 16 (highestOf l - m))
    let s := s.setTarn d { x with count := x.count + 1, low := if x.count = 0 then m else min x.low m }
    { s with tarnish := { s.tarnish with plan := s.tarnish.plan.map (fun (pl : TarnPlan) =>
        if pl.phase = 2 then
          { pl with lows := Tab.ins pl.lows d (match pl.lows.find? (fun e => e.1 = d) with | some e => min e.2 m | none => m) }
        else pl) } }

/-! ### Remaining margin (R633) -/

/-- `remaining_steps` of a domain. -/
def remainingSteps (s : State) (d : Nat) : Nat := ((tarnRange d).2 - (s.tarn d).offset).toNat

/-- `projected_days` of a domain. -/
def projectedDays (s : State) (d : Nat) : Nat :=
  let h := (s.tarn d).history
  let rise := h.getLastD 0 - h.headD 0
  if h.length < 8 || rise ≤ 0 then 0xFFFFFFFF else remainingSteps s d * (h.length - 1) / rise.toNat

/-! ### The wear ledger (R635 to R637) -/

/-- The ledger entry of a domain (Table 3). -/
def ledgerEntry (x : TarnDomain) : List Byte :=
  let byte := fun (v : Int) => BitVec.ofNat 8 (v % 256).toNat
  padTo 72 ([byte x.offset, BitVec.ofNat 8 x.history.length] ++ leBytes 2 (x.lastM % 65536).toNat ++ leBytes 2 x.exhausted
    ++ [0, 0] ++ x.history.map byte)

/-- The wear ledger as a record of 932 bytes (Table 2). -/
def ledgerBytes (s : State) : List Byte :=
  let t := s.tarnish
  let body := padTo 64 (asciiBytes "ZWLG" ++ [1, 12, 0, 0] ++ leBytes 8 (s.attrN .identityDieId) ++ leBytes 4 t.seq
    ++ leBytes 4 t.plans ++ leBytes 4 t.activeS ++ leBytes 4 (s.attrN .tarnishNextPlanS))
    ++ (List.range 12).flatMap (fun d => ledgerEntry (s.tarn d))
  body ++ leBytes 4 (crc32c body)

/-- Writes the ledger to NVM with the next sequence number (R635, R57). -/
def writeLedger (s : State) : State :=
  let s := { s with tarnish := { s.tarnish with seq := (s.tarnish.seq + 1) % 2 ^ 32, writeOwed := false } }
  { s with tarnish := { s.tarnish with nvm := ledgerBytes s } }

/-- LEDGER_WRITE (R635): the write of each 3,600 s of active state. -/
def ledgerDue (s : State) : State := if s.tarnish.writeOwed && fwBackground s then writeLedger s else s

/-- LEDGER_WRITE (R635). -/
def execLedgerWrite (s : State) : Host.Outcome State Fault Refusal := .next (ledgerDue s)

/-- The record passes its crc, magic, format and domains checks (R637). -/
def ledgerGood (r : List Byte) : Bool :=
  r.length = 932 && fieldAt r 928 4 = crc32c (r.take 928) && r.take 4 = asciiBytes "ZWLG" && byteAt r 4 = 1 && byteAt r 5 = 12

/-- A domain as its ledger entry gives it. -/
def loadDomain (r : List Byte) (d : Nat) : TarnDomain :=
  let e := bytesAt r (64 + 72 * d) 72
  { offset := fieldInt e 0 1, lastM := fieldInt e 2 2, exhausted := fieldAt e 4 2
    history := (List.range (min 64 (fieldAt e 1 1))).map (fun k => fieldInt e (8 + k) 1) }

/-- The offset of a domain as it acts: rails, the cores of a bias domain, or the decoder's cap. -/
def applyOffset (s : State) (d : Nat) : State :=
  let o := (s.tarn d).offset
  if d < 6 then { s with power := { s.power with railSteps := Tab.put 0 s.power.railSteps (tarnRail d) o } }
  else if d < 10 then
    let cores := (tarnCores d).foldl (fun t c => Tab.put 0 t (12 * tarnPort d + c) o) s.tarnish.cores
    { s with tarnish := { s.tarnish with cores := cores } }
  else s.setAttr .fecIterCapTarnish (tarnPort d) 0 (12 - o)

/-- A boot loads the ledger and applies its offsets (R636, R637, R119). A record that is missing or fails its checks, or that
belongs to another die, gives way to a fresh ledger; nvm_foreign is raised with that of the cell records. -/
def loadLedger (s : State) : State :=
  let r := s.tarnish.nvm
  let good := ledgerGood r
  let own := good && fieldAt r 8 8 = s.attrN .identityDieId
  let t : Tarnish := if own then
      { nvm := r, seq := fieldAt r 16 4, plans := fieldAt r 20 4, activeS := fieldAt r 24 4
        doms := (List.range 12).foldl (fun t d => Tab.put {} t d (loadDomain r d)) [] }
    else { nvm := r }
  let s := { s with tarnish := t }
  let s := s.setAttr .tarnishNextPlanS 0 0 (if own then (fieldAt r 28 4 : Int) else 3600)
  let s := (List.range 12).foldl applyOffset s
  if good then s else raise 0x1304 6 noIndex [] s

/-! ### The daily plan (R629 to R632, R634) -/

/-- A plan would start now but for a postponement (R629). -/
def planPostponed (s : State) : Bool :=
  decide (2 ≤ s.attr .thermalLevel) || decide (85 < s.attr .firmwareLoadPct) || !s.fwServing || s.attr .tarnishEnable = 0

/-- The second's tarnish work at a 1PPS in active state: readings, the settle's seconds, the countdown, and whether a plan starts
(R628 to R630, R635). Firmware that does not serve reads nothing; the seconds count all the same. -/
def tarnishPps (margins : List (Option Int)) (s : State) : State :=
  if s.power.phase ≠ .active then s
  else
    let s := if s.fwServing then (List.range 12).foldl (tarnRead margins) s else s
    let s := { s with tarnish := { s.tarnish with
        activeS := (s.tarnish.activeS + 1) % 2 ^ 32
        writeOwed := s.tarnish.writeOwed || decide ((s.tarnish.activeS + 1) % 3600 = 0)
        plan := s.tarnish.plan.map (fun (pl : TarnPlan) =>
          if pl.phase = 2 then { pl with settle := pl.settle - 1, ready := pl.ready || decide (pl.settle ≤ 1) } else pl) } }
    let left := s.attr .tarnishNextPlanS - 1
    let s := s.setAttr .tarnishNextPlanS 0 0 (max 0 left)
    let due := s.tarnish.restart || !s.tarnish.cmds.isEmpty || decide (left ≤ 0)
    if due && s.tarnish.plan.isNone && !planPostponed s then { s with tarnish := { s.tarnish with startOwed := true } } else s

/-- What the rule of R630 asks of a domain: its steps, and whether a rise it needs is forbidden by the range. -/
def planRule (d : Nat) (m guard gain offset : Int) : Int × Bool :=
  let range := tarnRange d
  if m < guard then
    let want := min (tarnLimit d) ((ceilDiv (guard - m).toNat gain.toNat : Nat) : Int)
    (min want (range.2 - offset), decide (range.2 - offset < want))
  else if guard + 2 * gain ≤ m then (if range.1 < offset then -1 else 0, false)
  else (0, false)

/-- The single steps that move a domain by `n`: the cores of a bias domain each take theirs in core order (R631). -/
def stepsOf (d : Nat) (n : Int) : List TarnStep :=
  let one := fun (c : Nat) => List.replicate n.natAbs (⟨d, c, decide (0 < n)⟩ : TarnStep)
  if (tarnCores d).isEmpty then one 0 else (tarnCores d).flatMap one

/-- One domain is planned with its m (R630): its steps join the plan, and its window begins again. -/
def planDomain (m : Int) (s : State) (d : Nat) : State :=
  match s.tarnish.plan with
  | none => s
  | some pl =>
    let x := s.tarn d
    let r := planRule d m (s.attr .tarnishDomainGuard d) (s.attr .tarnishDomainGainPerStep d) x.offset
    let pl := { pl with
      steps := pl.steps ++ stepsOf d r.1, planned := pl.planned ++ [(d, m)]
      exhausted := if r.2 then pl.exhausted ||| 2 ^ d else pl.exhausted }
    let s := { s with tarnish := { s.tarnish with plan := some pl } }
    let s := s.setTarn d { x with count := 0, low := 0, exhausted := if r.2 then (x.exhausted + 1) % 65536 else x.exhausted }
    if r.2 then raise 0x1303 6 d [sfld 24 1 x.offset, sfld 26 2 m] s else s

/-- A domain is skipped: its window is short (R630), or its port is feathered (Table 6). -/
def planSkips (s : State) (d : Nat) : Bool := decide ((s.tarn d).count < 3600)

/-- Domain `d` is judged to `margin_low` at the end of a plan (R634). -/
def judgeMargin (s : State) (d : Nat) : State :=
  let low := decide ((remainingSteps s d : Int) ≤ s.attr .tarnishLowSteps) || decide (projectedDays s d < 365)
  let was := (s.tarn d).marginLow
  let s := s.setTarn d { s.tarn d with marginLow := low }
  if low && !was then raise 0x1302 6 d [(24, 1, remainingSteps s d), (28, 4, projectedDays s d)] s else s

/-- A plan completes (R632): the ledger holds each planned domain's offset and m and is written, the countdown returns to
86,400, and the commands end. -/
def planComplete (s : State) : State :=
  match s.tarnish.plan with
  | none => s
  | some pl =>
    let s := pl.planned.foldl (fun s (e : Nat × Int) =>
      let x := s.tarn e.1
      let h := x.history ++ [x.offset]
      s.setTarn e.1 { x with history := h.drop (h.length - 64), lastM := e.2 }) s
    let s := { s with tarnish := { s.tarnish with plan := none, plans := (s.tarnish.plans + 1) % 2 ^ 32 } }
    let s := writeLedger (s.setAttr .tarnishNextPlanS 0 0 86400)
    let s := raise 0x1301 6 noIndex [(24, 2, pl.made), (26, 2, pl.exhausted), tickFld s 32] s
    let s := (List.range 12).foldl judgeMargin s
    s.tarnish.cmds.foldl (fun s c => finish c .ok
        [(16, 2, pl.made), (18, 2, pl.exhausted), (20, 2, pl.skipped), (24, 8, pl.start), tickFld s 32] s)
      { s with tarnish := { s.tarnish with cmds := [] } }

/-- A plan whose steps are all made goes on: phase 1 to the settle, phase 3 to its end. -/
def planAdvance (s : State) : State :=
  match s.tarnish.plan with
  | none => s
  | some pl =>
    if !pl.steps.isEmpty then s
    else if pl.phase = 1 then { s with tarnish := { s.tarnish with plan := some { pl with phase := 2, settle := 10 } } }
    else if pl.phase = 3 then planComplete s
    else s

/-- A plan starts at the present 1PPS: the guards and `low_steps` written take effect, and phase 1 plans the rails
(R629, R630). -/
def planStart (s : State) : State :=
  if !s.tarnish.startOwed || s.tarnish.plan.isSome then s
  else
    let s := (List.range 12).foldl (fun s d => s.takeWritten .tarnishDomainGuard d) (s.takeWritten .tarnishLowSteps)
    let skips := (List.range 12).filter (planSkips s)
    let pl : TarnPlan := { start := s.tick.toNat, next := s.attrN .timTickPpsTick, settle := 0, skipped := maskOf skips }
    let s := { s with tarnish := { s.tarnish with startOwed := false, restart := false, plan := some pl } }
    let s := s.bump .tarnishPlansSkipped 0 0 ((skips.length : Nat) : Int)
    planAdvance (((List.range 6).filter (fun d => !skips.contains d)).foldl (fun s d => planDomain (s.tarn d).low s d) s)

/-- The settle has ended: phase 3 plans bias and caps (R630). -/
def settleEnd (s : State) : State :=
  match s.tarnish.plan with
  | some pl =>
    if pl.phase = 2 && pl.ready then
      let s := { s with tarnish := { s.tarnish with plan := some { pl with
          phase := 3, ready := false, next := s.attrN .timTickPpsTick } } }
      planAdvance (pl.lows.foldl (fun s (e : Nat × Int) =>
        if 6 ≤ e.1 && !bitOf pl.skipped e.1 && tarnReadable s e.1 then planDomain e.2 s e.1 else s) s)
    else s
  | none => s

/-- One step is applied (R631). A bias domain's offset moves with the step of its last core. -/
def applyStep (st : TarnStep) (s : State) : State :=
  let d := st.domain
  let by1 : Int := if st.up then 1 else -1
  let x := s.tarn d
  if d < 6 || 10 ≤ d then
    let s := applyOffset (s.setTarn d { x with offset := x.offset + by1 }) d
    if d < 6 then s
    else raise 0x1305 6 d [(24, 1, tarnPort d), (25, 1, s.attrN .fecIterCapTarnish (tarnPort d))] s
  else
    let s := { s with tarnish := { s.tarnish with
        cores := Tab.upd 0 s.tarnish.cores (12 * tarnPort d + st.core) (· + by1) } }
    if (tarnCores d).getLast? = some st.core then s.setTarn d { x with offset := x.offset + by1 } else s

/-- The step due at the present boundary (R631): one step, the next 16 ticks later; a bias step that meets a spare swap on its
core waits one tick (R206). -/
def tarnishStep (s : State) : State :=
  match s.tarnish.plan with
  | none => s
  | some pl =>
    match pl.steps with
    | [] => s
    | st :: t =>
      let now := s.tick.toNat
      if now < pl.next then s
      else if 6 ≤ st.domain && st.domain < 10 && (s.core (tarnPort st.domain) st.core).swapAt = some now then
        { s with tarnish := { s.tarnish with plan := some { pl with next := now + 1 } } }
      else
        planAdvance (applyStep st
          { s with tarnish := { s.tarnish with plan := some { pl with steps := t, next := now + 16, made := pl.made + 1 } } })

/-- Thermal level 2 or 3 is entered: a plan in phase 2 or 3 drops the steps not yet made and completes (Table 6). -/
def tarnishThermal (s : State) : State :=
  match s.tarnish.plan with
  | some pl => if 2 ≤ pl.phase then planComplete s else s
  | none => s

/-- A firmware reset or an activation pause: the plan restarts from phase 1 at the first 1PPS after ready (Table 6). -/
def tarnishPause (s : State) : State :=
  { s with tarnish := { s.tarnish with plan := none, startOwed := false, restart := s.tarnish.restart || s.tarnish.plan.isSome } }

/-! ### The rows -/

/-- TARNISH_PLAN_START (R629, R630). -/
def execTarnishPlanStart (s : State) : Host.Outcome State Fault Refusal := .next (planStart s)

/-- TARNISH_SETTLE_END (R630). -/
def execTarnishSettleEnd (s : State) : Host.Outcome State Fault Refusal := .next (settleEnd s)

/-- TARNISH_STEP (R631, R632). -/
def execTarnishStep (s : State) : Host.Outcome State Fault Refusal := .next (tarnishStep s)

/-- SY_TARNISH_PLAN (R632, R644). -/
def execSyTarnishPlan (c : CmdRef) (s : State) : Host.Outcome State Fault Refusal :=
  .next (serve 0x1301 anyForm []
    (fun s _ _ => [(s.attr .tarnishEnable = 0 || s.tarnish.plan.isSome || s.tarnish.startOwed, .eState)])
    (fun s c _ => ({ s with tarnish := { s.tarnish with cmds := s.tarnish.cmds ++ [c] } }, .accept)) c s)

end Sys2Proof.Machine
end

