-- ==== Sys2Proof/Machine/Vault.lean ====
section
/-!
DEFINITION. Sys2Proof/Machine/Vault.lean: the key vault, the public-key engine and the tamper response (spec/16).
-/
namespace Sys2Proof.Machine

/-- Changes the vault. -/
def updVault (f : Vault → Vault) (s : State) : State := { s with vault := f s.vault }

/-! ### Root slots (R537, R538) -/

/-- The response of SY_ROOT (Table 2). -/
def rootFields (k : Option RootKey) : List Fld :=
  match k with | some k => [(16, 1, k.origin), (20, 4, kcv k.key)] | none => [(16, 1, 0), (20, 4, 0)]

/-- Loads a root slot. -/
def loadRoot (i : Nat) (key : List Byte) (origin : Nat) (s : State) : State := s.setRoot i (some { key := key, origin := origin })

/-- The random source has failed its health tests. -/
def entropyFailed (s : State) : Bool := s.attr .cipEntropyState = 2

/-- SY_ROOT op 0 (R537, R538). Values of op that Table 2 does not give end here. -/
def execSyRootGenerate (c : CmdRef) (s : State) : Host.Outcome State Fault Refusal :=
  .next (serve 0x1001 (fun e => fieldAt e 16 1 = 0 || decide (2 < fieldAt e 16 1)) [(16, 1), (17, 1)]
    (fun s _ e =>
      [(fieldAt e 16 1 ≠ 0 || decide (15 < fieldAt e 17 1), .eRange),
       ((s.root (fieldAt e 17 1)).isSome || entropyFailed s || vaultLocked s || !vaultRuns s, .eState)])
    (fun s _ e =>
      let r := drbg 32 s
      let s := loadRoot (fieldAt e 17 1) r.1 1 r.2
      (s, .final .ok (rootFields (s.root (fieldAt e 17 1)))))
    c s)

/-- The unwrap engines are free for the vault: no SA load waits, and fewer than 16 unwraps have been made in the tick (R502, R545). -/
def unwrapFree (s : State) : Bool := s.cipher.loads.isEmpty && decide (s.cipher.loadsDone < 16)

/-- An unwrap for the vault: the key, or none when it fails. -/
def vaultUnwrap (root : Nat) (blob : List Byte) (s : State) : Option (List Byte) × State :=
  ((s.root root).bind (fun w => keyUnwrap w.key blob), updCipher (fun c => { c with loadsDone := c.loadsDone + 1 }) s)

/-- The conditions of an import that a wait may have changed. -/
def importBad (s : State) (e : List Byte) : Bool :=
  (s.root (fieldAt e 17 1)).isSome || (s.root (fieldAt e 18 1)).isNone || vaultLocked s || !vaultRuns s

/-- The effect of SY_ROOT op 1 once an unwrap engine serves it. -/
def importRoot (s : State) (e : List Byte) : State × Answer :=
  let i := fieldAt e 17 1
  match vaultUnwrap (fieldAt e 18 1) (bytesAt e 20 40) s with
  | (none, s) => (s, .final .eIntegrity [])
  | (some k, s) => let s := loadRoot i k 2 s; (s, .final .ok (rootFields (s.root i)))

/-- A command that needs an unwrap engine has it now, or waits behind the SA loads (R545). -/
def withUnwrap (c : CmdRef) (run : State → List Byte → State × Answer) (s : State) (e : List Byte) : State × Answer :=
  if unwrapFree s && s.vault.unwraps.isEmpty then run s e
  else (updVault (fun v => { v with unwraps := v.unwraps ++ [c] }) (startQuietly c s), .accept)

/-- SY_ROOT op 1 (R537, R538). -/
def execSyRootImport (c : CmdRef) (s : State) : Host.Outcome State Fault Refusal :=
  .next (serve 0x1001 (fun e => fieldAt e 16 1 = 1) [(16, 1), (17, 1), (18, 1), (20, 40)]
    (fun s _ e =>
      let i := fieldAt e 17 1
      let w := fieldAt e 18 1
      [(decide (15 < i) || decide (15 < w) || w = i, .eRange), (importBad s e, .eState)])
    (fun s c e => withUnwrap c importRoot s e)
    c s)

/-- SY_ROOT op 2 (R537, R541): the slot empties at the next boundary. -/
def execSyRootErase (c : CmdRef) (s : State) : Host.Outcome State Fault Refusal :=
  .next (serve 0x1001 (fun e => fieldAt e 16 1 = 2) [(16, 1), (17, 1)]
    (fun s _ e => [(decide (15 < fieldAt e 17 1), .eRange), (!vaultRuns s, .eState)])
    (fun s _ e =>
      let i := fieldAt e 17 1
      (s.setRoot i ((s.root i).map (fun k => { k with erasing := true })), .final .ok (rootFields none)))
    c s)

/-! ### Working key slots (R539 to R541) -/

/-- The response of SY_KEY_SLOT (Table 3), but for the blob. -/
def slotFields (k : Option SlotKey) : List Fld :=
  match k with | some k => [(16, 1, 1 + b01 k.exportable), (20, 4, kcv k.key)] | none => [(16, 1, 0), (20, 4, 0)]

/-- The conditions of a load that a wait may have changed. -/
def slotBad (s : State) (e : List Byte) : Bool :=
  (s.slot (fieldAt e 20 2)).isSome || (s.root (fieldAt e 17 1)).isNone || vaultLocked s || !vaultRuns s

/-- The effect of SY_KEY_SLOT op 0 once an unwrap engine serves it. -/
def loadSlot (s : State) (e : List Byte) : State × Answer :=
  let i := fieldAt e 20 2
  match vaultUnwrap (fieldAt e 17 1) (bytesAt e 24 40) s with
  | (none, s) => (s, .final .eIntegrity [])
  | (some k, s) =>
    let s := s.setSlot i (some { key := k, exportable := bitOf (fieldAt e 18 1) 0 })
    (s, .final .ok (slotFields (s.slot i)))

/-- A command that has waited for an unwrap engine has it. -/
def unwrapNow (s : State) (c : CmdRef) : State :=
  match findTaken s c with
  | none => s
  | some t =>
    let e := t.entry
    let root : Bool := entryOpcode e = 0x1001
    answer c (if (if root then importBad s e else slotBad s e) then (s, .final .eState [])
      else if root then importRoot s e else loadSlot s e)

/-- The commands that wait for an unwrap engine are served at a boundary, in their order, when no SA load waits (R545). -/
def unwrapsDue (s : State) : State :=
  if !s.cipher.loads.isEmpty then s
  else
    let l := s.vault.unwraps.take (16 - s.cipher.loadsDone)
    l.foldl unwrapNow (updVault (fun v => { v with unwraps := v.unwraps.drop l.length }) s)

/-- SY_KEY_SLOT op 0 (R539, R540). Values of op that Table 3 does not give end here. -/
def execSyKeySlotLoad (c : CmdRef) (s : State) : Host.Outcome State Fault Refusal :=
  .next (serve 0x1002 (fun e => fieldAt e 16 1 = 0 || decide (2 < fieldAt e 16 1))
    [(16, 1), (17, 1), (18, 1), (20, 2), (24, 40)]
    (fun s _ e =>
      [(decide (1 < fieldAt e 18 1), .eBadParam),
       (fieldAt e 16 1 ≠ 0 || decide (15 < fieldAt e 17 1) || decide (8191 < fieldAt e 20 2), .eRange),
       (slotBad s e, .eState)])
    (fun s c e => withUnwrap c loadSlot s e)
    c s)

/-- SY_KEY_SLOT op 1 (R539, R541): the slot empties at the next boundary. -/
def execSyKeySlotErase (c : CmdRef) (s : State) : Host.Outcome State Fault Refusal :=
  .next (serve 0x1002 (fun e => fieldAt e 16 1 = 1) [(16, 1), (20, 2)]
    (fun s _ e => [(decide (8191 < fieldAt e 20 2), .eRange), (!vaultRuns s, .eState)])
    (fun s _ e =>
      let i := fieldAt e 20 2
      (s.setSlot i ((s.slot i).map (fun k => { k with erasing := true })), .final .ok (slotFields none)))
    c s)

/-- SY_KEY_SLOT op 2 (R539, R540): the export path of working slots. -/
def execSyKeySlotExport (c : CmdRef) (s : State) : Host.Outcome State Fault Refusal :=
  .next (serve 0x1002 (fun e => fieldAt e 16 1 = 2) [(16, 1), (17, 1), (20, 2)]
    (fun s _ e =>
      [(decide (15 < fieldAt e 17 1) || decide (8191 < fieldAt e 20 2), .eRange),
       ((s.root (fieldAt e 17 1)).isNone || (match s.slot (fieldAt e 20 2) with | some k => !k.exportable | none => true) ||
          vaultLocked s || !vaultRuns s, .eState)])
    (fun s _ e =>
      match s.root (fieldAt e 17 1), s.slot (fieldAt e 20 2) with
      | some r, some k =>
        (s, .final .ok (slotFields (some k) ++ [(24, 40, leNat (padTo 40 (keyWrap r.key k.key)))]))
      | _, _ => (s, .final .eState []))
    c s)

/-! ### The effect of an erase (R541) -/

/-- An SA load under way takes its key from a root, or from a working slot. -/
def loadUnderRoot (s : State) (r : Nat) : Bool :=
  s.cipher.loads.any (fun l => let c := dramCtx s l.sa; !ctxFromSlot c && ctxRoot c = r)
def loadUnderSlot (s : State) (k : Nat) : Bool :=
  s.cipher.loads.any (fun l => let c := dramCtx s l.sa; ctxFromSlot c && ctxSlot c = k)

/-- Evicts the residents whose key came from a root, or from a working slot. -/
def evictByRoot (r : Nat) (s : State) : State :=
  (residents s (fun c => !ctxFromSlot c && ctxRoot c = r)).foldl (fun s e => evict e.1 s) s
def evictBySlot (k : Nat) (s : State) : State :=
  (residents s (fun c => ctxFromSlot c && ctxSlot c = k)).foldl (fun s e => evict e.1 s) s

/-- KEY_ERASE_EFFECT at a boundary: a slot whose SA loads are finished empties and its resident contexts go. -/
def keyErase (s : State) : State :=
  let due := fun {β : Type} (t : Tab (Option β)) (f : β → Bool) =>
    t.filterMap (fun e => e.2.bind (fun k => if f k then some e.1 else none))
  let rs := (due s.vault.roots RootKey.erasing).filter (fun r => !loadUnderRoot s r)
  let ks := (due s.vault.slots SlotKey.erasing).filter (fun k => !loadUnderSlot s k)
  let s := rs.foldl (fun s r => evictByRoot r (s.setRoot r none)) s
  ks.foldl (fun s k => evictBySlot k (s.setSlot k none)) s

/-- KEY_ERASE_EFFECT (R541). -/
def execKeyEraseEffect (s : State) : Host.Outcome State Fault Refusal := .next (keyErase s)

/-! ### Key-wrap slots (R544) -/

/-- One item of SY_KEY_STORE. -/
def storeItem (s : State) (it : List Byte) : State × Status × List Byte :=
  let sa := fieldAt it 0 4
  let root := fieldAt it 4 1
  let flags := fieldAt it 5 1
  let blob := bytesAt it 8 40
  let verify := bitOf flags 0
  let say := fun (st : Status) => leBytes 1 st.code ++ List.replicate 7 0
  match firstFail
    [(decide (3 < flags) || fieldAt it 6 2 ≠ 0, .eBadParam),
     (decide (1048575 < sa) || decide (15 < root), .eRange),
     (!isFilled s (wrapAddr sa) || (verify && (s.root root).isNone) || vaultLocked s, .eState)] with
  | some st => (s, st, say st)
  | none =>
    let (good, s) := if verify then let r := vaultUnwrap root blob s; (r.1.isSome, r.2) else (true, s)
    if !good then (s, .eIntegrity, say .eIntegrity)
    else
      let slot := if bitOf flags 1 then List.replicate 64 0 else wrapSlot 1 root sa blob
      match writeAt (wrapAddr sa) 4 slot s with
      | (true, s) => (s, .ok, say .ok)
      | (false, s) => (s, .eIntegrity, say .eIntegrity)

/-- An item can be served in the present tick: a slot of its channel is left, and for a verify item an unwrap engine (R471, R545). -/
def storeReady (s : State) (it : List Byte) : Bool :=
  decide (0 < slotsFree s (addrChannel (wrapAddr (fieldAt it 0 4))) 4) && (!bitOf (fieldAt it 5 1) 0 || unwrapFree s)

/-- SY_KEY_STORE (R180, R544): items of 48 bytes under the rules of R145. -/
def execSyKeyStore (c : CmdRef) (dma : BatchIn) (s : State) : Host.Outcome State Fault Refusal :=
  .next (serve 0x1003 anyForm batchNamed
    (fun s sid e =>
      batchAreas 4096 48 s sid e ++ [(!vaultRuns s || gated s 0 || gated s 1, .eState)])
    (fun s c e =>
      let l := batchInput s c e dma.bytes
      runBatchWhile c dma.slice l (fieldAt e 40 8) storeReady storeItem ((List.range (fieldAt e 16 4)).map (fun k => bytesAt l (48 * k) 48)) []
        (batchProgress s c) s)
    c s)

/-! ### Rebuild (R546) -/

/-- CONTEXT_REBUILD (R546): the delete action has met every stale context. -/
def execContextRebuild (s : State) : Host.Outcome State Fault Refusal := .next (rebuildEnd (rebuildTick s))

/-! ### The public-key engine (R547 to R555) -/

/-- Conditions that every form of SY_PK shares (Table 8, R555). -/
def pkChecks (op : Nat) (s : State) (sid : Nat) (e : List Byte) : List (Bool × Status) :=
  let flags := fieldAt e 18 1
  let toSlot : Bool := op = 3 && fieldAt e 19 1 = 0
  [(decide (3 < flags) || (bitOf flags 0 && op ≠ 4) || (bitOf flags 1 && !toSlot), .eBadParam),
   (decide (5 < fieldAt e 16 1) || decide (7 < fieldAt e 17 1) || decide (32 < fieldAt e 22 1) ||
      areaBad s sid (fieldAt e 24 8) 320, .eRange),
   (decide (16 ≤ s.vault.queue.length) || gated s 11 || !vaultRuns s || (vaultLocked s && op ≠ 5), .eState)]

/-- The private-key slot that an entry names is loaded. -/
def pkLoaded (s : State) (e : List Byte) : Bool := (s.pk (fieldAt e 17 1)).isSome

/-- Serves one form of SY_PK: it joins the engine's queue with the buffer as it stands. -/
def pkCmd (op : Nat) (named : List (Nat × Nat)) (more : State → List Byte → List (Bool × Status)) (c : CmdRef)
    (dma : List Byte) (s : State) : Host.Outcome State Fault Refusal :=
  .next (serve 0x1004 (fun e => fieldAt e 16 1 = op || (op = 0 && decide (5 < fieldAt e 16 1)))
    ([(16, 1), (17, 1), (18, 1), (22, 1), (24, 8)] ++ named)
    (fun s sid e => pkChecks op s sid e ++ more s e)
    (fun s c e =>
      let x : PkOp := { cmd := c, entry := e, buffer := readArea s c.session (fieldAt e 24 8) 320 dma,
                        start := if s.vault.queue.isEmpty then some s.tick.toNat else none }
      (updVault (fun v => { v with queue := v.queue ++ [x] }) s, .accept))
    c s)

/-- SY_PK op 0 (R549). -/
def execSyPkGenerate (c : CmdRef) (dma : List Byte) (s : State) : Host.Outcome State Fault Refusal :=
  pkCmd 0 [] (fun s e => [(pkLoaded s e || entropyFailed s, .eState)]) c dma s

/-- SY_PK op 1 (R549). -/
def execSyPkImport (c : CmdRef) (dma : List Byte) (s : State) : Host.Outcome State Fault Refusal :=
  pkCmd 1 [] (fun s e => [(pkLoaded s e, .eState)]) c dma s

/-- SY_PK op 2 (R549, R552). -/
def execSyPkSign (c : CmdRef) (dma : List Byte) (s : State) : Host.Outcome State Fault Refusal :=
  pkCmd 2 [] (fun s e => [(!pkLoaded s e || entropyFailed s, .eState)]) c dma s

/-- The destination of an agreement is loaded. -/
def destLoaded (s : State) (e : List Byte) : Bool :=
  if fieldAt e 19 1 = 0 then (s.slot (fieldAt e 20 2)).isSome else (s.root (fieldAt e 20 2)).isSome

/-- SY_PK op 3 (R549, R553). -/
def execSyPkAgree (c : CmdRef) (dma : List Byte) (s : State) : Host.Outcome State Fault Refusal :=
  pkCmd 3 [(19, 1), (20, 2)]
    (fun s e =>
      let d := fieldAt e 20 2
      [(decide (1 < fieldAt e 19 1) || decide ((if fieldAt e 19 1 = 0 then 8191 else 15) < d), .eRange),
       (!pkLoaded s e || destLoaded s e, .eState)])
    c dma s

/-- SY_PK op 4 (R549). -/
def execSyPkVerify (c : CmdRef) (dma : List Byte) (s : State) : Host.Outcome State Fault Refusal :=
  pkCmd 4 [] (fun s e => [(!bitOf (fieldAt e 18 1) 0 && !pkLoaded s e, .eState)]) c dma s

/-- SY_PK op 5 (R549). -/
def execSyPkErase (c : CmdRef) (dma : List Byte) (s : State) : Host.Outcome State Fault Refusal :=
  pkCmd 5 [] (fun _ _ => []) c dma s

/-- The fixed time of an operation (Table 6), in whole ticks rounded down: the least difference of its two ticks. -/
def pkTicks (op : Nat) : Nat := if op = 4 then 380000 / 1280 else if op = 5 then 20000 / 1280 else 200000 / 1280

/-- A point that the engine rejects (Table 7). -/
def pointBad (p : List Byte) : Bool :=
  decide (p384p ≤ beNat (bytesAt p 0 48)) || decide (p384p ≤ beNat (bytesAt p 48 48)) || !ecOnCurve p

/-- A scalar that the engine rejects (Table 7). -/
def scalarBad (k : List Byte) : Bool := beNat k = 0 || decide (p384n ≤ beNat k)

/-- A private scalar, or a per-message secret, from random bits with 64 to spare (FIPS 186-5). -/
def drawScalar (s : State) : Nat × State :=
  let r := drbg 56 s
  (beNat r.1 % (p384n - 1) + 1, r.2)

/-- How an operation of the engine ends. -/
inductive PkEnd where
  | again
  | final (st : Status) (fs : List Fld)
deriving DecidableEq, Repr

/-- Loads a private-key slot and writes its public key to the buffer. -/
def loadPk (x : PkOp) (scalar : List Byte) (origin : Nat) (s : State) : State :=
  let point := padTo 96 (ecPublic scalar)
  writeArea (s.setPk (fieldAt x.entry 17 1) (some ⟨scalar, point, origin⟩)) x.cmd.session (fieldAt x.entry 24 8) point

/-- The key that an agreement derives (R553). -/
def agreedKey (scalar peer info : List Byte) : List Byte :=
  padTo 32 (sha384 (beBytes 4 1 ++ padTo 48 (ecShared scalar peer) ++ info))

/-- An operation at its fixed time (R549 to R553). An earlier operation of the queue, or another command, may have changed the
slots since its start of service; it then ends with E_STATE and changes nothing (log entry 35). -/
def runPk (x : PkOp) (s : State) : PkEnd × State :=
  let e := x.entry
  let i := fieldAt e 17 1
  let b := x.buffer
  match fieldAt e 16 1 with
  | 0 =>
    if (s.pk i).isSome then (.final .eState [], s)
    else
      let r := drawScalar s
      (.final .ok [], loadPk x (beBytes 48 r.1) 1 r.2)
  | 1 =>
    let k := bytesAt b 96 48
    if (s.pk i).isSome then (.final .eState [], s)
    else if scalarBad k then (.final .eScalar [], s)
    else (.final .ok [], loadPk x k 2 s)
  | 2 =>
    match s.pk i with
    | none => (.final .eState [], s)
    | some k =>
      let r := drawScalar s
      let sig := padTo 96 (ecdsaSign k.scalar (bytesAt b 144 48) r.1)
      if beNat (bytesAt sig 0 48) = 0 || beNat (bytesAt sig 48 48) = 0 then (.again, r.2)
      else (.final .ok [], writeArea r.2 x.cmd.session (fieldAt e 24 8 + 192) sig)
  | 3 =>
    match s.pk i with
    | none => (.final .eState [], s)
    | some k =>
      let peer := bytesAt b 0 96
      if destLoaded s e then (.final .eState [], s)
      else if pointBad peer then (.final .ePoint [], s)
      else
        let key := agreedKey k.scalar peer (bytesAt b 288 (fieldAt e 22 1))
        let d := fieldAt e 20 2
        (.final .ok [(32, 4, kcv key)],
          if fieldAt e 19 1 = 0 then s.setSlot d (some { key := key, exportable := bitOf (fieldAt e 18 1) 1 })
          else loadRoot d key 3 s)
  | 4 =>
    let sig := bytesAt b 192 96
    let judge := fun (point : List Byte) =>
      if bitOf (fieldAt e 18 1) 0 && pointBad point then .ePoint
      else if scalarBad (bytesAt sig 0 48) || scalarBad (bytesAt sig 48 48) then .eScalar
      else if ecdsaVerify point (bytesAt b 144 48) sig then Status.ok else .eSignature
    if bitOf (fieldAt e 18 1) 0 then (.final (judge (bytesAt b 0 96)) [], s)
    else match s.pk i with
      | none => (.final .eState [], s)
      | some k => (.final (judge k.point) [], s)
  | _ => (.final .ok [], s.setPk i none)

/-- The engine starts on what is now the first operation. -/
def startPk (s : State) : State :=
  updVault (fun v => { v with queue := match v.queue with
    | x :: t => { x with start := some s.tick.toNat } :: t
    | [] => [] }) s

/-- PK_OPERATION_END (R549, R550, R565): the first operation reaches its fixed time. -/
def execPkOperationEnd (s : State) : Host.Outcome State Fault Refusal :=
  .next (match s.vault.queue with
    | [] => s
    | x :: t =>
      match x.start with
      | none => s
      | some start =>
        if !vaultRuns s || decide (s.tick.toNat < start + (x.again + 1) * pkTicks (fieldAt x.entry 16 1)) then s
        else
          let ticks : List Fld := [(16, 8, start), (24, 8, s.tick.toNat)]
          let s := updVault (fun v => { v with queue := t }) s
          if x.failed then startPk (finish x.cmd .failedInFlight ticks s)
          else match runPk x s with
            | (.again, s) => updVault (fun v => { v with queue := { x with again := x.again + 1 } :: v.queue }) s
            | (.final st fs, s) => startPk (finish x.cmd st (ticks ++ fs) s))

/-! ### Tamper (R556 to R563) -/

/-- A sensor acts now (Table 10, R557): in sealed standby, and with VIN below the lockout, the sealed domain watches sensors 0, 1,
4 and 5 alone. -/
def sensorActive (s : State) (k : Nat) : Bool :=
  if !s.sealed.alive || s.isCN then false
  else if barAlive s then
    k ≠ 3 || (s.attr .clockPllCoast = 0 && domainRamping s = 0)
  else k ≠ 2 && k ≠ 3

/-- Step 2 of Table 11 for one cause: latch, count and the first cause. -/
def latchTamper (k : Nat) (s : State) : State :=
  let s := s.bump .secTamperCount k
  let s := if s.attr .secTamperFirst = 0xFF then
      ((s.setAttr .secTamperFirst 0 0 k).setAttr .secTamperFirstTick 0 0 (if barAlive s then s.tick.toNat else 0)).setAttr
        .secTamperFirstSealed 0 0 (b01 !(barAlive s))
    else s
  let l := s.attrN .secTamperLatch
  let s := s.setAttr .secTamperLatch 0 0 (l ||| 2 ^ k : Nat)
  if barAlive s then setAlarm 4 s else s

/-- Locks the vault. -/
def lockVault (s : State) : State := s.setAttr .secTamperLocked 0 0 1

/-- A batch of SY_KEY_STORE, and an import or load that waits for its unwrap, meets an erase: what has no result gets FAILED_IN_FLIGHT
(R565). -/
def failStores (s : State) : State :=
  let s := s.vault.unwraps.foldl (fun s c => finish c .failedInFlight [] s) (updVault (fun v => { v with unwraps := [] }) s)
  (List.range 8).foldl (fun s i => (s.sess i).taken.foldl (fun s t =>
    match t.phase with
    | .running _ _ =>
      if entryOpcode t.entry = 0x1003 then
        let r := failBatch i t s
        finish ⟨i, t.id⟩ .failedInFlight r.1 r.2
      else s
    | _ => s) s) s

/-- Steps 3 and 4 of Table 11 for a cause: keys and key state go, packets in the cipher stage fail, and a batch of
SY_KEY_STORE and operations of the engine are met by the erase (R565). Step 5 is owed. -/
def tamperErase (k : Nat) (s : State) : State :=
  let s := updVault (fun v => { v with
    roots := [], slots := [], pks := [], rng := {}, erased := v.erased ++ [(k, !barAlive s)] }) (lockVault s)
  if !barAlive s then s
  else
    let s := failStores (flushCipher 11 s).2
    match s.vault.queue with
    | [] => s
    | x :: t =>
      t.foldl (fun s y => finish y.cmd .eState [] s) (updVault (fun v => { v with queue := [{ x with failed := true }] }) s)

/-- Raises tamper_trip (Table 17). -/
def raiseTrip (s : State) (t : Trip) : State :=
  raise 0x1001 4 t.sensor [(24, 1, t.policy), (25, 1, b01 t.asleep), (32, 8, t.tick)] s

/-- Raises the events of trips that firmware owes. -/
def reportTrips (s : State) : State :=
  s.vault.trips.foldl raiseTrip (updVault (fun v => { v with trips := [] }) s)

/-- Raises the events of the trips up to that of the first erase that is owed (Table 11, step 5). -/
def reportErase (s : State) : State :=
  let n := (s.vault.trips.takeWhile (fun t => t.policy ≠ 2)).length + 1
  (s.vault.trips.take n).foldl raiseTrip (updVault (fun v => { v with trips := v.trips.drop n }) s)

/-- A trip of one sensor, without the erase: latch, lock, and the event, which waits for step 5 of an erase, for firmware, or for
a wake; in sealed standby one event a sensor. -/
def tripSensor (s : State) (k : Nat) : State :=
  let policy := s.attrN .secTamperPolicy k
  let awake := barAlive s
  let s := latchTamper k (s.setAttr .secTamperPresent 0 0 (s.attrN .secTamperPresent ||| 2 ^ k : Nat))
  let s := if 1 ≤ policy then lockVault s else s
  let t : Trip := ⟨k, policy, !awake, if awake then s.tick.toNat else 0⟩
  if awake && policy ≠ 2 && s.boot.service = .firmware then raiseTrip s t
  else if !awake && s.vault.trips.any (fun u => u.asleep && u.sensor = k) then s
  else updVault (fun v => { v with trips := v.trips ++ [t] }) s

/-- The sensor whose condition a measurement meets (Table 10). -/
def tamperSensor (s : State) : TamperSign → Option Nat
  | .mesh _ opened shorted permille =>
    if opened || shorted || decide (permille < 800) || decide (1200 < permille) then some 0 else none
  | .vinFall mv us low after =>
    if decide (1000 < mv) && decide (us ≤ 1000) && decide (3000 ≤ low) && decide (100 ≤ after) then some 1 else none
  | .vinOver mv ns => if decide (14500 < mv) && decide (1000 ≤ ns) then some 1 else none
  | .rail row mv ns =>
    let target := railTarget s row
    if s.power.railsUp.contains row && decide (15 * target < 100 * ((mv : Int) - target).natAbs) && decide (5 ≤ ns) then some 2 else none
  | .period datapath fs => if fs < (if datapath then 518000 else 4480000) then some 3 else none
  | .temperature t => if decide (t < -400) || decide (2080 < t) then some 4 else none
  | .light excess us => if decide (0 < excess) && decide (1000 ≤ us) then some 5 else none

/-- `tamper.present` as the sensors measure it at the end of a tick (R561, R568). -/
def tamperTick (signs : List TamperSign) (s : State) : State :=
  s.setAttr .secTamperPresent 0 0
    (maskOf ((List.range 6).filter (fun k => signs.any (fun x => tamperSensor s x = some k) && sensorActive s k)) : Nat)

/-- TAMPER_TRIP (R556, R558, R559, R563, R565): measurements whose conditions begin in the same clock, by sensor in rising order. -/
def execTamperTrip (sensors : List TamperSign) (s : State) : Host.Outcome State Fault Refusal :=
  let ks := (List.range 6).filter (fun k => sensors.any (fun x => tamperSensor s x = some k) && sensorActive s k)
  let erase := ks.find? (fun k => s.attrN .secTamperPolicy k = 2)
  .next (match erase with
    | some k => tamperErase k (ks.foldl tripSensor s)
    | none => ks.foldl tripSensor s)

/-- TAMPER_EPOCH_ADVANCE (R546, R559): step 5 of Table 11. -/
def execTamperEpochAdvance (s : State) : Host.Outcome State Fault Refusal :=
  .next (match s.vault.erased with
    | [] => s
    | (k, asleep) :: rest =>
      if !s.fwServing then s
      else
        let s := advanceEpoch 4 (updVault (fun v => { v with erased := rest }) s)
        let s := (rebuildStart (reportErase s)).setAttr .secCtxSweepPending 0 0 1
        raise 0x1002 4 k [(25, 1, b01 asleep), (28, 4, s.attrN .secEpoch), (32, 8, if asleep then 0 else s.tick.toNat)] s)

/-- The response of SY_TAMPER (Table 15). -/
def tamperFields (s : State) : List Fld :=
  [(16, 1, s.attrN .secTamperLatch), (17, 1, s.attrN .secTamperPresent), (18, 1, s.attrN .secTamperLocked),
   (19, 1, s.attrN .secTamperPolicySealed)] ++ (List.range 6).map (fun k => (20 + k, 1, s.attrN .secTamperPolicy k))

/-- Serves one form of SY_TAMPER. The first form also takes values of op that Table 15 does not give. -/
def tamperCmd (op : Nat) (named : List (Nat × Nat)) (checks : State → List Byte → List (Bool × Status))
    (run : State → List Byte → State) (c : CmdRef) (s : State) : Host.Outcome State Fault Refusal :=
  .next (serve 0x1005 (fun e => fieldAt e 16 1 = op || (op = 0 && decide (4 < fieldAt e 16 1))) ((16, 1) :: named)
    (fun s _ e => (decide (4 < fieldAt e 16 1), .eRange) :: checks s e)
    (fun s _ e => let s := run s e; (s, .final .ok (tamperFields s))) c s)

/-- SY_TAMPER op 0 (R562). -/
def execSyTamperSetPolicy (c : CmdRef) (s : State) : Host.Outcome State Fault Refusal :=
  tamperCmd 0 [(17, 1), (18, 1)]
    (fun s e =>
      [(decide (5 < fieldAt e 17 1) || decide (2 < fieldAt e 18 1), .eRange),
       (s.attr .secTamperPolicySealed = 1 && decide (fieldAt e 18 1 < s.attrN .secTamperPolicy (fieldAt e 17 1)), .eState)])
    (fun s e => s.setAttr .secTamperPolicy (fieldAt e 17 1) 0 (fieldAt e 18 1)) c s

/-- SY_TAMPER op 1 (R562). -/
def execSyTamperSealPolicies (c : CmdRef) (s : State) : Host.Outcome State Fault Refusal :=
  tamperCmd 1 [] (fun _ _ => []) (fun s _ => s.setAttr .secTamperPolicySealed 0 0 1) c s

/-- Clears latch bits whose conditions have gone; with the latch 0 the first cause goes too (R561). -/
def clearLatch (named present : Nat) (s : State) : State :=
  let l := maskOf ((bitsBelow 8 (s.attrN .secTamperLatch)).filter (fun k => !bitOf named k || bitOf present k))
  let s := (s.setAttr .secTamperPresent 0 0 present).setAttr .secTamperLatch 0 0 l
  if l = 0 then
    ((s.setAttr .secTamperFirst 0 0 0xFF).setAttr .secTamperFirstTick 0 0 0).setAttr .secTamperFirstSealed 0 0 0
  else s

/-- SY_TAMPER op 2 (R561), with the conditions present as the sensors measure them; 0xFF names every bit. -/
def execSyTamperClearLatch (c : CmdRef) (present : Fin 64) (s : State) : Host.Outcome State Fault Refusal :=
  tamperCmd 2 [(17, 1)]
    (fun _ e => [(decide (5 < fieldAt e 17 1) && fieldAt e 17 1 ≠ 0xFF, .eRange)])
    (fun s e => clearLatch (if fieldAt e 17 1 = 0xFF then 0xFF else 2 ^ fieldAt e 17 1) present s) c s

/-- SY_TAMPER op 3 (R560). -/
def execSyTamperUnlock (c : CmdRef) (s : State) : Host.Outcome State Fault Refusal :=
  tamperCmd 3 [] (fun s _ => [(s.attr .secTamperLatch ≠ 0, .eState)])
    (fun s _ =>
      if vaultLocked s then raise 0x1003 4 noIndex [] (s.setAttr .secTamperLocked 0 0 0) else s) c s

/-- SY_TAMPER op 4 (R567): the erase of Table 11 with latch bit 6. -/
def execSyTamperEraseNow (c : CmdRef) (s : State) : Host.Outcome State Fault Refusal :=
  tamperCmd 4 [] (fun _ _ => [])
    (fun s _ =>
      let s := latchTamper 6 s
      tamperErase 6 (updVault (fun v => { v with trips := v.trips ++ [⟨6, 2, false, s.tick.toNat⟩] }) s)) c s

end Sys2Proof.Machine
end

