-- ==== Sys2Proof/Machine/Resets.lean ====
section
/-!
DEFINITION. Sys2Proof/Machine/Resets.lean: what the resets and the power states leave behind (Table 11 of spec/02), minimal state,
coasting, power-up and power-down, sealed standby, and the PCIe endpoint's resets.
-/
namespace Sys2Proof.Machine

/-! ### What is kept (R67) -/

/-- Attributes that live in NVM, in OTP, in fuses or in the sealed domain. -/
def attrKept : Attr → Bool
  | .powerRailStartFailures | .firmwareOtpCounter | .clockOtpXoDelayMs | .clockXoDelayMs | .identityDieId | .identityPciVendorId
  | .lineEpoch | .clientEpoch | .timEpoch | .secEpoch | .memEpoch | .houseEpoch | .mgmtNodeAddress
  | .timHoldoverAgeingPptDay | .tarnishDomainGainPerStep
  | .secTamperPolicy | .secTamperPolicySealed | .secTamperLocked | .secTamperLatch | .secTamperFirst
  | .secTamperFirstTick | .secTamperFirstSealed | .secTamperCount => true
  | _ => false

/-- Attributes that a warm reset keeps besides (R467, R525). -/
def attrKeptWarm : Attr → Bool
  | .memDdrFailedDevice | .cipLastResetAborts => true
  | _ => false

/-- The sealed domain's attributes, lost with VIN below 3.0 V. -/
def attrSealed : Attr → Bool
  | .powerRailStartFailures
  | .secTamperPolicy | .secTamperPolicySealed | .secTamperLocked | .secTamperLatch | .secTamperPresent | .secTamperFirst
  | .secTamperFirstTick | .secTamperFirstSealed | .secTamperCount => true
  | _ => false

/-- What every reset of Table 10 (02) leaves of the supply's own state. -/
def Power.kept (w : Power) : Power :=
  { phase := w.phase, vinGood := w.vinGood, pwrgd := w.pwrgd, v18Out := w.v18Out, railsUp := w.railsUp
    sequencerAlarm := w.sequencerAlarm, straps := w.straps, txoMs := w.txoMs, sealHigh := w.sealHigh
    sealedByBall := w.sealedByBall, causes := w.causes, dieHot := w.dieHot }

/-- The state after a cold reset, sealed wake or loss of the rails, or after a warm reset, by the columns of Table 11 (R67): NVM,
OTP, the sealed domain and, when warm, DRAM are kept, and everything else is at its reset value. -/
def hardReset (warm : Bool) (s : State) : State :=
  { State.reset with
    pending := s.pending, free := s.free, out := s.out, fuse := s.fuse, power := s.power.kept, sealed := s.sealed, nor := s.nor
    attrs := s.attrs.filter (fun e => attrKept (Attr.ofKey e.1) || (warm && attrKeptWarm (Attr.ofKey e.1)))
    clk := { selfRefresh := if warm then [0, 1] else [] }
    cellRecords := s.cellRecords, factoryTrims := s.factoryTrims, laneTable := s.laneTable
    timing := s.timing.kept, tarnish := { nvm := s.tarnish.nvm }
    vault := { roots := s.vault.roots, trips := s.vault.trips, erased := s.vault.erased }
    memory := if warm then { dram := s.memory.dram, filled := s.memory.filled, ctxDies := s.memory.ctxDies } else {} }

/-! ### Commands at a reset -/

/-- ABORTED_BY_RESET for every command not yet completed, in every session that is served (R60, R64). -/
def abortAll (s : State) : State :=
  if s.canPost then
    (List.range 8).foldl (fun s i => (s.sess i).taken.foldl (fun s t => finish ⟨i, t.id⟩ .abortedByReset [] s) s) s
  else s

/-- After it, every outstanding command has been answered, and the answer posted (R64). -/
def allPosted (s : State) : Bool :=
  s.canPost && (List.range 8).all (fun i => (s.sess i).taken.isEmpty && (s.sess i).hold.all (fun h => h.isEvent))

/-- A reset request written and not yet acted on: 0 for none. -/
def requestPending (s : State) : Nat := (s.attrRead .resetRequest 0 0).toNat

/-- Drops a pending reset request. -/
def dropRequest (s : State) : State :=
  { s.setAttr .resetRequest 0 0 0 with written := Tab.erase s.written (Attr.key .resetRequest 0 0) }

/-- A request of a rank below the reset that takes effect, which has completed OK, is discarded: bit 10 of the cause (R69). `rank`
is 2 for cold, 3 for thermal level 3, 4 for warm, 5 for sealed standby, as R69 numbers them. -/
def supersededBit (rank : Nat) (s : State) : Nat :=
  let r := requestPending s
  let port := r = 2 || r = 3
  let warm := r = 1 && rank < 4
  let standby := s.attr .powerSealRequest = 1 && rank < 5
  if port || warm || standby then 1024 else 0

/-- The part runs: its rails and clocks are up (R58). -/
def running (s : State) : Bool := barAlive s

/-- Level 3 holds the device in minimal state over a warm or cold reset (R71): a reset that leaves the die hot starts with level 3
and its cause bit. -/
def holdThermal (s : State) : State :=
  if s.power.dieHot then
    { s.setAttr .thermalLevel 0 0 3 with power := { s.power with causes := s.power.causes ||| 64 } }
  else s

/-- A warm or cold reset: what it keeps, the wait for tXO, its causes, and level 3 if it holds. -/
def resetTo (warm : Bool) (causes : Nat) (s : State) : State :=
  let s := hardReset warm s
  holdThermal { s with power := { s.power with phase := .waitStart, causes := causes } }

/-- A warm reset (R64): the sluices hold local fault, commands are aborted, packets in the cipher stage fail, DRAM enters self-refresh, and the part starts
again with the straps it holds. -/
def warmReset (cause : Nat) (s : State) : State :=
  if !running s then s
  else
    let bit := supersededBit 4 s
    let f := flushCipher 12 (forceEgress s)
    let s := abortAll f.2
    let posted := if allPosted s then 256 else 0
    let rails := { s.power with railsUp := List.range 8, pwrgd := !s.power.straps.test }
    (resetTo true (cause ||| bit ||| posted) { s with power := rails }).setAttr .cipLastResetAborts 0 0 ((f.1 : Nat) : Int)

/-- WARM_RESET (R64, R69): a low pulse under 1 us is ignored; one of 1 us to 10 us has no effect or makes a warm reset, by a free
value; a request acts if it is pending. -/
def execWarmReset (src : WarmSource) (s : State) : Host.Outcome State Fault Refusal :=
  .next (match src with
    | .ball ns =>
      if ns < 1000 then s
      else if ns < 10000 then
        let d := s.draw
        if d.1 % 2 = 1 then warmReset 4 d.2 else d.2
      else warmReset 4 s
    | .request => if requestPending s = 1 then warmReset 8 s else s)

/-! ### Minimal state (R59, Table 8) -/

/-- Commands under way that address a line port, a channel, a lane or DRAM, or the vault and the engine, complete with E_STATE
(R94; Table 12 of 16). -/
def failDatapath (s : State) : State :=
  (List.range 8).foldl (fun s i => (s.sess i).taken.foldl (fun s t =>
    match cmdInfo (entryOpcode t.entry) with
    | some k =>
      if t.phase = .started && (k.datapath || (k.security && entryOpcode t.entry ≠ 0x1005)) then finish ⟨i, t.id⟩ .eState [] s else s
    | none => s) s) s

/-- What stands between hopper and groups on a line port is discarded. -/
def Line.flushed (x : Line) : Line :=
  { x with held := [], contents := [], arrivals := [], lags := [], gccMIn := {}, gccUIn := {} }

/-- The stream that a group has received or begun to send is discarded. -/
def Group.flushed (x : Group) : Group :=
  { x with rxq := [], rxPos := none, skipped := 0, locked := false, hunt := 0, bad := 0, share := [], tail := [], skewNow := none }

/-- What stops on entry to minimal state is discarded, uncounted (R59), and Table 11's minimal column applies. -/
def datapathLost (s : State) : State :=
  let s := failDatapath s
  { (s.setAttr .memFlowCommittedGen 0 0 0) with
    convs := [], tables := [], commits := [], millraces := []
    txs := s.txs.map (fun e => (e.1, ({ clips := e.2.clips, clipLast := e.2.clipLast, clipPrev := e.2.clipPrev } : Tx)))
    fecs := s.fecs.map (fun e => (e.1, { e.2 with cws := [] }))
    lines := s.lines.map (fun e => (e.1, e.2.flushed))
    groups := s.groups.map (fun e => (e.1, e.2.map Group.flushed))
    mapq := [], egressq := [], lanes := [], memory := {}
    cipher := { records := s.cipher.records, failures := s.cipher.failures
                wheels := s.cipher.wheels.map (fun e => (e.1, ({ retired := e.2.retired } : CipWheel))) }
    vault := { s.vault with slots := [], pks := [], queue := [], unwraps := [] }
    clk := { s.clk with selfRefresh := [] } }

/-- Entry to minimal state with its reason (R59, R71, R94, R171, R177). Stage and reason report it unless the ROM serves. With
coasting and the hold of level 3 both present the first entry gives the reason: at a boot that is coasting (DESIGN CHOICE, log
entry 123). -/
def enterMinimal (reason stage : Nat) (s : State) : State :=
  if s.minimal then s
  else
    let s := setAlarm 13 (timingMinimal (stopAtOnce minimalDomains (datapathLost (forceEgress s))))
    let s := s.setAttr .powerState 0 0 1
    { s with
      power := { s.power with
        phase := if s.power.phase = .active then .minimal else s.power.phase, railsUp := [1, 6, 7], portReset := none }
      boot := if s.boot.service = .rom then s.boot
        else { s.boot with reason := reason, stage := if s.boot.service = .firmware then stage else s.boot.stage } }

/-- The event of a change of thermal level in tick `t` (R8, R72, R666). -/
def thermalEvent (new prev site t : Nat) (s : State) : State :=
  raise 0x0203 7 site [(24, 1, new), (25, 1, prev), sfld 26 2 (s.attr .thermalMaxDieC), (32, 8, t)] s

/-- Events that firmware owes after an entry to minimal state (R668, R666). -/
def reportMinimal (s : State) : State :=
  if !s.fwServing then s
  else
    let s := match s.power.coastOwed with
      | some (st, t) =>
        raise 0x0501 10 noIndex [(24, 1, st), (32, 8, t.getD s.tick.toNat)] { s with power := { s.power with coastOwed := none } }
      | none => s
    match s.power.thermalOwed with
    | some (prev, site, t) => thermalEvent 3 prev site t { s with power := { s.power with thermalOwed := none } }
    | none => s

/-- A reset that ranks above a firmware restart abandons an activation (R113). Before step 3 the command ends ABORTED_BY_RESET, the old
image stays preferred, and the staged slot stays as it is. From step 3 on the device boots by R86 after the hold between attempts
(log entry 124). -/
def abandonActivation (s : State) : State :=
  match s.boot.act with
  | none => s
  | some a =>
    if a.paused then
      { s with boot := { s.boot with
          service := .nobody, stage := 9, holding := true, running := none, act := none, staged := none, millerWatchdog := false } }
    else finish a.cmd .abortedByReset [] { s with boot := { s.boot with act := none } }

/-- A trip while a warm or cold reset is in progress: the boot that follows starts held by level 3 (R69, R71). -/
def tripInReset (site : Nat) (s : State) : State :=
  let owed := if s.attr .thermalLevel = 3 then s.power.thermalOwed else some (s.attrN .thermalLevel, site, s.tick.toNat)
  holdThermal { s with power := { s.power with dieHot := true, thermalOwed := owed } }

/-- THERMAL_LEVEL3_TRIP (R69 to R72). At level 3 it shows that the die is hot again. -/
def execThermalLevel3Trip (site : Fin 24) (s : State) : Host.Outcome State Fault Refusal :=
  .next (if s.power.phase = .waitStart then tripInReset site s
    else if !running s then s
    else if s.attr .thermalLevel = 3 then { s with power := { s.power with dieHot := true } }
    else
      let bit := supersededBit 3 s
      let prev := s.attrN .thermalLevel
      let s := dropRequest (tarnishThermal (s.setAttr .thermalLevel 0 0 3))
      let s := (s.setAttr .powerSealRequest 0 0 0).setAttr .resetCause 0 0 (s.attrN .resetCause ||| bit : Nat)
      let s := enterMinimal 6 5 (abandonActivation s)
      reportMinimal (setAlarm 7 { s with power := { s.power with
        dieHot := true, thermalOwed := some (prev, site, s.tick.toNat) } }))

/-- The loops that `XO_IN` and the cleaned output feed are open (R171), and the tick grid is not aligned (R185). -/
def loopsOpen (s : State) : State :=
  { s.setAttr .timTickAligned 0 0 0 with
    clk := { s.clk with houseLocked := false, timingLocked := false, datapathLocked := false, cleanedValid := false } }

/-- XO_IN_LOSS (R171 to R174, R668): coasting is declared once. A loss between the end of tXO and the start of the ROM shows when the
ROM starts (R167, R169). The time counter is no longer valid (R594). How far the tick of the loss gets is open: free values. In minimal state the reason becomes coasting's (step 6 of Table 4 of 05). -/
def execXoInLoss (s : State) : Host.Outcome State Fault Refusal :=
  .next (if s.power.phase = .waitStart && s.power.txoDone then { s with power := { s.power with xoGood := false } }
    else if !running s || s.attr .clockPllCoast = 1 then s
    else
      let before := s.attrN .powerState
      let s := loopsOpen (setAlarm 10 ((s.setAttr .clockPllCoast 0 0 1).setAttr .timTimeValid 0 0 0))
      let s := { s with
        power := { s.power with xoGood := false, coastOwed := some (before, some s.tick.toNat) }
        clk := { s.clk with slewUntil := s.tick.toNat + 2 } }
      let (len, s) := s.draw
      let (count, s) := s.draw
      let s := { s with clk := { s.clk with coastUnits := coastCount len count s } }
      let s := if s.minimal then
          timingMinimal { s with boot := if s.boot.service = .rom then s.boot else { s.boot with reason := 5 } }
        else s
      reportMinimal (enterMinimal 5 5 s))

/-! ### Power-up (R53 to R55) -/

/-- tXO in milliseconds (Table 3 of 02). -/
def txoOf (s : State) (st : Straps) : Nat :=
  match st.xodly % 8 with
  | 0 => if s.attr .clockOtpXoDelayMs = 0 then 2000 else s.attrN .clockOtpXoDelayMs
  | 1 => 1 | 2 => 5 | 3 => 20 | 4 => 100 | 5 => 250 | 6 => 1000 | _ => 2000

/-- Table 6 up to the wait for step 10: straps, tXO and rails. A rail that does not reach regulation leaves the sequencer where
R55 takes over. -/
def runTable6 (straps : Straps) (railsOk : Bool) (s : State) : State :=
  let ms := txoOf s straps
  { (s.setAttr .clockXoDelayMs 0 0 ms) with power := { s.power with
      phase := if railsOk then .waitStart else .sequencing
      straps := straps, v18Out := true, railsUp := if railsOk then List.range 8 else [7]
      pwrgd := railsOk && !straps.test, sequencerAlarm := false, txoMs := ms, txoDone := false } }

/-- The sealed domain comes alive (R562). -/
def sealedStart (s : State) : State :=
  if s.sealed.alive then s
  else
    { s with sealed := { alive := true, freshVin := true }
             attrs := s.attrs.filter (fun e => !attrSealed (Attr.ofKey e.1))
             vault := { s.vault with roots := [], trips := [], erased := [] } }

/-- SEALED_DOMAIN_START (R562). -/
def execSealedDomainStart (s : State) : Host.Outcome State Fault Refusal := .next (sealedStart s)

/-- POWER_UP (R53): VIN, which has passed 3.0 V, rises through the lockout. A part in sealed standby stays there. -/
def execPowerUp (straps : Straps) (railsOk : Bool) (s : State) : Host.Outcome State Fault Refusal :=
  .next (if s.power.vinGood then s
    else
      let s := sealedStart s
      let s := { s with power := { s.power with vinGood := true } }
      if s.power.phase = .sealedStandby then s
      else
        let bit := if s.sealed.freshVin then 1 else 0
        let s := { s with sealed := { s.sealed with freshVin := false }
                          power := { s.power with causes := s.power.causes ||| bit } }
        runTable6 straps railsOk (holdThermal s))

/-- RAIL_START_FAILURE (R55). -/
def execRailStartFailure (s : State) : Host.Outcome State Fault Refusal :=
  .next (if s.power.phase ≠ .sequencing then s
    else
      { s.bump .powerRailStartFailures with power := { s.power with
          phase := .railHold, railsUp := [], v18Out := false, pwrgd := false, sequencerAlarm := true, txoDone := false } })

/-- SEQUENCER_RETRY (R55): Table 6 from step 1. -/
def execSequencerRetry (straps : Straps) (railsOk : Bool) (s : State) : Host.Outcome State Fault Refusal :=
  .next (if s.power.phase = .railHold then runTable6 straps railsOk s else s)

/-- TXO_EXPIRY (R167). -/
def execTxoExpiry (good : Bool) (s : State) : Host.Outcome State Fault Refusal :=
  .next (if (s.power.phase = .waitStart || s.power.phase = .sequencing) && !s.power.txoDone then
    { s with power := { s.power with txoDone := true, xoGood := good } } else s)

/-! ### Power-down and sealed standby (R56 to R62) -/

/-- Every rail but VDD_AON is off. -/
def railsOff (ph : PowerPhase) (s : State) : State :=
  { s with power := { s.power with phase := ph, railsUp := [], pwrgd := false, v18Out := false, sequencerAlarm := false, causes := 0 } }

/-- VIN falls through the lockout. -/
def powerDown (s : State) : State :=
  if !s.power.vinGood then s
  else
    let s := { s with power := { s.power with vinGood := false } }
    if s.power.phase = .sealedStandby then s else railsOff .off (hardReset false (forceEgress s))

/-- POWER_DOWN (R56). -/
def execPowerDown (s : State) : Host.Outcome State Fault Refusal := .next (powerDown s)

/-- SEALED_DOMAIN_POWER_LOSS (R56): below 3.0 V the sealed domain is lost, and with it sealed standby. -/
def execSealedDomainPowerLoss (s : State) : Host.Outcome State Fault Refusal :=
  let s := powerDown s
  .next { (railsOff .off s) with
    sealed := {}
    attrs := s.attrs.filter (fun e => !attrSealed (Attr.ofKey e.1))
    vault := { s.vault with roots := [], trips := [], erased := [] } }

/-- Entry to sealed standby (Table 9 of 02). A warm reset that is due at the next boundary ranks above it, so the entry is discarded;
a port reset that was requested ranks below it and is discarded with its cause bit (R69). -/
def sealedEntry (byBall : Bool) (s : State) : State :=
  if !running s || requestPending s = 1 then s
  else
    let bit := supersededBit 5 s
    let f := flushCipher 12 (forceEgress s)
    let s := railsOff .sealedStandby (hardReset false (abortAll f.2))
    { s.setAttr .cipLastResetAborts 0 0 ((f.1 : Nat) : Int) with
        power := { s.power with sealedByBall := byBall, sealHigh := !byBall, causes := bit } }

/-- SEALED_STANDBY_ENTRY (R60): by the ball, or by a request that was written. -/
def execSealedStandbyEntry (byBall : Bool) (s : State) : Host.Outcome State Fault Refusal :=
  .next (if byBall || s.attr .powerSealRequest = 1 then sealedEntry byBall s else s)

/-- A wake from sealed standby (R62): Table 6 from step 1, as soon as VIN lies above the lockout. -/
def sealedWake (byPorst : Bool) (straps : Straps) (railsOk : Bool) (s : State) : State :=
  if s.power.phase ≠ .sealedStandby then s
  else if byPorst && s.power.sealedByBall && !s.power.sealHigh then s
  else
    let s := { s with power := { s.power with
        sealHigh := s.power.sealHigh || !byPorst, sealedByBall := false, causes := 128 ||| s.power.causes, phase := .off } }
    if s.power.vinGood then runTable6 straps railsOk s else s

/-- SEALED_WAKE (R62). -/
def execSealedWake (byPorst : Bool) (straps : Straps) (railsOk : Bool) (s : State) : Host.Outcome State Fault Refusal :=
  .next (sealedWake byPorst straps railsOk s)

/-- A cold reset by PORST_N (R54): with a power-up or a wake in progress the causes of that boot join it, and those of a warm reset in
progress do not; from a running part they begin. -/
def coldReset (straps : Straps) (railsOk : Bool) (s : State) : State :=
  match s.power.phase with
  | .sealedStandby => sealedWake true straps railsOk s
  | .sequencing | .waitStart =>
    runTable6 straps railsOk (resetTo false (2 ||| s.power.causes &&& 1153) s)
  | .booting | .active | .minimal => runTable6 straps railsOk (resetTo false (2 ||| supersededBit 2 s) s)
  | .off | .railHold => s

/-- COLD_RESET (R54): a pulse under 1 us is ignored; one of 1 us to 10 us "has no defined effect". -/
def execColdReset (lowNs : Nat) (straps : Straps) (railsOk : Bool) (s : State) : Host.Outcome State Fault Refusal :=
  if lowNs < 1000 then .next s
  else if lowNs < 10000 then .refused .undefinedPulse
  else .next (coldReset straps railsOk s)

/-! ### The port reset (R65) -/

/-- A port's attributes of a list return to their reset values. -/
def resetPortAttrs (l : List Attr) (p : Nat) (s : State) : State :=
  { s with attrs := s.attrs.filter (fun e => !(l.contains (Attr.ofKey e.1) && e.1 / 65536 % 65536 = p)) }

/-- The converters of a port at its reset (R211, R214, R217): calibration and measurements stop, the capture unit disarms, and
both directions leave service. -/
def convAtPortReset (p : Nat) (s : State) : State :=
  let x := s.conv p
  let s := match x.fg with
    | some j => (match j.cmd with | some c => finish c .abortedByReset [] s | none => s)
    | none => s
  let s := x.diags.foldl (fun s d => finish d.cmd .abortedByReset [] s) s
  let s := abandonRotations p s
  let s := capDisarm p s
  (s.setConv p { s.conv p with fg := none, diags := [], rxIn := false, txIn := false, rxInternal := false, txInternal := false }).setAttr .convState p 0 0

/-- A port reset clears both generations of the port's three tables, and a pending commit that names one of them ends without a
swap; the other tables it names leave the freeze and stay staged (R36). -/
def tablesAtPortReset (p : Nat) (s : State) : State :=
  let hit := fun (k : Commit) => [1 + p, 3 + p, 5 + p].any (bitOf k.mask)
  (s.commits.filter hit).foldl (fun s k => finish k.cmd .abortedByReset [] s)
    { s with
      commits := s.commits.filter (fun k => !hit k)
      tables := [1 + p, 3 + p, 5 + p].foldl (fun t b => Tab.erase t b) s.tables }

/-- SY_MR_TABLE and SY_MR_SNAPSHOT of a port that firmware has taken and not completed end at its reset (R262; DESIGN CHOICE, log entry
151). -/
def mrAtPortReset (p : Nat) (s : State) : State :=
  (List.range 8).foldl (fun s i => (s.sess i).taken.foldl (fun s t =>
    let op := entryOpcode t.entry
    let live := match t.phase with | .ended _ _ => false | _ => true
    if live && (op = 0x0702 || op = 0x0703) && fieldAt t.entry 16 1 = p then finish ⟨i, t.id⟩ .abortedByReset [] s else s) s) s

/-- The datapath of a line port resets at the boundary of tick r (R65, R328, R374; Tables 10 of 10 and 8 of 08). -/
def portReset (p : Nat) (s : State) : State :=
  let asleep := s.attr .featherState p ≠ 0
  let s := convAtPortReset p (featherAtReset p (modeAtPortReset p s))
  let s := if asleep then (featherDomains p).foldl domainStart s else s
  let s := mrIdle p (rxFieldsReset p (flushCodewords p (mrAtPortReset p s)))
  let s := (s.setMr p { locks := (s.mr p).locks, frameCount := (s.mr p).frameCount, snap := { (s.mr p).snap with running := none, queued := none } }).setAttr
    .mrCdBulkPsNm p 0 0
  let s := if (s.tx p).parting.isSome then s else txCut p s
  let s := (s.setTx p { s.tx p with announce := none }).setAttr .lineTxState p 0 0
  let s := s.setLine p { (s.line p).flushed with gcc := {}, runs := {}, frozen := true, tickReported := 0 }
  let s := resetPortAttrs [.defectDeclared, .defectReported, .slotDefect, .slotDefectReported] p s
  let s := tablesAtPortReset p s
  { s with power := { s.power with portReset := some p, portResetTick := s.tick.toNat } }

/-- A pending request of a port reset takes effect at the present boundary, unless sealed standby, which ranks above it, was requested
(R69). Outside the active state it does not start: it stays
pending, and reads back, until a reset above it discards it (DESIGN CHOICE, log entry 125). -/
def portResetDue (p : Nat) (s : State) : State :=
  if requestPending s = 2 + p && s.attr .powerSealRequest ≠ 1 && s.power.phase = .active && s.clk.ticking &&
      s.power.portReset.isNone then
    portReset p (abandonActivation (dropRequest s)) else s

/-- PORT_RESET (R65). -/
def execPortReset (port : Fin 2) (s : State) : Host.Outcome State Fault Refusal := .next (portResetDue port s)

/-- What firmware does after a port reset (R65, R117): the port's epoch and its full foreground calibration. -/
def portRestart (p : Nat) (s : State) : State := fgRequest p true false (loadRecords p (advanceEpoch p s))

/-- The reset in progress ends at boundary r + 1. -/
def portResetEnd (s : State) : State :=
  match s.power.portReset with
  | none => s
  | some p =>
    if s.tick.toNat ≤ s.power.portResetTick then s
    else
      let s := { s with power := { s.power with portReset := none } }
      let s := s.setAttr .resetCause 0 0 (s.attrN .resetCause ||| 16 : Nat)
      if s.fwServing then portRestart p s
      else { s with power := { s.power with epochOwed := nsIns s.power.epochOwed p } }

/-- PORT_RESET_END (R65). -/
def execPortResetEnd (port : Fin 2) (s : State) : Host.Outcome State Fault Refusal :=
  .next (if s.power.portReset = some port.val then portResetEnd s else s)

/-- What waited for firmware: line ports whose reset ended while it did not serve, and packets to forward (R111). -/
def owedRestarts (s : State) : State :=
  forwardHeld (s.power.epochOwed.foldl (fun s p => portRestart p s) { s with power := { s.power with epochOwed := [] } })

/-! ### PCIe (R66, R91, R130, R670) -/

/-- Entries held for sessions are posted, logged events delivered, and held messages sent, as far as the link allows. -/
def pcieResume (s : State) : State := flushMsix (deliverAll ((List.range 8).foldl (fun s i => drain i s) s))

/-- The PCIe block is present and clocked: it is held gated with `spi_only` (Table 3 of 02). -/
def pcieAlive (s : State) : Bool := running s && !s.power.straps.hostif

/-- A firmware restart is in progress (R69): an activation's pause, or a start of firmware after the first one of the boot. -/
def fwRestarting (s : State) : Bool :=
  (s.power.phase = .active || s.power.phase = .minimal) && s.boot.service = .nobody ||
    (match s.boot.act with | some a => a.paused | none => false)

/-- A reset of a rank above the PCIe reset is in progress (R69): power-up to the start of the ROM, a port reset, or a firmware
restart. -/
def abovePcie (s : State) : Bool := !running s || s.power.portReset.isSome || fwRestarting s

/-- PCIE_RESET (R66): configuration space and the link; BAR0 contents stay, the MSI-X table and pending bits among them. While a
reset of a higher rank is in progress it is discarded (R69). -/
def execPcieReset (s : State) : Host.Outcome State Fault Refusal :=
  .next (if abovePcie s then s else { s with pcie := { msixTab := s.pcie.msixTab, pba := s.pcie.pba } })

/-- The link speeds, in units of 0.1 GT/s, and widths that the endpoint supports (Table 31 of 04). -/
def pcieSpeeds : List Nat := [25, 50, 80]
def pcieWidths : List Nat := [1, 2]

/-- What configuration space reads of the features that Table 31 of 04 gives: the word of the identifiers, the class code, BAR0's type
bits (64-bit, not prefetchable), and the Table Size field of MSI-X. -/
def pcieIdWord (s : State) : Nat := 0x6400 * 65536 + s.attrN .identityPciVendorId
def pcieClassCode : Nat := 0x028000
def pcieBar0Type : Nat := 4
def msixTableSize : Nat := 9

/-- PCIE_LINK_UP (R91, R131, R157): the link trains to one of the speeds and one of the widths that the endpoint supports. Which
one is settled with the link partner: a free value. -/
def execPcieLinkUp (s : State) : Host.Outcome State Fault Refusal :=
  .next (if pcieAlive s then
    let (x, s) := s.draw
    let (y, s) := s.draw
    pcieResume { s with pcie := { s.pcie with
      linkUp := true, bar0Ready := false
      cfg := { s.pcie.cfg with
        speed := pcieSpeeds.getD (x % pcieSpeeds.length) 25, width := pcieWidths.getD (y % pcieWidths.length) 1 } } }
    else s)

/-- BAR0_READY (R91). -/
def execBar0Ready (s : State) : Host.Outcome State Fault Refusal :=
  .next (if s.pcie.linkUp then { s with pcie := { s.pcie with bar0Ready := true } } else s)

/-- The error registers after a write of configuration space (R157): status bits are W1C. -/
def aerWrite (w : PcieErrorWrite) (a : Aer) : Aer :=
  { a with
    uncorStatus := a.uncorStatus &&& ~~~w.clearUncor, corStatus := a.corStatus &&& ~~~w.clearCor
    deviceStatus := a.deviceStatus &&& ~~~w.clearDevice
    uncorMask := w.uncorMask, uncorSeverity := w.uncorSeverity, corMask := w.corMask, reports := w.reports }

/-- PCIE_CONFIGURATION_WRITE (R91, R157, R670): the enables, the power state (D0 or D3hot), the error registers and the sizes, each kept
within what the endpoint supports. Until BAR0 is ready the request is answered with Configuration Request Retry Status and changes nothing. -/
def execPcieConfigurationWrite (device : PcieDeviceWrite) (msixEnable funcMask d3hot : Bool) (s : State) :
    Host.Outcome State Fault Refusal :=
  .next (if !s.pcie.linkUp then s
    else if !s.pcie.bar0Ready then s.emit .configRetry
    else
      let c := s.pcie.cfg
      pcieResume { s with pcie := { s.pcie with
        busMaster := device.busMaster, msixEnable := msixEnable, funcMask := funcMask, d3hot := d3hot
        aer := aerWrite device.errors s.pcie.aer
        cfg := { c with
          maxPayload := if [128, 256].contains device.maxPayload then device.maxPayload else c.maxPayload
          maxRead := if [128, 256, 512].contains device.maxRead then device.maxRead else c.maxRead } } })

end Sys2Proof.Machine
end

