-- ==== Sys2Proof/Machine/Boot.lean ====
section
/-!
DEFINITION. Sys2Proof/Machine/Boot.lean: the ROM's boot flow, firmware start and firmware resets, and hitless activation (spec/03),
with what firmware does as it becomes ready.
-/
namespace Sys2Proof.Machine

/-! ### Recorded commands (R110, R152) -/

/-- The records of a session in the order in which they are answered: urgent, normal and bulk (R139; steps 7 and 8 of Table 27 of 04), and
those of a class in the order taken (DEDUCED, log entry 178). -/
def Session.byClass (x : Session) : List Taken :=
  [some CmdClass.urgent, some .normal, some .bulk, none].flatMap (fun k => x.taken.filter (fun t => t.cls = k))

/-- The restarted firmware answers every recorded command but one with FAILED_IN_FLIGHT (R152), whatever end it was kept with. -/
def failInFlight (but : Option CmdRef) (s : State) : State :=
  (List.range 8).foldl (fun s i => (s.sess i).byClass.foldl (fun s t =>
    if but = some ⟨i, t.id⟩ then s
    else
      let r := failBatch i t s
      finish ⟨i, t.id⟩ .failedInFlight r.1 r.2) s) s

/-- An activation whose new firmware failed waits for the boot that follows to answer it (R110). -/
def State.reverted (s : State) : Bool := match s.boot.act with | some a => a.reverted | none => false

/-- What serves the mailbox after a firmware reset answers what was taken (R152). An activation whose new firmware failed ends
E_INTERNAL with detail 0x0001 (R110). -/
def answerRecorded (s : State) : State :=
  match s.boot.act with
  | some a =>
    if a.reverted then
      failInFlight none (finish a.cmd .eInternal [(16, 2, 1)] { s with boot := { s.boot with act := none } })
    else failInFlight none s
  | none => failInFlight none s

/-! ### The boot flow (R86 to R89) -/

/-- Records the result of a slot in the attempt (Table 8 of 03). -/
def slotResult (slot code : Nat) (s : State) : State :=
  { s with boot := if slot = 0 then { s.boot with resultA := code } else { s.boot with resultB := code } }

/-- A failure of a slot: its result, and the slot and block of the most recent failure (Table 5 of 03). -/
def slotFailed (slot code failBlock : Nat) (s : State) : State :=
  slotResult slot code { s with boot := { s.boot with failSlot := slot, failBlock := failBlock } }

/-- An attempt has failed: it counts, up to 3, and the hold begins (R86). -/
def attemptFailed (s : State) : State :=
  { s with
    sealed := { s.sealed with failCount := min 3 (s.sealed.failCount + 1) }
    boot := { s.boot with
      service := .nobody, stage := 9, holding := true, running := none, bootWatchdog := false, directReload := false } }

/-- Firmware of a slot starts: its trial is used if it is unconfirmed, and the boot watchdog runs (R86, R88). -/
def startFirmware (slot : Nat) (s : State) : State :=
  let pref := s.nor.dir.preferred = slot
  let s := if s.nor.dir.mark slot = .unconfirmed then dirWrite (Dir.tried slot) s else s
  let h := s.nor.block slot 0
  let s := (s.setAttr .firmwareRunningSlot 0 0 slot).setAttr .firmwareSecurityVersion 0 0 (fieldAt h 6 2)
  let s := (s.setAttr .firmwareBuild 0 0 (fieldAt h 8 4)).setAttr .firmwareSyentRelease 0 0 (fieldAt h 12 2)
  { s with boot := { s.boot with
      service := .nobody, stage := 3, running := some slot, ranPreferred := pref, bootWatchdog := true, holding := false } }

/-- Slots in order: the first that passes its check starts; with none, the attempt fails (R86, R87). -/
def trySlots (norOk : Bool) : List Nat → State → State
  | [], s => attemptFailed s
  | slot :: t, s =>
    let d := s.nor.dir
    if norOk && d.mark slot = .invalid then trySlots norOk t (slotFailed slot 7 0 s)
    else if norOk && d.mark slot = .unconfirmed && d.trial slot then trySlots norOk t (slotFailed slot 0x0A 0 s)
    else
      let k := checkImage s slot norOk
      if k.code = 1 then startFirmware slot s else trySlots norOk t (slotFailed slot k.code (k.failBlock.getD 0) s)

/-- The ROM serves the mailbox from here: it answers what firmware had taken, in every session, before it takes a new entry (R152, R162;
DESIGN CHOICE, log entry 179). -/
def romServes (s : State) : State := answerRecorded { s with boot := { s.boot with service := .rom } }

/-- `rom_start` of R86. Results of slots stay those of the latest attempt where no attempt follows (Table 5). The ROM's reason 0x02, 0x03
or 0x04 takes the place of coasting's 0x05 (DESIGN CHOICE, log entry 172). A NOR that does not respond shows no directory: slot A is taken first, and both slots get result 0x02
(DESIGN CHOICE, log entry 126). -/
def romStart (norOk : Bool) (s : State) : State :=
  let b := { s.boot with service := Service.nobody, stage := 1, holding := false, running := none }
  let strap := s.power.straps.boot % 4
  if strap = 1 || strap = 2 then
    romServes { s with boot := { b with stage := 7, reason := 2 + strap, recovery := true } }
  else if 3 ≤ s.sealed.failCount then
    enterMinimal 2 6 (romServes { s with boot := { b with stage := 6, reason := 2 } })
  else
    let first := match s.sealed.lastFailed with
      | some k => 1 - k
      | none => if norOk then s.nor.dir.preferred else 0
    trySlots norOk [first, 1 - first] { s with boot := { b with resultA := 0, resultB := 0 } }

/-- The cause bits of a boot (Table 14 of 02): those gathered, and whether the straps it uses read the reserved value (R46, R47). -/
def bootCauses (s : State) : Nat := s.power.causes % 512 + s.power.causes / 1024 * 1024 + 512 * b01 (s.power.straps.boot % 4 = 3)

/-- ROM_START (R53 step 10, R86, R168, R169): the clocks start, the causes of the boot show, and the ROM runs. A part whose
`XO_IN` is not good coasts, its loops running without reference, and one that level 3 holds stays, in minimal state; of the two,
coasting gives the reason (DESIGN CHOICE, log entry 123). -/
def execRomStart (norOk : Bool) (s : State) : Host.Outcome State Fault Refusal :=
  .next (if s.power.phase = .waitStart && s.power.pwrgd && s.power.txoDone && !s.power.straps.test then
    let s := { s with power := { s.power with phase := .booting }
                      clk := { s.clk with houseLocked := s.power.xoGood, timingLocked := s.power.xoGood, d01House := false } }
    let s := (s.setDom 0 ⟨1, .idle⟩).setDom 1 ⟨1, .switching⟩
    let s := [50, 53, 56, 57].foldl domainStart s
    let s := s.setAttr .resetCause 0 0 (bootCauses s : Nat)
    let s := if s.power.xoGood then s
      else enterMinimal 5 5 { (setAlarm 10 (s.setAttr .clockPllCoast 0 0 1)) with
        power := { s.power with coastOwed := some (0, none) } }
    let s := if bitOf s.power.causes 6 then enterMinimal 6 5 s else s
    romStart norOk s
    else s)

/-- HOLD_BETWEEN_ATTEMPTS_END (R86). -/
def execHoldBetweenAttemptsEnd (norOk : Bool) (s : State) : Host.Outcome State Fault Refusal :=
  .next (if s.boot.holding then romStart norOk s else s)

/-- The attempt under way ends with a result (R86, R87). -/
def startFailed (code : Nat) (s : State) : State :=
  match s.boot.running with
  | some slot =>
    if s.boot.bootWatchdog then
      attemptFailed (slotFailed slot code 0 { s with sealed := { s.sealed with lastFailed := some slot } })
    else s
  | none => s

/-- FIRMWARE_SELF_CHECK_FAIL (R87). -/
def execFirmwareSelfCheckFail (s : State) : Host.Outcome State Fault Refusal := .next (startFailed 9 s)

/-- BOOT_WATCHDOG_EXPIRY (R86). -/
def execBootWatchdogExpiry (s : State) : Host.Outcome State Fault Refusal := .next (startFailed 8 s)

/-! ### Firmware ready -/

/-- Cogs that fail the tests of a boot are retired, and the others serve (R326, R523). -/
def testCogs (k : BootIn) (s : State) : State :=
  let s := (List.range 12).foldl (fun s w => s.setWheel w { s.wheel w with
    retired := (List.range 8).filter (fun i => k.cipher.any (fun x => x.val = 8 * w + i)) }) s
  [0, 1].foldl (fun (s : State) (p : Nat) =>
    ((List.range 96).filter (fun c => k.decoder.any (fun x => x.val = 96 * p + c))).foldl (retireCog p)
      (s.setFec p { s.fec p with retired := [], retiring := [] })) s

/-- The DRAM channels have been enabled, their domains started and the channels trained while firmware started (R168 step 7, R461):
2 ready, 4 failed. Their ramps have ended by now. -/
def trainDram (k : BootIn) (s : State) : State :=
  let s := [42, 43, 44, 45].foldl (fun s d => s.setDom d ⟨1, .idle⟩)
    (s.setAttr .clockBlockEnable 0 0 (s.attrN .clockBlockEnable ||| 3 : Nat))
  [0, 1].foldl (fun (s : State) (ch : Nat) =>
    if k.dram.any (fun x => x.val = ch) then raise 0x0E04 5 noIndex [(24, 1, ch), (25, 1, 4)] (s.setAttr .memDdrState ch 0 4)
    else s.setAttr .memDdrState ch 0 2)
    { s with clk := { s.clk with selfRefresh := [] } }

/-- The NVM records of the die: cell records and the wear ledger are loaded and checked, and `nvm_foreign` counts those of another
die (R119, R199, R636, R637). -/
def loadNvm (s : State) : State :=
  let cells := (List.range 24).filter (fun k => recordCheck s (k / 12) (k % 12) = 2)
  let r := s.tarnish.nvm
  let wear : Bool := ledgerGood r && fieldAt r 8 8 ≠ s.attrN .identityDieId
  let s := loadLedger (loadRecords 1 (loadRecords 0 s))
  if cells.isEmpty && !wear then s
  else raise 0x0302 6 noIndex [(24, 1, b01 (!cells.isEmpty) + 2 * b01 wear), (28, 4, cells.length + b01 wear)] s

/-- What the first ready of a boot does for the datapath (R168 step 8, R120, R461). -/
def datapathReady (k : BootIn) (s : State) : State :=
  let s := testCogs k (trainDram k s)
  let s := s.setAttr .clockBlockEnable 0 0 (s.attrN .clockBlockEnable ||| 4 : Nat)
  let s := ([18, 19, 20, 21, 22, 23, 24, 25, 54, 55, 46, 47, 48, 49, 58] ++ (List.range 16).map (· + 2)).foldl domainStart s
  fgRequest 1 true true (fgRequest 0 true true s)

/-- What the first ready of a boot does: epochs advance (R117), NVM is read, and the datapath starts unless the boot is into minimal
state. -/
def bootReady (k : BootIn) (s : State) : State :=
  let s := updTiming (fun t => { t with ready := true }) s
  let s := (List.range 7).foldl (fun s p => advanceEpoch p s) s
  let s := laneTableCheck (loadNvm s)
  let s := rebuildStart (if s.vault.erased.isEmpty then reportTrips s else s)
  if s.minimal then s else datapathReady k s

/-- Cell records that a calibration without firmware left to it (R211). -/
def writeOwedRecords (p : Nat) (s : State) : State :=
  (s.conv p).recordsOwed.foldl (fun s c => writeRecord p c s) (s.setConv p { s.conv p with recordsOwed := [] })

/-- Tick 0 begins (R168, R183): the datapath loop is locked, and its tick counter runs; never without a good `XO_IN` (R169). -/
def tickZero (s : State) : State :=
  if s.clk.ticking || !s.power.xoGood then s
  else { s with clk := { s.clk with ticking := true, cleanedValid := true, datapathLocked := true } }

/-! ### Firmware resets (R67, R89) -/

/-- What a firmware reset does to work in progress (Table 8 of 08, R454, Table 6 of 19) and to firmware's working memory: downloads,
staged copy, checks and an activation are gone (R152). -/
def firmwareReset (s : State) : State :=
  let s := { s with
    boot := { s.boot with
      service := .nobody, millerWatchdog := false, download := none, staged := none, verify := [], act := none }
    vault := { s.vault with unwraps := [] } }
  tarnishPause (lanesAtFwReset true (modeAtFwReset 1 (modeAtFwReset 0 s)))

/-- MILLER_WATCHDOG_EXPIRY (R89): a firmware reset; a confirmed slot is reloaded directly, any other case runs R86. During a port
reset, which ranks above it, it is discarded (R69). -/
def execMillerWatchdogExpiry (norOk : Bool) (s : State) : Host.Outcome State Fault Refusal :=
  .next (if !s.boot.millerWatchdog || s.power.portReset.isSome then s
    else match s.boot.running with
    | none => s
    | some slot =>
      let s := firmwareReset s
      let s := s.setAttr .resetCause 0 0 (s.attrN .resetCause ||| 32 : Nat)
      if s.nor.dir.mark slot = .confirmed then
        let s := { s with boot := { s.boot with resultA := 0, resultB := 0, directReload := true } }
        let k := checkImage s slot norOk
        if k.code = 1 then startFirmware slot s
        else
          attemptFailed (slotFailed slot k.code (k.failBlock.getD 0)
            { s with sealed := { s.sealed with lastFailed := some slot } })
      else romStart norOk s)

/-! ### Hitless activation (R109 to R112) -/

/-- ACTIVATION_PAUSE_START (steps 2 to 4 of Table 14): the staged copy is checked once more, since a confirmation may have raised the
counter (R84, R97, R108); then ACCEPTED, FAILED_IN_FLIGHT for every other command taken, the directory, and the pause. -/
def execActivationPauseStart (s : State) : Host.Outcome State Fault Refusal :=
  .next (match s.boot.act with
    | none => s
    | some a =>
      let k := checkImage s a.slot true
      if a.paused then s
      else if k.code ≠ 1 then finish a.cmd k.status [] { s with boot := { s.boot with act := none } }
      else
        let s := interim a.cmd .accepted .started s
        let s := failInFlight (some a.cmd) s
        let s := dirWrite (Dir.tried a.slot) (dirWrite (fun d => { d with preferred := a.slot }) s)
        let s := { s with boot := { s.boot with
            stage := 8, act := some { a with paused := true }, download := none, verify := [], millerWatchdog := false } }
        tarnishPause (lanesAtFwReset false s))

/-- The pause ends: rings are served again, answers that waited are posted, and owed work is taken up. -/
def pauseEnd (st : Status) (fs : List Fld) (c : CmdRef) (s : State) : State :=
  let s := { s with boot := { s.boot with
      act := none, staged := none, stage := if s.minimal then 5 else 4, millerWatchdog := true } }
  deliverAll (reportMinimal (owedRestarts (postEnded (finish c st fs s))))

/-- ACTIVATION_READY (step 6 of Table 14). The reason and the slot results of the last boot attempt stay as they were (DESIGN CHOICE,
log entry 127). -/
def execActivationReady (pauseUs : Nat) (s : State) : Host.Outcome State Fault Refusal :=
  .next (match s.boot.act with
    | some a =>
      if a.paused then
        let s := startFirmware a.slot s
        let s := { s with boot := { s.boot with service := .firmware, bootWatchdog := false } }
        pauseEnd .ok [(16, 4, pauseUs)] a.cmd s
      else s
    | none => s)

/-- ACTIVATION_REVERT (R110): the slot that ran before is reloaded by R86, and the command ends E_INTERNAL with detail 0x0001. Where
that slot does not start either, the boot goes on by R86 and what serves next answers the command so. -/
def execActivationRevert (norOk : Bool) (s : State) : Host.Outcome State Fault Refusal :=
  .next (match s.boot.act with
    | some a =>
      if a.paused then
        let s := s.bump .firmwareActivationReverts
        let before := s.sealed
        let s := trySlots norOk [a.slot, a.previous] { s with boot := { s.boot with resultA := 0, resultB := 0 } }
        if s.boot.bootWatchdog then
          let s := slotResult a.previous 1 { s with
            sealed := before, boot := { s.boot with service := .firmware, bootWatchdog := false, reason := 7 } }
          pauseEnd .eInternal [(16, 2, 1)] a.cmd s
        else { s with sealed := before, boot := { s.boot with act := some { a with paused := false, reverted := true }, staged := none } }
      else s
    | none => s)

/-! ### SY_BOOT_RETRY (R116) -/

/-- SY_BOOT_RETRY: OK, then a warm reset. In ROM recovery, and under firmware that is not in minimal state, E_STATE (R99). -/
def execSyBootRetry (c : CmdRef) (s : State) : Host.Outcome State Fault Refusal :=
  let s := serve 0x0306 anyForm []
    (fun s _ _ => [(s.boot.recovery || (s.boot.service = .firmware && !s.minimal), .eState)])
    (fun s _ _ =>
      ({ s with sealed := { s.sealed with failCount := 0, lastFailed := none }, boot := { s.boot with retry := true } },
       .final .ok [])) c s
  .next (if s.boot.retry then warmReset 0 s else s)

end Sys2Proof.Machine
end

