-- ==== Sys2Proof/Machine/Sensors.lean ====
section
/-!
DEFINITION. Sys2Proof/Machine/Sensors.lean: the bezel sensor front end, snapshots of the housekeeping monitor, and output
protection (spec/18).
-/
namespace Sys2Proof.Machine

/-! ### The bezel (R607 to R612) -/

/-- Changes the bezel. -/
def updBezel (f : Bezel → Bezel) (s : State) : State := { s with bezel := f s.bezel }

/-- The pending configuration of a channel takes effect as its conversion starts (R608). -/
def takeChannel (s : State) (i : Nat) : State :=
  [Attr.snsEnable, .snsRefPin, .snsCurrentUa, .snsSettleUs, .snsConvMs, .snsChop].foldl (fun s a => s.takeWritten a i) s

/-- The conversion of the first enabled channel from `i` on starts; with none left the sequence ends. The first argument bounds
the channels looked at. -/
def startChannel : Nat → Nat → State → State
  | 0, _, s => updBezel (fun b => { b with run := none }) s
  | n + 1, i, s =>
    let s := takeChannel s i
    if s.attr .snsEnable i = 1 then
      updBezel (fun b => { b with
        run := some i, since := s.tick.toNat
        cut := s.attr .snsShorted i = 1 || s.attr .snsShorted (s.attrN .snsRefPin i) = 1 }) s
    else startChannel n (i + 1) s

/-- A sequence starts; a mode that was written takes effect. -/
def sequenceStart (s : State) : State := startChannel 12 0 (s.takeWritten .bezelMode)

/-- A sequence has ended: a queued one starts, or in mode 0 the next (R608, R609). -/
def sequenceEnded (s : State) : State :=
  let s := s.takeWritten .bezelMode
  if s.bezel.queued then sequenceStart (updBezel (fun b => { b with queued := false }) s)
  else if s.attr .bezelMode = 0 then sequenceStart s
  else s

/-- A trigger in mode 1 or 2 (R609): its outcome, 0 started, 1 queued, 2 overrun. -/
def bezelTrigger (s : State) : Nat × State :=
  if s.bezel.run.isNone then (0, sequenceStart s)
  else if !s.bezel.queued then (1, updBezel (fun b => { b with queued := true }) s)
  else (2, raise 0x1202 6 noIndex [] (s.bump .bezelOverruns))

/-- A 1PPS triggers a sequence in mode 2. -/
def bezelPps (s : State) : State :=
  if !gated s 3 && s.attrRead .bezelMode 0 0 = 2 then (bezelTrigger s).2 else s

/-- SNS_SEQUENCE_START (R608): the continuous sequence, or a queued one, starts while none runs. -/
def execSnsSequenceStart (s : State) : Host.Outcome State Fault Refusal :=
  .next (if gated s 3 || s.bezel.run.isSome then s else sequenceEnded s)

/-- Division rounded to nearest, halves up. -/
def roundNat (a b : Nat) : Nat := (2 * a + b) / (2 * b)

/-- The raw count before clamping (R607); none when a reference voltage is 0. -/
def senseCount (chop : Bool) (v : SenseIn) : Option Nat :=
  if chop then
    if v.r1 = 0 || v.r2 = 0 then none else some (roundNat (524288 * (v.x1 * v.r2 + v.x2 * v.r1)) (v.r1 * v.r2))
  else if v.r1 = 0 then none else some (roundNat (1048576 * v.x1) v.r1)

/-- The length of a conversion in us (R607): each phase settles and integrates. -/
def senseUs (s : State) (i : Nat) : Nat :=
  (if s.attr .snsChop i = 1 then 2 else 1) * (s.attrN .snsSettleUs i + 1000 * s.attrN .snsConvMs i)

/-- The status of a conversion (Table 1). A source that was disconnected from a pin of the channel comes back with the next
conversion (R611). -/
def senseStatus (s : State) (i : Nat) (v : SenseIn) : Nat :=
  if s.bezel.cut || s.attr .snsShorted i = 1 || s.attr .snsShorted (s.attrN .snsRefPin i) = 1 then 3
  else if 1600 ≤ v.peakMv then 1
  else match senseCount (s.attr .snsChop i = 1) v with
    | some n => if 16777216 ≤ n then 2 else 0
    | none => 2

/-- SNS_CONVERSION_END (R607, R608, R610): the phases of the running conversion have had their time. -/
def execSnsConversionEnd (v : SenseIn) (s : State) : Host.Outcome State Fault Refusal :=
  .next (match s.bezel.run with
    | none => s
    | some i =>
      if gated s 3 || decide ((s.tick.toNat + 1) * 1280 < s.bezel.since * 1280 + senseUs s i * 1000) then s
      else
        let st := senseStatus s i v
        let s := (s.setAttr .snsStatus i 0 st).setAttr .snsRawTick i 0 s.tick.toNat
        let s := if st = 0 then
            s.setAttr .snsRaw i 0 (((senseCount (s.attr .snsChop i = 1) v).getD 0 : Nat) : Int) else s
        let s := startChannel (11 - i) (i + 1) s
        if s.bezel.run.isNone then sequenceEnded s else s)

/-- The running conversion uses a pin. -/
def pinInUse (s : State) (p : Nat) : Bool :=
  match s.bezel.run with | some i => i = p || s.attrN .snsRefPin i = p | none => false

/-- A flag of a sense pin changes (R611). Setting it disconnects the sources from the pin, also for the rest of a conversion that
uses it. -/
def senseFlag (i : Nat) (on : Bool) (s : State) : State :=
  if gated s 3 || s.attr .snsShorted i = (b01 on : Int) then s
  else
    let s := if on && pinInUse s i then updBezel (fun b => { b with cut := true }) s else s
    raise 0x1201 6 i [(24, 1, b01 on), tickFld s 32] (s.setAttr .snsShorted i 0 (b01 on))

/-- SNS_SHORT_FLAG (R611): the pin lies above 2.5 V for 10 us. -/
def execSnsShortFlag (level : SenseLevel) (s : State) : Host.Outcome State Fault Refusal :=
  .next (if 2500 < level.mv && decide (10 ≤ level.us) then senseFlag level.pin true s else s)

/-- SNS_SHORT_RELEASE (R611): the pin has stayed below 2.0 V for 100 ms. -/
def execSnsShortRelease (level : SenseLevel) (s : State) : Host.Outcome State Fault Refusal :=
  .next (if level.mv < 2000 && decide (100000 ≤ level.us) then senseFlag level.pin false s else s)

/-- SY_SNS_TRIGGER (R622). -/
def execSySnsTrigger (c : CmdRef) (s : State) : Host.Outcome State Fault Refusal :=
  .next (serve 0x1201 anyForm []
    (fun s _ _ => [(gated s 3 || s.attrRead .bezelMode 0 0 ≠ 1, .eState)])
    (fun s _ _ => let r := bezelTrigger s; (r.2, .final .ok [(16, 1, r.1)])) c s)

/-- Clearing `bezel` of `block_enable` stops the sequence and empties the queue (R621). -/
def bezelStop (s : State) : State := updBezel (fun _ => {}) s

/-- A write of `bezel.mode` empties the queue (R621); it takes effect with the next sequence. -/
def bezelModeWritten (s : State) : State :=
  let s := updBezel (fun b => { b with queued := false }) s
  if s.bezel.run.isNone then s.takeWritten .bezelMode else s

/-- `SNSOUT` is driven low (R612). -/
def snsoutLow (s : State) : Bool :=
  gated s 3 || !barAlive s || s.attr .bezelSnsoutMode = 0 || s.attr .snsStatus (s.attrN .bezelSnsoutSrc) ≠ 0

/-- The frequency of `SNSOUT` in mode 1, in units of 1 ÷ 2^20 Hz, and its high time in mode 2, in periods of 12.8 ns (R612). -/
def snsoutFrequency (n : Nat) : Nat := 10000 * n
def snsoutHigh (periodUs n : Nat) : Nat := roundNat (periodUs * 1000 * n * 10) (16777216 * 128)

/-- Full periods that a form of `SNSOUT` has made in so many ticks; a square wave of frequency 0 stays low and holds nothing up. -/
def snsoutPeriods (o : SnsOut) (ticks : Nat) : Nat :=
  if o.mode = 1 then (if o.count = 0 then ticks else ticks * 1280 * snsoutFrequency o.count / (1048576 * 1000000000))
  else if o.period = 0 then ticks else ticks * 1280 / (o.period * 1000)

/-- A period of `SNSOUT` has ended in the tick before the present boundary, or none runs. -/
def snsoutTurns (s : State) : Bool :=
  let o := s.pins.snsout
  let n := s.tick.toNat - o.since
  o.mode = 0 || decide (snsoutPeriods o (n - 1) < snsoutPeriods o n)

/-- What was written for `SNSOUT` takes effect at its next full period (R612). -/
def takeSnsout (s : State) : State :=
  [Attr.bezelSnsoutSrc, .bezelSnsoutMode, .bezelSnsoutPeriodUs].foldl (fun s a => s.takeWritten a) s

/-- `SNSOUT` at a tick boundary (R612): low at once, and otherwise a new form, count or period with the next full period. -/
def snsoutBoundary (s : State) : State :=
  let put := fun (o : SnsOut) (s : State) => { s with pins := { s.pins with snsout := o } }
  let s := if snsoutTurns s || snsoutLow s then takeSnsout s else s
  if snsoutLow s then put {} s
  else
    let o := s.pins.snsout
    let mode := s.attrN .bezelSnsoutMode
    let count := s.attrN .snsRaw (s.attrN .bezelSnsoutSrc)
    let period := s.attrN .bezelSnsoutPeriodUs
    if (o.mode = mode && o.count = count && o.period = period) || !snsoutTurns s then s
    else put ⟨mode, count, period, s.tick.toNat⟩ s

/-! ### Snapshots of the housekeeping monitor (R615) -/

/-- SY_HK_SNAPSHOT (R615, R622): the first round that begins from now on, or a place in the queue. -/
def execSyHkSnapshot (c : CmdRef) (s : State) : Host.Outcome State Fault Refusal :=
  .next (serve 0x1202 anyForm [] (fun _ _ _ => [])
    (fun s _ _ =>
      if s.hk.snap = .idle then ({ s with hk := { s.hk with snap := .waiting } }, .final .ok [(16, 1, 0)])
      else if !s.hk.queued then ({ s with hk := { s.hk with queued := true } }, .final .ok [(16, 1, 1)])
      else (raise 0x1207 6 noIndex [] (s.bump .hkOverruns), .final .ok [(16, 1, 2)])) c s)

/-- A two's complement value of 2 bytes. -/
def s16Bytes (v : Int) : List Byte := leBytes 2 (v % 65536).toNat

/-- The 96 bytes of a snapshot (Table 3). -/
def snapshotBytes (seq tick : Nat) (values : List Int) : List Byte :=
  padTo 96 (leBytes 4 seq ++ leBytes 4 0 ++ leBytes 8 tick ++ padTo 76 (values.flatMap s16Bytes))

/-- A round ends with its 38 values, and the next begins. -/
def snapshotRound (values : List Int) (s : State) : State :=
  let h := s.hk
  let now := s.tick.toNat
  let s := match h.snap with
    | .idle => s
    | .waiting => { s with hk := { s.hk with snap := .running } }
    | .running =>
      let n := (h.seq + 1) % 2 ^ 32
      let s := s.setAttr .hkSnapshot 0 0 (leNat (snapshotBytes n h.start values))
      raise 0x1206 6 noIndex [(24, 4, n), tickFld s 32]
        { s with hk := { s.hk with seq := n, snap := if h.queued then .running else .idle, queued := false } }
  { s with hk := { s.hk with start := now } }

/-! ### Output protection (R616 to R620) -/

/-- The output is gated under `block_enable`. -/
def outputGated (s : State) (j : Nat) : Bool :=
  if j < 4 then gated s 4 else if j < 6 then gated s 5 else if j = 6 then gated s 3 else if j < 12 then gated s 2 else false

/-- The output is gated, or driven low by R59. -/
def outputHeld (s : State) (j : Nat) : Bool := outputGated s j || (s.minimal && decide (j < 6))

/-- The output is tri-stated. -/
def outputFaulty (s : State) (j : Nat) : Bool := bitOf (s.attrN .pinsFault) j

/-- A clock pair that runs is checked by its swing; every other output by its level (Table 4). -/
def swingChecked (s : State) (j : Nat) : Bool := decide (j < 4) && Tab.get 0 s.timing.clkOut j ≠ 0

/-- The level that an output is driven to: an output that R59 holds is low, and `ALARM_N` is driven low only. -/
def drivenLevel (s : State) (j : Nat) (look : PinLook) : Bool := look.driven && !(s.minimal && decide (j < 6)) && j ≠ 14

/-- An output is driven, so that it is checked (Table 4): `ALARM_N` only when it is driven low. -/
def outputChecked (s : State) (j : Nat) (look : PinLook) : Bool := barAlive s && !outputGated s j && !(j = 14 && look.driven)

/-- A fault is declared (R616, R617): 16 mismatches in a row, or a swing below half of the nominal for 1 us. -/
def faultDeclared (s : State) (j : Nat) (look : PinLook) : Bool :=
  outputChecked s j look &&
  (if swingChecked s j then decide (look.swing < 500) && decide (1000 ≤ look.ns) else decide (16 ≤ look.mismatches))

/-- The cause of a fault (R618): 2 where another output that drives the opposite level declares one within the same 2 us. -/
def faultCause (s : State) (j : Nat) (look : PinLook) : Nat :=
  let level := drivenLevel s j look
  if swingChecked s j then 1
  else if (match look.other with | some (k, l, ns) => k.val ≠ j && l ≠ level && decide (ns ≤ 2000) | none => false) then 2
  else if level then 1 else 0

/-- OUTPUT_FAULT (R617, R618): a fault is declared, or declared again in a retry window. -/
def execOutputFault (output : Fin 15) (look : PinLook) (s : State) : Host.Outcome State Fault Refusal :=
  let j : Nat := output
  .next (if !faultDeclared s j look then s
    else if outputFaulty s j then { s with pins := { s.pins with window := Tab.erase s.pins.window j } }
    else
      let why := faultCause s j look
      let s := (s.setAttr .pinsFault 0 0 (s.attrN .pinsFault ||| 2 ^ j : Nat)).setAttr .pinsCause j 0 why
      raise 0x1203 6 j [(24, 1, why), tickFld s 32]
        { s with pins := { s.pins with
            episode := Tab.put 0 s.pins.episode j 0, next := Tab.ins s.pins.next j (s.tick.toNat + msTicks 100) } })

/-- A retry of a faulty output: it is driven, and counted (Table 5). -/
def retryOutput (j : Nat) (s : State) : State :=
  if !outputFaulty s j || outputHeld s j then s
  else
    let s := s.bump .pinsRetries j
    { s with pins := { s.pins with
        episode := Tab.upd 0 s.pins.episode j (· + 1), window := Tab.put 0 s.pins.window j (s.tick.toNat + 1) } }

/-- A retry window of the output has lasted 10 us by the end of the present tick. -/
def windowOver (s : State) (j : Nat) : Bool :=
  let w := Tab.get 0 s.pins.window j
  w ≠ 0 && decide (w * 1280 + 10000 ≤ (s.tick.toNat + 2) * 1280)

/-- PIN_RETRY_WINDOW (R617, R620): the 100 ms schedule; a retry that is due while the output is held is passed over. -/
def execPinRetryWindow (output : Fin 15) (s : State) : Host.Outcome State Fault Refusal :=
  let j : Nat := output
  .next (if outputFaulty s j && decide (Tab.get 0 s.pins.next j ≤ s.tick.toNat) then
    retryOutput j { s with pins := { s.pins with next := Tab.upd 0 s.pins.next j (· + msTicks 100) } }
    else s)

/-- PIN_RECOVERED (R617): a window ends clean. A window in which the output was gated, or driven low by R59, is none (R620). -/
def execPinRecovered (output : Fin 15) (s : State) : Host.Outcome State Fault Refusal :=
  let j : Nat := output
  .next (if outputHeld s j then { s with pins := { s.pins with window := Tab.erase s.pins.window j } }
    else if windowOver s j then
    let n := Tab.get 0 s.pins.episode j
    let s := (s.setAttr .pinsFault 0 0 (maskOf ((bitsBelow 15 (s.attrN .pinsFault)).filter (· ≠ j)))).setAttr .pinsCause j 0 0xFF
    raise 0x1204 6 j [(24, 4, n)]
      { s with pins := { s.pins with
          window := Tab.erase s.pins.window j, episode := Tab.erase s.pins.episode j, next := Tab.erase s.pins.next j } }
    else s)

/-- SY_PIN_RETRY (R620, R622). -/
def execSyPinRetry (c : CmdRef) (s : State) : Host.Outcome State Fault Refusal :=
  .next (serve 0x1203 anyForm [(16, 4)]
    (fun _ _ e => [(decide (2 ^ 15 ≤ fieldAt e 16 4), .eBadParam)])
    (fun s _ e => ((bitsBelow 15 (fieldAt e 16 4)).foldl (fun s j => retryOutput j s) s, .final .ok [])) c s)

end Sys2Proof.Machine
end

