-- ==== Sys2Proof/Machine/House.lean ====
section
/-!
DEFINITION. Sys2Proof/Machine/House.lean: a round of the housekeeping monitor, and the rail, VIN, reference and thermal conditions that
firmware judges from it (spec/02, spec/18).
-/
namespace Sys2Proof.Machine

/-! ### Rails (R52, R666) -/

/-- The attribute of a rail. -/
def railAttr : Nat → Attr
  | 0 => .railVddDpMv | 1 => .railVddSramMv | 2 => .railVddConvMv | 3 => .railVddConvhMv | 4 => .railVddSerMv
  | 5 => .railVddDdrMv | 6 => .railVddMgtMv | _ => .railVddIoMv

/-- A sample lies outside ±5 % of the target. -/
def railOutside (target : Int) (mv : Nat) : Bool := decide (target < 20 * ((mv : Int) - target).natAbs)

/-- One rail's sample: two in a row on the other side raise or clear `rail_fault`. A rail that is off reads 0 and is not judged
(R614). -/
def railSample (readings : List Nat) (s : State) (r : Nat) : State :=
  if !s.power.railsUp.contains r then s.setAttr (railAttr r) 0 0 0
  else
    let mv := readings.getD r 0
    let s := s.setAttr (railAttr r) 0 0 mv
    let fault := s.power.railFault.contains r
    let n := if railOutside (railTarget s r) mv = fault then 0 else Tab.get 0 s.power.railRun r + 1
    if n < 2 then { s with power := { s.power with railRun := Tab.put 0 s.power.railRun r n } }
    else
      raise 0x0202 8 r [(24, 1, b01 !fault), (26, 2, mv), (28, 2, (railTarget s r).toNat), tickFld s 32]
        { s with power := { s.power with
            railRun := Tab.erase s.power.railRun r
            railFault := if fault then nsDiff s.power.railFault [r] else nsIns s.power.railFault r } }

/-! ### VIN (R50, R666) -/

/-- `vin_low` is raised at the first round below 10,800 mV, and cleared at the second of two at or above it. -/
def vinSample (mv : Nat) (s : State) : State :=
  let s := s.setAttr .hkVinMv 0 0 mv
  let say := fun (on : Nat) (s : State) => raise 0x0201 9 noIndex [(24, 1, on), (26, 2, mv), tickFld s 32] s
  let w := s.power
  if mv < 10800 then
    let s := { s with power := { w with vinRun := 0, vinLow := true } }
    if w.vinLow then s else say 1 s
  else if w.vinLow && decide (1 ≤ w.vinRun) then say 0 { s with power := { w with vinRun := 0, vinLow := false } }
  else if w.vinLow then { s with power := { w with vinRun := w.vinRun + 1 } }
  else s

/-! ### References (R614) -/

/-- Bandgap A differs from bandgap B by more than 1 % in two rounds in a row: `hk_ref_fault`, once, and bandgap B from then on. -/
def refSample (refs : List Nat) (s : State) : State :=
  let s := (List.range 4).foldl (fun s i => s.setAttr .hkRefMv i 0 (refs.getD i 0)) s
  let a : Int := refs.getD 0 0
  let b := refs.getD 1 0
  let n := if b < 100 * (a - b).natAbs then s.power.bandgapRun + 1 else 0
  let s := { s with power := { s.power with bandgapRun := n } }
  if 2 ≤ n && !s.power.bandgapB then
    raise 0x1205 6 noIndex [(24, 2, refs.getD 0 0), (26, 2, b)] { s with power := { s.power with bandgapB := true } }
  else s

/-! ### Temperature (R70, R72) -/

/-- The thermal level after a reading in 1/16 °C: entry at the thresholds, exit 3 °C below; level 3 stays (Table 12 of 02). -/
def thermalNext (s : State) (t : Int) : Nat :=
  let now := s.attrN .thermalLevel
  let e1 := 16 * s.attr .thermalThrottle1C
  let e2 := 16 * s.attr .thermalThrottle2C
  if now = 3 then 3
  else if e2 ≤ t || (now = 2 && decide (e2 - 48 < t)) then 2
  else if e1 ≤ t || (1 ≤ now && decide (e1 - 48 < t)) then 1
  else 0

/-- The site that reads hottest. -/
def hottestSite (sites : List Int) : Nat :=
  (List.range 24).foldl (fun b k => if sites.getD b 0 < sites.getD k 0 then k else b) 0

/-- The sites' readings, the level they give, and its effects: eye scans stop, and a tarnish plan ends, at level 2. -/
def thermalSample (sites : List Int) (s : State) : State :=
  let s := (List.range 24).foldl (fun s i => s.setAttr .hkSiteC i 0 (wrapS 16 (sites.getD i 0))) s
  let hot := hottestSite sites
  let t := sites.getD hot 0
  let s := s.setAttr .thermalMaxDieC 0 0 (wrapS 16 t)
  let s := { s with power := { s.power with dieHot := s.attr .thermalLevel = 3 && decide (16 * s.attr .thermalThrottle1C ≤ t) } }
  let prev := s.attrN .thermalLevel
  let new := thermalNext s t
  if new = prev then s
  else
    let s := thermalEvent new prev hot s.tick.toNat (s.setAttr .thermalLevel 0 0 new)
    if new = 2 then tarnishThermal ((List.range 64).foldl (fun s l => cutScan l s) s) else s

/-- A reading of a round (R613): the mean of the conversions of its channel, rounded to nearest. -/
def hkMean (r : HkReadings) (i : Nat) : Int := let l := r.channels.getD i []; roundDiv l.sum l.length

/-- The readings of channels from one on. -/
def hkMeans (r : HkReadings) (first n : Nat) : List Int := (List.range n).map (fun i => hkMean r (first + i))

/-- HOUSEKEEPING_ROUND (R613 to R615). The monitor runs from `D00` on. -/
def execHousekeepingRound (r : HkReadings) (s : State) : Host.Outcome State Fault Refusal :=
  .next (if !running s then s
    else
      let s := refSample ((hkMeans r 0 4).map Int.toNat) s
      let s := (List.range 8).foldl (railSample ((hkMeans r 4 8).map Int.toNat)) s
      let s := (vinSample (hkMean r 12).toNat s).setAttr .hkV18Mv 0 0 (hkMean r 13).toNat
      let s := rotTempCheck 1 (rotTempCheck 0 (thermalSample (hkMeans r 14 24) s))
      let values : List Int :=
        (List.range 4).map (fun i => s.attr .hkRefMv i) ++ (List.range 8).map (fun i => s.attr (railAttr i)) ++
          [s.attr .hkVinMv, s.attr .hkV18Mv] ++ (List.range 24).map (fun i => s.attr .hkSiteC i)
      snapshotRound values s)

end Sys2Proof.Machine
end

