-- ==== Sys2Proof/Machine/Perf.lean ====
section
/-!
DEFINITION. Sys2Proof/Machine/Perf.lean: the performance counters (R125 of spec/04, R638 to R642 of spec/19).
-/
namespace Sys2Proof.Machine

/-- The number of instances of an event (Table 4 of 19); 0 for a code outside the table. -/
def perfInstances : Nat → Nat
  | 0x001 => 1 | 0x010 => 16 | 0x011 => 2 | 0x012 => 2 | 0x020 => 12 | 0x021 => 1 | 0x022 => 12 | 0x030 => 1 | 0x031 => 1
  | 0x032 => 1 | 0x040 => 1 | 0x050 => 10 | 0x060 => 32 | 0x070 => 8 | 0x071 => 1 | _ => 0

/-- The clock domains an event is counted in at an instance (Table 4); every instance for 0xFFFF. -/
def perfDomains (event inst : Nat) : List Nat :=
  let pick := fun (size : Nat) (ds : List Nat) => if inst = 0xFFFF then ds else [ds.getD (inst / size) 0]
  match event with
  | 0x010 => pick 8 [19, 23]
  | 0x011 | 0x012 => pick 1 [19, 23]
  | 0x020 | 0x022 => pick 4 [46, 47, 48]
  | 0x021 => [49]
  | 0x030 | 0x031 | 0x032 => [54]
  | 0x040 => [55]
  | 0x050 => pick 5 [43, 45]
  | 0x060 => pick 16 [18, 22]
  | _ => [1]

/-- The instances that a counter counts (R639): all of its event for 0xFFFF. -/
def perfPlaces (event inst : Nat) : List Nat := if inst = 0xFFFF then List.range (perfInstances event) else [inst]

/-- Clocks of an event's domain in a tick (Table 1 of 05). -/
def perfClocks : Nat → Nat
  | 0x050 => 2048 | 0x070 | 0x071 => 1280 | _ => 1728

/-- An occupancy event (Table 4). -/
def perfOccupancy (event : Nat) : Bool := [0x010, 0x020, 0x021, 0x030, 0x032, 0x040, 0x070, 0x071].contains event

/-- The occupancy of the queue of an event at an instance (Table 4). -/
def perfLevel (s : State) (event inst : Nat) : Nat :=
  match event with
  | 0x010 => ((s.fec (inst / 8)).cws.filter (fun w => w.place = .queue (inst % 8))).length
  | 0x020 => (s.wheel inst).queue.length
  | 0x021 => (s.cipher.loads.map (fun l => l.waiting.length)).sum
  | 0x030 => s.memory.missq.length
  | 0x032 => s.memory.wbq.length
  | 0x040 => descriptorsUsed s
  | 0x070 => (s.sess inst).taken.length
  | 0x071 => s.bar.log.length
  | _ => 0

/-- The domain in which an event is counted at one instance runs; the datapath clocks of event 0x001 are those of every tick, also while
the loop coasts (R173). -/
def perfRuns (s : State) (event inst : Nat) : Bool :=
  if event = 1 then s.clk.ticking else (perfDomains event inst).any s.domRuns

/-- What counter `k` counts in the tick (R638 to R640), of the instances whose domain runs: 1,728 datapath clocks; the occurrences of a
pulse event; the clocks in which the summed occupancy exceeds the threshold. The last are as shown where the queue crossed the threshold
within the tick; otherwise what it holds at the tick's end stands for the tick. -/
def perfGain (s : State) (k : Nat) (shown : Option Nat) : Nat :=
  let ev := s.attrN .perfCtrEvent k
  let l := (perfPlaces ev (s.attrN .perfCtrInstance k)).filter (perfRuns s ev)
  if ev = 0 || l.isEmpty then 0
  else if ev = 1 then 1728
  else if perfOccupancy ev then
    match shown with
    | some n => min n (perfClocks ev)
    | none => if s.attrN .perfCtrThreshold k < (l.map (perfLevel s ev)).sum then perfClocks ev else 0
  else (l.map (fun i => Tab.get 0 s.perf.pulses (65536 * ev + i))).sum

/-- The counters that count: those whose event is not 0. -/
def perfActive (s : State) : List Nat :=
  (List.range 256).filter (fun k => s.attr .perfCtrEvent k ≠ 0)

/-- What is shown of a counter's queue in a tick. -/
def perfShown (seen : List (Nat × Nat)) (k : Nat) : Option Nat := (seen.find? (fun e => e.1 = k)).map (·.2)

/-- The counters with what they count in the present tick; they wrap at 48 bits (R13, R638). -/
def perfCounted (seen : List (Nat × Nat)) (s : State) : Tab Nat :=
  (perfActive s).foldl (fun t k => Tab.upd 0 t k (fun v => (v + perfGain s k (perfShown seen k)) % 2 ^ 48)) s.perf.live

/-- The counts of the ended tick join the counters. -/
def perfCount (seen : List (Nat × Nat)) (s : State) : State :=
  { s with perf := { s.perf with live := perfCounted seen s, pulses := [] } }

/-- A configuration of counter `k` takes effect: the counter is zeroed (R638). -/
def perfZero (k : Nat) (s : State) : State := { s with perf := { s.perf with live := Tab.erase s.perf.live k } }

/-- The value a read of a counter returns, with the occurrences of a pulse event so far in the present tick, and its snapshot (R125). -/
def perfValue (s : State) (k : Nat) : Nat :=
  if s.bar.frozen then Tab.get 0 s.perf.frozen k
  else
    let ev := s.attrN .perfCtrEvent k
    let now := if ev = 1 || perfOccupancy ev then 0 else perfGain s k none
    (Tab.get 0 s.perf.live k + now) % 2 ^ 48
def perfSnap (s : State) (k : Nat) : Nat := Tab.get 0 s.perf.snap k

/-- The 2,048 bytes of a dump (R641). -/
def dumpBytes (f : Nat → Nat) : List Byte := (List.range 256).flatMap (fun k => leBytes 8 (f k))

/-- The dumps of bank 0 that wait copy the values in force at the present boundary (R641). -/
def perfDumps (s : State) : State :=
  s.perf.dumps.foldl (fun s (d : CmdRef × Nat) =>
    finish d.1 .ok [(16, 8, s.tick.toNat), (24, 1, b01 s.bar.frozen)] (writeArea s d.1.session d.2 (dumpBytes (perfValue s))))
    { s with perf := { s.perf with dumps := [] } }

/-- At the boundary of a tick, the first after a write of PERF_CTRL, a freeze, an unfreeze and a snapshot take effect on the
values that stand there (R125). -/
def perfCtrlAt (tick : Tick) (values : Tab Nat) (s : State) : State :=
  let s := if s.bar.freeze && !s.bar.frozen then
      { s with perf := { s.perf with frozen := values }, bar := { s.bar with frozen := true } }
    else if !s.bar.freeze && s.bar.frozen then
      { s with perf := { s.perf with frozen := [] }, bar := { s.bar with frozen := false } }
    else s
  if s.bar.snapshotPending then
    { s with perf := { s.perf with snap := values, snapTaken := true }
             bar := { s.bar with snapshotPending := false, snapTick := tick } }
  else s

/-- PERF_CTRL at the present boundary. -/
def perfCtrlBoundary (s : State) : State := perfCtrlAt s.tick s.perf.live s

/-- PERF_CTRL_BOUNDARY (R125): the boundary that ends the present tick, so that of the next one; none before tick 0 (R669). -/
def execPerfCtrlBoundary (s : State) : Host.Outcome State Fault Refusal :=
  .next (if s.clk.ticking then perfCtrlAt (s.tick + 1) (perfCounted [] s) s else s)

/-- SY_PERF_DUMP (R641, R642). -/
def execSyPerfDump (c : CmdRef) (s : State) : Host.Outcome State Fault Refusal :=
  .next (serve 0x1302 anyForm [(16, 1), (24, 8)]
    (fun s sid e =>
      [(s.attr .sessionPermission sid = 0 && s.attr .sessionPerfRead sid = 0, .ePermission),
       (decide (1 < fieldAt e 16 1) || areaBad s sid (fieldAt e 24 8) 2048, .eRange),
       (fieldAt e 16 1 = 1 && !s.perf.snapTaken, .eState)])
    (fun s c e =>
      if fieldAt e 16 1 = 1 then
        (writeArea s c.session (fieldAt e 24 8) (dumpBytes (perfSnap s)), .final .ok [(16, 8, s.bar.snapTick.toNat)])
      else (startQuietly c { s with perf := { s.perf with dumps := s.perf.dumps ++ [(c, fieldAt e 24 8)] } }, .accept)) c s)

end Sys2Proof.Machine
end

