-- ==== Sys2Proof/Machine/AttrRead.lean ====
section
/-!
DEFINITION. Sys2Proof/Machine/AttrRead.lean: attribute paths (R17, R30), the attributes that the block computes as they are read,
and the permissions and conditions of an access (R142, R2, R94, R96, R180).
-/
namespace Sys2Proof.Machine

/-! ### Paths (R17) -/

/-- The leading digits of a text. -/
def spanDigits : List Char → List Char × List Char
  | [] => ([], [])
  | c :: t => if c.isDigit then let r := spanDigits t; (c :: r.1, r.2) else ([], c :: t)

/-- The number that digits spell in canonical form: the digit 0 alone, or digits with no leading 0. -/
def canonicalIndex (l : List Char) : Option Nat :=
  match l with
  | [] => none
  | ['0'] => some 0
  | '0' :: _ => none
  | l => some (l.foldl (fun n c => 10 * n + (c.toNat - 48)) 0)

/-- Matches a path against a pattern in which each `#` stands for an index. -/
def matchPath : List Char → List Char → Option (List Nat)
  | [], [] => some []
  | '#' :: ps, l =>
    let r := spanDigits l
    match canonicalIndex r.1 with
    | none => none
    | some n => (matchPath ps r.2).map (n :: ·)
  | p :: ps, c :: cs => if p = c then matchPath ps cs else none
  | _, _ => none

/-- What a path names: nothing, an attribute at an index beyond those that exist, or an attribute. -/
inductive PathRef where
  | nothing
  | beyond (a : Attr)
  | at (a : Attr) (i j : Nat)
deriving DecidableEq, Repr

/-- The attributes, in the order of their keys. -/
def allAttrs : List Attr := (List.range 445).map Attr.ofNat

/-- The attributes of one sail, and of one tributary slot, whose number follows the line mode (Table 4 of 01). -/
def isSailAttr (a : Attr) : Bool := a.row.path.startsWith "device.line#.millrace.sail["
def isSlotAttr (a : Attr) : Bool := a.row.path.startsWith "device.line#.slot["

/-- The paths of an attribute, as patterns. Table 4 of 01 roots a sail at the line port and Tables 10 and 14 of 07 root its attributes at
`millrace`: both name them (DESIGN CHOICE, log entry 182). -/
def attrPaths (a : Attr) : List (List Char) :=
  let l := a.row.path.toList
  l :: (if isSailAttr a then ["device.line#.".toList ++ l.drop "device.line#.millrace.".length] else [])

/-- An index that exists in the present configuration (R17, Table 4 of 01, R393). -/
def indexExists (s : State) (a : Attr) (l : List Nat) : Bool :=
  (List.zipWith (fun n d => decide (n < d)) l a.row.dims).all id &&
  (!isSailAttr a || decide (l.getD 1 0 < modeSails (rxMode s (l.getD 0 0)))) &&
  (!isSlotAttr a || decide (l.getD 1 0 < modeSlots (rxMode s (l.getD 0 0)))) &&
  ((a ≠ .linePmDefectTicks && a ≠ .linePmDefectEntries) || portCodes.contains (l.getD 1 0)) &&
  (a ≠ .timRefSourceLane || decide (6 ≤ l.getD 0 0))

/-- Resolves a path. `line0` and `line1` are names, so any other number after `line` names nothing. -/
def resolvePath (s : State) (path : List Byte) : PathRef :=
  let cs := path.map (fun b => Char.ofNat b.toNat)
  match allAttrs.findSome? (fun a => ((attrPaths a).findSome? (fun p => matchPath p cs)).map (fun l => (a, l))) with
  | none => .nothing
  | some (a, l) =>
    if a.row.path.startsWith "device.line#" && decide (1 < l.getD 0 0) then .nothing
    else if indexExists s a l then .at a (l.getD 0 0) (l.getD 1 0)
    else .beyond a

/-! ### Attributes computed as they are read -/

/-- Values packed little-endian, `n` bytes each, the first lowest. -/
def packInts (n : Nat) (l : List Int) : Nat := leNat (l.flatMap (fun v => leBytes n (v % ((256 ^ n : Nat) : Int)).toNat))

/-- The ordering code as ASCII text (R4). -/
def orderingText : OrderingCode → String
  | .ca => "AZ6400-CA" | .ea => "AZ6400-EA" | .cn => "AZ6400-CN"

/-- The values that the block computes from the rest of its state; none: the value stands in the store. A slot whose header is not
valid reads the bytes that stand in its header, 0xFF where erased (DESIGN CHOICE, log entry 132). -/
def computedAttr (s : State) (a : Attr) (i j : Nat) : Option Int :=
  let nat := fun (n : Nat) => some (n : Int)
  match a with
  | .identityOrderingCode => nat (leNat (asciiBytes (orderingText s.fuse.code)))
  | .secFusedOff => nat (b01 s.isCN)
  | .firmwareSlotState => nat (slotStateCode s i)
  | .firmwareSlotSecurityVersion => nat (s.nor.header i 6 2)
  | .firmwareSlotBuild => nat (s.nor.header i 8 4)
  | .sessionState => nat (s.sess i).state.code
  | .clockBlockEnable => nat (s.attrN .clockBlockEnable + 4096 * b01 s.boot.download.isSome)
  | .clockBlockReady => nat (blockReady s)
  | .clockDomainRunning => nat (domainRunning s)
  | .clockDomainRamping => nat (domainRamping s)
  | .convCoresWithoutSpare => nat ((List.range 12).filter (fun c => (s.core i c).spareLost)).length
  | .convElementsRetired => nat (((List.range 12).map (fun c => (s.core i c).retired.length)).sum)
  | .convSiteTempC => nat (packInts 2 ((List.range 6).map (fun k => s.attr .hkSiteC (6 * i + k))))
  | .convCalStampC =>
    let l := (List.range 12).map (fun c => (s.core i c).stamp)
    nat (packInts 2 [l.foldl min (l.headD 0), l.foldl max (l.headD 0)])
  | .lineTxClipCount => nat ((s.tx i).clipLast.getD j 0)
  | .fecCogsInService => nat (packInts 1 ((s.fec i).cogsInService.map (fun (n : Nat) => (n : Int))))
  | .slotDefect => nat (s.attrN .slotDefect i j + 32768 * b01 ((replacedSlots s i).contains j))
  | .grpDefect =>
    nat (s.attrN .grpDefect i + 16384 * b01 (groupC2l s i)
      + 32768 * b01 (match s.groupNow i with | some x => groupL2c s i x | none => false))
  | .chAction => nat (b01 (channelL2c s i) + 2 * b01 (channelC2l s i))
  | .grpCfgMembers => nat (match s.groupNow i with | some x => x.cfg.length | none => 0)
  | .grpTxMembers => nat (match s.groupNow i with | some x => x.tx.length | none => 0)
  | .grpRxMembers => nat (match s.groupNow i with | some x => x.rx.length | none => 0)
  | .grpTxActive => nat (match s.groupNow i with | some x => memberBits x x.tx | none => 0)
  | .grpRxActive => nat (match s.groupNow i with | some x => memberBits x x.rx | none => 0)
  | .grpHeld => nat (match s.groupNow i with | some x => memberBits x x.held | none => 0)
  | .grpCapacityMbps => nat (match s.groupNow i with | some x => capacityMbps x.tx.length | none => 0)
  | .grpCommittedMbps => nat (sumCommitted s (channelsOf s i))
  | .clientTsQueued => nat (packInts 2 [(s.stamps0.length : Int), (s.stamps1.length : Int)])
  | .memFilledBlocks => nat (filledBlocks s)
  | .memFlowLogged => nat s.memory.touch.length
  | .cipCogsInService => nat (cogsInService s)
  | .cipResidentEncrypt => nat (residentEncrypt s)
  | .cipResidentPinned => nat (residentPinned s)
  | .cipResidentCached => nat (residentCached s)
  | .cipRecordQueued => nat s.cipher.records.length
  | .secRootState => nat (rootState s i)
  | .secRootKcv => nat (rootKcv s i)
  | .secKeySlotState => nat (slotState s i)
  | .secKeySlotKcv => nat (slotKcv s i)
  | .secPkSlotState => nat (match s.pk i with | some k => k.origin | none => 0)
  | .secPkSlotPublic => nat (match s.pk i with | some k => leNat k.point | none => 0)
  | .secPkQueued => nat s.vault.queue.length
  | .timRefStatus => nat (refStatus s i)
  | .timHoldoverTempValid => nat (b01 (oscNow s).isSome)
  | .tarnishDomainOffset => some (s.tarn i).offset
  | .tarnishDomainMarginMin => some (if 0 < (s.tarn i).count then (s.tarn i).low else -32768)
  | .tarnishDomainRemainingSteps => nat (remainingSteps s i)
  | .tarnishDomainProjectedDays => nat (projectedDays s i)
  | .tarnishDomainExhaustedPlans => nat (s.tarn i).exhausted
  | .perfCtrValue => nat (perfValue s i)
  | .perfCtrSnap => nat (perfSnap s i)
  | _ => none

/-- The measures of Table 10 of 07 that need lock. -/
def needsLock : List Attr :=
  [.mrSailSnrDb, .mrSailSnrDbS, .mrSailSnrDbMinS, .mrResidualCdPsNm, .mrResidualCdPsNmS, .mrDgdPs, .mrDgdPsMaxS, .mrPolRateKradS,
   .mrPolRateKradSMaxS, .mrCfoKhz, .mrCfoKhzS]

/-- The value that a read returns (R18); a measure that needs lock reads its invalid value outside state 8 (R264). -/
def attrValue (s : State) (a : Attr) (i j : Nat) : Int :=
  if needsLock.contains a && s.attr .mrState i ≠ 8 then a.row.reset else (computedAttr s a i j).getD (s.attrRead a i j)

/-- The bytes of a value, little-endian (R15). -/
def valueBytes (a : Attr) (v : Int) : List Byte :=
  leBytes a.row.kind.size (v % ((256 ^ a.row.kind.size : Nat) : Int)).toNat

/-- The value that bytes spell. -/
def valueOf (a : Attr) (l : List Byte) : Int :=
  match a.row.kind with | .s _ => fieldInt l 0 a.row.kind.size | _ => (fieldAt l 0 a.row.kind.size : Int)

/-! ### Permission and the conditions of an access -/

/-- The roots of Table 17: `device.security`, and the ports whose writes need administrator permission. -/
def underSecurity (a : Attr) : Bool := a.row.path.startsWith "device.security."
def adminWrite (a : Attr) : Bool := underSecurity a || a.row.path.startsWith "device.house."

/-- The counter values that need `perf_read` (R142, R642). -/
def isPerfValue (a : Attr) : Bool := a = .perfCtrValue || a = .perfCtrSnap

/-- A session may read the attribute, and write it (R142). -/
def mayRead (r : Rights) (a : Attr) : Bool :=
  if underSecurity a then decide (1 ≤ r.perm) else if isPerfValue a then decide (1 ≤ r.perm) || r.perfRead else true
def mayWrite (r : Rights) (a : Attr) (i : Nat) : Bool :=
  decide ((if adminWrite a then 2 else 1) ≤ r.perm) || (a = .sessionEventMask && i = r.sid)

/-- The attributes of a line port, a client channel, a lane or DRAM, which R94 refuses in minimal state (log entry 45). -/
def datapathAttr (a : Attr) : Bool :=
  a.row.path.startsWith "device.line#" || a.row.path.startsWith "device.client." || a.row.path.startsWith "device.memory."

/-- The block of Table 6 (05) that an attribute addresses (R180). -/
def attrBlock (a : Attr) (i : Nat) : Option Nat :=
  let p := a.row.path
  if p.startsWith "device.house.sns[" || p.startsWith "device.house.bezel." then some 3
  else if p.startsWith "device.timing.clk_out[" then some 4
  else if p.startsWith "device.timing.pulse_out[" then some 5
  else if p.startsWith "device.line#.gcc_u." then some (6 + i)
  else if p.startsWith "device.line#.converter.capture." then some (8 + i)
  else if a = .secPkQueued then some 11
  else none

/-- The attributes that the AZ6400-CN refuses (R2, R532). -/
def fusedAttr (a : Attr) : Bool :=
  (underSecurity a && a ≠ .secFusedOff) || a = .chPmCipherOk || a = .chPmCipherLate || a = .chPmCipherFailed

/-- The attributes the ROM serves (R96). -/
def romAttr (a : Attr) : Bool :=
  a.row.path.startsWith "device.house.identity." || a.row.path.startsWith "device.house.firmware."

/-- An attribute of an Ethernet interface exists on its first lane alone (R456). -/
def isIfAttr (a : Attr) : Bool := a.row.path.startsWith "device.client.lane[#].if."

/-- The conditions on any access to an attribute. -/
def accessChecks (s : State) (a : Attr) (i : Nat) : List (Bool × Status) :=
  [(s.isCN && fusedAttr a, .eState),
   (s.boot.service = .rom && !romAttr a, .eState),
   (s.minimal && datapathAttr a, .eState),
   (isIfAttr a && s.attrRead .laneIfType i 0 = 0, .eState),
   ((match attrBlock a i with | some b => gated s b | none => false), .eState)]

/-- The first failure of a read of what a path names, with these rights, and with a session's own. -/
def readFailsBy (s : State) (k : Rights) (r : PathRef) : Option Status :=
  match r with
  | .nothing => some .eBadParam
  | .beyond a => firstFail [(!mayRead k a, .ePermission), (true, .eRange)]
  | .at a i _ => firstFail ((!mayRead k a, .ePermission) :: accessChecks s a i)
def readFails (s : State) (sid : Nat) (r : PathRef) : Option Status := readFailsBy s (s.rights sid) r

end Sys2Proof.Machine
end

