-- ==== Sys2Proof/Machine/AttrWrite.lean ====
section
/-!
DEFINITION. Sys2Proof/Machine/AttrWrite.lean: what a write of an attribute is judged by, and what it does at once (R18, R23, R170,
R179 to R181, R416, R432, and the range notes of the attribute tables).
-/
namespace Sys2Proof.Machine

/-! ### Clients and interfaces -/

/-- The value of an attribute as a read shows it, with one attribute replaced by a value on trial. -/
def shownWith (s : State) (a : Attr) (i : Nat) (v : Int) (b : Attr) (k : Nat) : Int :=
  if b = a && k = i then v else s.attrRead b k 0

/-- The committed rate that a channel counts with: 0 for class 4 (Table 1 of 12). -/
def trialCommitted (f : Attr → Nat → Int) (c : Nat) : Nat := if f .chClass c = 4 then 0 else (f .chCommittedMbps c).toNat

/-- The committed rates of the channels for which attribute `by` has a value. -/
def trialSum (f : Attr → Nat → Int) (field : Attr) (v : Int) : Nat :=
  ((List.range 4096).map (fun c => if f field c = v then trialCommitted f c else 0)).sum

/-- What an interface type carries in Mb/s. -/
def ifCapacity (t : Int) : Nat := if t = 1 then 400000 else 800000

/-- Admission fails (R416): a group or an interface would be overcommitted. -/
def admissionFails (s : State) (a : Attr) (c : Nat) (v : Int) : Bool :=
  let f := shownWith s a c v
  let g := f .chGroup c
  let l := f .chEgressIf c
  (g ≠ 0xFFFF &&
    decide ((match s.group g.toNat with | some x => x.cfg.length * 25000 | none => 0) < trialSum f .chGroup g)) ||
  (l ≠ 0xFF && decide (ifCapacity (s.attrRead .laneIfType l.toNat 0) < trialSum f .chEgressIf l))

/-- A class and a rate that do not go together (R416). -/
def rateOfClassBad (s : State) (a : Attr) (c : Nat) (v : Int) : Bool :=
  let f := shownWith s a c v
  (f .chClass c = 1 && decide (1000 < f .chCommittedMbps c)) || (f .chClass c ≠ 4 && f .chCommittedMbps c = 0)

/-- A value that names no first lane of a configured interface (R394). -/
def noInterface (s : State) (v : Int) : Bool :=
  v ≠ 0xFF && (decide (63 < v) || s.attrRead .laneIfType v.toNat 0 = 0)

/-- The lanes of an interface type on a first lane. -/
def typeLanes (l : Nat) (t : Int) : List Nat :=
  if t = 0 then [] else (List.range (if t = 1 then 4 else 8)).map (l + ·)

/-- The cases in which a write of `if_type` is refused (R432). -/
def ifTypeRefused (s : State) (l : Nat) (v : Int) : Bool :=
  (v = 1 && l % 4 ≠ 0) || (v = 2 && l % 8 ≠ 0) ||
  (List.range 64).any (fun k =>
    k ≠ l && (typeLanes k (s.attrRead .laneIfType k 0)).any (fun n => (typeLanes l v).contains n)) ||
  (v ≠ s.attrRead .laneIfType l 0 && (List.range 4096).any (fun c =>
    s.attrRead .chEgressIf c 0 = (l : Int) || s.attrRead .chFaultSource c 0 = (l : Int)))

/-! ### Blocks (R179 to R181) -/

/-- A batch of a command runs, between two slices. -/
def batchRuns (s : State) (op : Nat) : Bool :=
  (List.range 8).any (fun i => (s.sess i).taken.any (fun t => t.isRunning && entryOpcode t.entry = op))

/-- The range scrub in progress reads a DRAM channel. -/
def scrubUses (s : State) (ch : Nat) : Bool :=
  match s.memory.scrub with
  | some j => decide (0 < burstsOf (j.start / 64) ((j.start + j.length) / 64) ch)
  | none => false

/-- A command that uses a block is in progress (R181; Table 10 of 14). -/
def blockInUse (s : State) (b : Nat) : Bool :=
  match b with
  | 0 | 1 => s.memory.fill.isSome || scrubUses s b || batchRuns s 0x0E03 || batchRuns s 0x1003
  | 4 => s.timing.aligns.any (fun j => j.kind = 0)
  | 5 => s.timing.aligns.any (fun j => j.kind = 1)
  | 8 | 9 => (match (s.conv (b - 8)).fg with | some j => j.cmd.isSome | none => false) || !(s.conv (b - 8)).diags.isEmpty
  | 10 => (List.range 64).any (fun l => (s.lane l).scan.isSome)
  | 11 => !s.vault.queue.isEmpty
  | _ => false

/-- The bits that a write of `block_enable` sets, and those that it clears. -/
def bitsSet (s : State) (v : Int) : List Nat := (List.range 12).filter (fun b => bitOf v.toNat b && !bitOf (s.attrN .clockBlockEnable) b)
def bitsCleared (s : State) (v : Int) : List Nat := (List.range 12).filter (fun b => !bitOf v.toNat b && bitOf (s.attrN .clockBlockEnable) b)

/-- A bit of `block_enable` is set: the block's domains that are stopped start (R179). -/
def blockOn (s : State) (b : Nat) : State := (blockDomains b).foldl domainStart s

/-- A domain of a block whose bit has been cleared stops when nothing else needs it (R179). -/
def blockRest (s : State) (d : Nat) : State :=
  if domainNeeded s d || (List.range 12).any (fun b => bitOf (s.attrN .clockBlockEnable) b && (blockDomains b).contains d) then s
  else domainStop s d

/-- A bit is cleared: the domains in which it was the last block stop, DRAM goes into self-refresh first (R181), the bezel stops
(R621). -/
def blockOff (s : State) (b : Nat) : State :=
  let s := if b < 2 && s.attr .memDdrState b = 2 then
      { s.setAttr .memDdrState b 0 3 with clk := { s.clk with selfRefresh := nsIns s.clk.selfRefresh b } }
    else s
  let s := if b = 3 then bezelStop s else s
  (blockDomains b).foldl blockRest s

/-- A write of `block_enable` takes effect. -/
def blockWrite (v : Int) (s : State) : State :=
  let on := bitsSet s v
  let off := bitsCleared s v
  on.foldl blockOn (off.foldl blockOff (s.setAttr .clockBlockEnable 0 0 v))

/-- A DRAM channel leaves self-refresh once its clocks run again. -/
def leaveSelfRefresh (s : State) : State :=
  s.clk.selfRefresh.foldl (fun s ch =>
    if s.attr .memDdrState ch = 3 && blockReadyBit s ch then
      { s.setAttr .memDdrState ch 0 2 with clk := { s.clk with selfRefresh := nsDiff s.clk.selfRefresh [ch] } }
    else s) s

/-! ### What a written value is judged by -/

/-- The codes of Table 3 (17). -/
def qlCode (v : Int) : Bool := v = 2 || v = 4 || v = 8 || v = 11 || v = 15

/-- The ranges and refusals that are not in the columns of the attribute's row. -/
def valueChecks (s : State) (a : Attr) (i : Nat) (v : Int) : List (Bool × Status) :=
  match a with
  | .thermalThrottle1C =>
    [(decide (throttleDefault s.fuse.code 1 < v) || decide (s.attrRead .thermalThrottle2C 0 0 < v + 3), .eRange)]
  | .thermalThrottle2C =>
    [(decide (throttleDefault s.fuse.code 2 < v) || decide (v < s.attrRead .thermalThrottle1C 0 0 + 3), .eRange)]
  | .sessionPermission => [(i = 0, .eState)]
  | .clockOtpXoDelayMs => [(v = 0, .eRange), (s.attr .clockOtpXoDelayMs ≠ 0, .eState)]
  | .clockBlockEnable =>
    [(decide (4096 ≤ v), .eBadParam),
     (s.isCN && bitOf v.toNat 11, .eState),
     ((bitsCleared s v).any (blockInUse s), .eState),
     (s.minimal && (bitsSet s v).any (fun b => b ≠ 3), .eState)]
  | .convTestMode => [((s.conv i).fg.isSome, .eState)]
  | .mrTiaIndexX | .mrTiaIndexY =>
    [(decide (s.attrRead .mrTiaSteps i 0 ≤ v), .eRange), (s.attrRead .mrTiaMode i 0 = 1, .eState)]
  | .mrCdSetPsNm => [(decide (v < -(cdRange (rxMode s i))) || decide (cdRange (rxMode s i) < v), .eRange)]
  | .fecMode =>
    [(feathered s i || (s.conv i).fg.isSome || s.attr .convTestMode i = 1, .eState)]
  | .fecTxInjectPeriod => [(decide (0 < v) && decide (v < 100), .eRange)]
  | .mgmtNodeAddress | .mgmtRemoteGateSrc => [(decide (262143 < v) && v ≠ 0xFFFFFFFF, .eRange)]
  | .chFaultSource => [(noInterface s v, .eRange)]
  | .chEgressIf => [(noInterface s v, .eRange), (!noInterface s v && admissionFails s a i v, .eState)]
  | .chGroup => [(decide (511 < v) && v ≠ 0xFFFF, .eRange), (admissionFails s a i v, .eState)]
  | .chClass | .chCommittedMbps => [(rateOfClassBad s a i v, .eRange), (admissionFails s a i v, .eState)]
  | .laneIfType => [(ifTypeRefused s i v, .eState)]
  | .laneDormant => [(s.attr .laneIfFirst i ≠ 0xFF && s.attr .laneIfFirst i ≠ (i : Int), .eState)]
  | .timRefSourceLane =>
    [(decide (i < 6) || (decide (63 < v) && v ≠ 0xFF), .eRange),
     (v ≠ 0xFF && (List.range 14).any (fun k => k ≠ i && s.attrRead .timRefSourceLane k 0 = v), .eState)]
  | .timRefType | .timRefFreqHz | .timRefDelayPs => [(decide (3 < i), .eRange)]
  | .laneIfKeyEnable => [(v.toNat % 2 ≠ 0 || decide (15 < v), .eRange)]
  | .timLocalQl => [(!qlCode v || v = 15, .eRange)]
  | .timRefQlOverride | .timClkOutSquelchQl => [(!qlCode v && v ≠ 0xFF, .eRange)]
  | .timHoldoverSns => [(decide (11 < v) && v ≠ 0xFF, .eRange)]
  | .timClkOutFreq => [(decide (8 < v), .eRange)]
  | .timHostFreqPpt => [(pulseFollowed s, .eState)]
  | .snsRefPin => [(v = (i : Int), .eRange)]
  | .snsCurrentUa => [(v % 10 ≠ 0, .eRange)]
  | .perfCtrEvent =>
    [(v ≠ 0 && perfInstances v.toNat = 0, .eRange), (s.isCN && (v = 0x020 || v = 0x021 || v = 0x022), .eState)]
  | .perfCtrInstance =>
    let ev := (s.attrRead .perfCtrEvent i 0).toNat
    [(v ≠ 0xFFFF && decide ((if ev = 0 then 32 else perfInstances ev : Nat) ≤ v.toNat), .eRange)]
  | _ => []

/-- The conditions on a write of a value to an attribute: permission, access, range, state. -/
def writeChecks (s : State) (k : Rights) (a : Attr) (i : Nat) (v : Int) : List (Bool × Status) :=
  [(!mayWrite k a i, .ePermission),
   (decide (v < a.row.lo) || decide (a.row.hi < v), .eRange),
   (!a.row.writable, .eState)] ++ accessChecks s a i ++ (if a.row.writable then valueChecks s a i v else [])

/-- The first failure of a write of bytes to what a path names, with these rights, and with a session's own: the bytes have the
attribute's size (Table 20 of 04). -/
def writeFailsBy (s : State) (k : Rights) (r : PathRef) (d : List Byte) : Option Status :=
  match r with
  | .nothing => some .eBadParam
  | .beyond a => firstFail [(!mayWrite k a 512, .ePermission), (d.length ≠ a.row.kind.size, .eBadParam), (true, .eRange)]
  | .at a i _ => firstFail ((d.length ≠ a.row.kind.size, .eBadParam) :: writeChecks s k a i (valueOf a d))
def writeFails (s : State) (sid : Nat) (r : PathRef) (d : List Byte) : Option Status := writeFailsBy s (s.rights sid) r d

/-! ### What a write does at once -/

/-- A value is written (R18): an attribute of the term `immediately` takes it, any other leaves it pending. A value that an item of a
batch writes takes effect by its item, before the batch completes where that runs on (R146; DESIGN CHOICE, log entry 181). -/
def attrWrite (a : Attr) (i j : Nat) (v : Int) (s : State) : State :=
  match a with
  | .clockBlockEnable => blockWrite v s
  | .bezelMode => bezelModeWritten (s.setWritten a i j v)
  | .laneDormant =>
    let s := s.setWritten a i j v
    if v = 1 then dormancyRequest i s else s
  | .memFlowSeed1 | .memFlowSeed2 => s.setWritten a i j v
  | _ => if a.row.term = .immediately then s.setAttr a i j v else s.setWritten a i j v

end Sys2Proof.Machine
end

