-- ==== Sys2Proof/Machine/AttrCmds.lean ====
section
/-!
DEFINITION. Sys2Proof/Machine/AttrCmds.lean: the attribute and commit commands (R143 to R148), SY_PM_READ (R389, R390), and the
swap of committed generations (R35, R36, R255).
-/
namespace Sys2Proof.Machine

/-- SY_NOP (R143). -/
def execSyNop (c : CmdRef) (s : State) : Host.Outcome State Fault Refusal :=
  .next (serve 0x0100 anyForm [] (fun _ _ _ => []) (fun s _ _ => (s, .final .ok [])) c s)

/-- The path field of a request: `n` bytes, the rest of the field zero. -/
def pathField (e : List Byte) (o size n : Nat) : Option (List Byte) :=
  let f := bytesAt e o size
  if n = 0 || decide (size < n) || !(f.drop n).all (· = 0) then none else some (f.take n)

/-- What a path field names. -/
def fieldRef (s : State) (f : Option (List Byte)) : PathRef :=
  match f with | some p => resolvePath s p | none => .nothing

/-- The attribute that a path names, whether or not its index exists. -/
def PathRef.attr : PathRef → Option Attr
  | .nothing => none
  | .beyond a => some a
  | .at a _ _ => some a

/-- The value of what a path names, as bytes. -/
def readBytes (s : State) (r : PathRef) : List Byte :=
  match r with | .at a i j => valueBytes a (attrValue s a i j) | _ => []

/-- A failure as a condition. -/
def asCheck (f : Option Status) : List (Bool × Status) := match f with | some st => [(true, st)] | none => []

/-- SY_ATTR_READ (R144, Table 19). -/
def execSyAttrRead (c : CmdRef) (s : State) : Host.Outcome State Fault Refusal :=
  .next (serve 0x0101 anyForm [(16, 48)]
    (fun s sid e =>
      let r := fieldRef s (pathField e 17 47 (fieldAt e 16 1))
      (((r.attr.map (fun a => decide (44 < a.row.kind.size))).getD false), .eBadParam) :: asCheck (readFails s sid r))
    (fun s _ e =>
      let d := readBytes s (fieldRef s (pathField e 17 47 (fieldAt e 16 1)))
      (s, .final .ok [(16, 2, d.length), (20, d.length, leNat d)]))
    c s)

/-- Writes what a path names. -/
def writeRef (r : PathRef) (d : List Byte) (s : State) : State :=
  match r with | .at a i j => attrWrite a i j (valueOf a d) s | _ => s

/-- SY_ATTR_WRITE (R144, Table 20). -/
def execSyAttrWrite (c : CmdRef) (s : State) : Host.Outcome State Fault Refusal :=
  .next (serve 0x0102 anyForm [(16, 48)]
    (fun s sid e =>
      let n := fieldAt e 17 1
      let r := fieldRef s (pathField e 18 38 (fieldAt e 16 1))
      (n = 0 || decide (8 < n) || !((bytesAt e 56 8).drop n).all (· = 0) ||
        (r.attr.map (fun a => decide (8 < a.row.kind.size))).getD false, .eBadParam) ::
      asCheck (writeFails s sid r (bytesAt e 56 n)))
    (fun s _ e =>
      (writeRef (fieldRef s (pathField e 18 38 (fieldAt e 16 1))) (bytesAt e 56 (fieldAt e 17 1)) s, .final .ok []))
    c s)

/-! ### Batches (R145, R146) -/

/-- An item of a batch (Table 22). -/
structure BatchAttr where
  isWrite : Bool
  path : List Byte
  value : List Byte
deriving DecidableEq, Repr

/-- The next multiple of 8. -/
def pad8 (n : Nat) : Nat := (n + 7) / 8 * 8

/-- One item at the front of a list of bytes, and what follows it; none when it is not well formed. -/
def parseItem (l : List Byte) : Option (BatchAttr × List Byte) :=
  let op := fieldAt l 0 1
  let pl := fieldAt l 1 1
  let vl := fieldAt l 2 2
  let n := pad8 (4 + pl + vl)
  if decide (l.length < n) || op = 0 || decide (2 < op) || pl = 0 || decide (200 < pl) ||
      (op = 1 && vl ≠ 0) || (op = 2 && (vl = 0 || decide (1024 < vl))) then none
  else some (⟨op = 2, bytesAt l 4 pl, bytesAt l (4 + pl) vl⟩, l.drop n)

/-- The items of a list. -/
def parseItems : Nat → List Byte → Option (List BatchAttr)
  | 0, _ => some []
  | n + 1, l => match parseItem l with
    | none => none
    | some (it, r) => (parseItems n r).map (it :: ·)

/-- The room an item's result needs (R145). -/
def itemRoom (s : State) (it : BatchAttr) : Nat :=
  if it.isWrite then 8
  else 8 + (match (resolvePath s it.path).attr with | some a => pad8 a.row.kind.size | none => 0)

/-- A result (Table 23). -/
def itemResult (st : Status) (d : List Byte) : List Byte :=
  layFields 8 [(0, 1, st.code), (2, 2, d.length)] ++ padTo (pad8 d.length) d

/-- Runs an item with the rights that its session had when the batch started (R141). -/
def runAttrItem (k : Rights) (s : State) (it : BatchAttr) : State × Status × List Byte :=
  let r := resolvePath s it.path
  if it.isWrite then
    match writeFailsBy s k r it.value with
    | some st => (s, st, itemResult st [])
    | none => (writeRef r it.value s, .ok, itemResult .ok [])
  else
    match readFailsBy s k r with
    | some st => (s, st, itemResult st [])
    | none => (s, .ok, itemResult .ok (readBytes s r))

/-- The check of an item list and its result area (R145). -/
def batchListBad (s : State) (sid : Nat) (e dma : List Byte) : Bool :=
  match parseItems (fieldAt e 16 4) (batchIn s sid e dma) with
  | none => true
  | some l => decide (fieldAt e 32 4 < (l.map (itemRoom s)).sum)

/-- The items of a request. -/
def batchItems (e input : List Byte) : List BatchAttr := (parseItems (fieldAt e 16 4) input).getD []

/-- The conditions that SY_ATTR_BATCH and SY_PM_READ share. -/
def batchChecks (s : State) (sid : Nat) (e dma : List Byte) : List (Bool × Status) :=
  batchAreas 256 8 s sid e ++ [(!batchUnread s sid e && batchListBad s sid e dma, .eBadParam)]

/-- SY_ATTR_BATCH (R145, R146). -/
def execSyAttrBatch (c : CmdRef) (dma : BatchIn) (s : State) : Host.Outcome State Fault Refusal :=
  .next (serve 0x0103 anyForm batchNamed
    (fun s sid e => batchChecks s sid e dma.bytes)
    (fun s c e =>
      let l := batchInput s c e dma.bytes
      let b := batchProgress s c
      runBatch c dma.slice l (fieldAt e 40 8) (runAttrItem b.rights) (batchItems e l) [] b s)
    c s)

/-! ### PM counters (R386, R389, R390) -/

/-- A PM counter: a latched counter of the effect term next second. The settings and measured values of spec/07, spec/14, spec/17
and spec/19 that share the term are none (log entry 50). -/
def isPm (a : Attr) : Bool :=
  a.row.term = .nextSecond && !a.row.writable &&
  !(a.row.path.startsWith "device.timing.") && !(a.row.path.startsWith "device.house.")

/-- The value of a PM counter in a bank: the latest one, or the one before. -/
def pmValue (s : State) (latest : Bool) (a : Attr) (i j : Nat) : Int :=
  if a = .lineTxClipCount then ((if latest then (s.tx i).clipLast else (s.tx i).clipPrev).getD j 0 : Nat)
  else if latest then s.attr a i j else Tab.get (resetValue s.fuse a i) s.pm.prev (a.key i j)

/-- Runs an item of SY_PM_READ of a latch: the latest, or the one before it; an item that comes later than both fails (R390). -/
def runPmItem (k : Rights) (latch : Nat) (s : State) (it : BatchAttr) : State × Status × List Byte :=
  let r := resolvePath s it.path
  let latest : Bool := latch = s.attrN .pmSequence
  let notPm := it.isWrite || !((r.attr.map isPm).getD false)
  let gone : Bool := !latest && latch + 1 ≠ s.attrN .pmSequence
  match firstFail ([(notPm, .eBadParam), (gone, .eState)] ++ asCheck (readFailsBy s k r)) with
  | some st => (s, st, itemResult st [])
  | none =>
    match r with
    | .at a i j => (s, .ok, itemResult .ok (valueBytes a (pmValue s latest a i j)))
    | _ => (s, .eBadParam, itemResult .eBadParam [])

/-- The latch that a request names (Table 6 of 11). -/
def pmSequence (s : State) (e : List Byte) : Nat := if fieldAt e 48 4 = 0 then s.attrN .pmSequence else fieldAt e 48 4

/-- The named latch is the latest, or the one before. -/
def pmIsLatest (s : State) (e : List Byte) : Bool := pmSequence s e = s.attrN .pmSequence
def pmIsPrevious (s : State) (e : List Byte) : Bool := pmSequence s e + 1 = s.attrN .pmSequence

/-- How far SY_PM_READ has come, with the latch that it names, whose tick and second it keeps from its start on. -/
def pmProgress (s : State) (c : CmdRef) (e : List Byte) : BatchRun :=
  let b := batchProgress s c
  if b.good + b.bad = 0 then
    let late := pmIsLatest s e
    { b with
      latch := pmSequence s e, latchTick := if late then s.attrN .pmLatchTick else s.pm.prevTick
      latchTai := if late then s.attrN .pmTaiS else s.pm.prevTai }
  else b

/-- SY_PM_READ (R389, R390). -/
def execSyPmRead (c : CmdRef) (dma : BatchIn) (s : State) : Host.Outcome State Fault Refusal :=
  .next (serve 0x0B01 anyForm (batchNamed ++ [(48, 4)])
    (fun s sid e => batchChecks s sid e dma.bytes ++ [(!pmIsLatest s e && !pmIsPrevious s e, .eState)])
    (fun s c e =>
      let b := pmProgress s c e
      let l := batchInput s c e dma.bytes
      runBatch c dma.slice l (fieldAt e 40 8) (runPmItem b.rights b.latch) (batchItems e l)
        [(28, 4, b.latch), (32, 8, b.latchTick), (40, 8, b.latchTai)] b s)
    c s)

/-! ### Commits (R36, R147, R148) -/

/-- A table of SY_COMMIT has a staged generation. -/
def tableStaged (s : State) (bit : Nat) : Bool := if bit = 0 then flowStaged s else (s.table bit).staged

/-- SY_COMMIT (R36, R148): it waits for its boundary. -/
def execSyCommit (c : CmdRef) (s : State) : Host.Outcome State Fault Refusal :=
  .next (serve 0x0104 anyForm [(16, 12)]
    (fun s _ e =>
      let t := fieldAt e 16 8
      let m := fieldAt e 24 4
      [(m = 0 || decide (128 ≤ m), .eBadParam),
       ((s.clk.ticking && decide (t ≤ s.tick.toNat)) || (bitsBelow 7 m).any (fun b => commitPending s b || !tableStaged s b),
        .eState)])
    (fun s c e => ({ s with commits := s.commits ++ [⟨fieldAt e 16 8, fieldAt e 24 4, c⟩] }, .accept)) c s)

/-- A table swaps generation, and staging is loaded with a copy of the new active one (R255). -/
def swapTable (s : State) (bit : Nat) : State :=
  if bit = 0 then flowSwap s
  else
    let t := s.table bit
    s.setTable bit { active := t.staging, staging := t.staging, staged := false }

/-- The commits whose boundary has come take effect, and are answered. -/
def commitsDue (s : State) : State :=
  if s.clk.ticking then
    let due := s.commits.filter (fun k => decide (k.tick ≤ s.tick.toNat))
    due.foldl (fun s k => finish k.cmd .ok [tickFld s 16] ((bitsBelow 7 k.mask).foldl swapTable s))
      { s with commits := s.commits.filter (fun k => !decide (k.tick ≤ s.tick.toNat)) }
  else s

/-- GENERATION_SWAP (R36): a commit whose boundary has come takes effect. -/
def execGenerationSwap (s : State) : Host.Outcome State Fault Refusal := .next (commitsDue s)

end Sys2Proof.Machine
end

