-- ==== Sys2Proof/Machine/Mailbox.lean ====
section
/-!
DEFINITION. Sys2Proof/Machine/Mailbox.lean: BAR0 accesses, sessions, rings, events, gates and the SPI target (spec/04).
-/
namespace Sys2Proof.Machine

/-! ### Writes of single registers -/

/-- Gate numbers named by the set bits of a written word `w` of an array. -/
def gateBits (w : Nat) (v : Word) : List Nat := (bitsBelow 32 v.toNat).map (fun b => 32 * w + b)

/-- Adds gates to the stop requests of the array at an offset (R153, R154). -/
def gateStop (o : Nat) (v : Word) (s : State) : State :=
  let g := s.gates
  let put := fun (g : Gates) => { s with gates := { g with pending := true } }
  if v = 0 then s
  else if 0x2400 ≤ o ∧ o < 0x2600 then put { g with stopChC2l := nsUnion g.stopChC2l (gateBits ((o - 0x2400) / 4) v) }
  else if 0x2600 ≤ o ∧ o < 0x2800 then put { g with stopChL2c := nsUnion g.stopChL2c (gateBits ((o - 0x2600) / 4) v) }
  else if 0x2C80 ≤ o ∧ o < 0x2CC0 then
    put { g with stopGrpC2l := nsUnion g.stopGrpC2l (gateBits ((o - 0x2C80) / 4) v) }
  else if 0x2CC0 ≤ o ∧ o < 0x2D00 then
    put { g with stopGrpL2c := nsUnion g.stopGrpL2c (gateBits ((o - 0x2CC0) / 4) v) }
  else s

/-- Adds gates to the release requests of the array at an offset (R153, R154). -/
def gateRelease (o : Nat) (v : Word) (s : State) : State :=
  let g := s.gates
  let put := fun (g : Gates) => { s with gates := { g with pending := true } }
  if v = 0 then s
  else if 0x2800 ≤ o ∧ o < 0x2A00 then put { g with relChC2l := nsUnion g.relChC2l (gateBits ((o - 0x2800) / 4) v) }
  else if 0x2A00 ≤ o ∧ o < 0x2C00 then put { g with relChL2c := nsUnion g.relChL2c (gateBits ((o - 0x2A00) / 4) v) }
  else if 0x2D00 ≤ o ∧ o < 0x2D40 then
    put { g with relGrpC2l := nsUnion g.relGrpC2l (gateBits ((o - 0x2D00) / 4) v) }
  else if 0x2D40 ≤ o ∧ o < 0x2D80 then
    put { g with relGrpL2c := nsUnion g.relGrpL2c (gateBits ((o - 0x2D40) / 4) v) }
  else s

/-- GATE_GLOBAL.stop_all (Table 29 of 04). -/
def gateGlobal (v : Word) (s : State) : State :=
  if wbit v 0 then { s with gates := { s.gates with stopAll := true, pending := true } } else s

/-- PERF_CTRL (Table 5 of 04): freeze is stored, snapshot 1 asks for a snapshot at the next boundary. -/
def perfCtrlWrite (v : Word) (s : State) : State :=
  { s with bar := { s.bar with
      freeze := wbit v 0
      snapshotPending := s.bar.snapshotPending || wbit v 1 } }

/-- ALARM_MASK: vector 8 once for each bit that becomes unmasked while set (R126). Reserved bits stay 0 (R12). -/
def alarmMaskWrite (v : Word) (s : State) : State :=
  let new : Word := v &&& 0x3FFF
  let due := (List.range 14).filter (fun i => wbit s.bar.alarmMask i && !wbit new i && wbit s.bar.alarms i)
  due.foldl (fun s _ => msix 8 s) { s with bar := { s.bar with alarmMask := new } }

/-- A write that R128 ignores. -/
def cfgIgnore (i : Nat) (s : State) : State := s.setSess i { s.sess i with cfgIgnored := true }

/-- A session leaves state 0b01: it stops being a receiving session and drops its count of lost events (R150, R151). -/
def leaveOpen (i : Nat) (s : State) : State :=
  let s := s.setSess i { s.sess i with lost := 0 }
  pruneLog { s with bar := { s.bar with log := s.bar.log.map (fun ev =>
    { ev with receivers := nsDiff ev.receivers [i] }) } }

/-- A ring error (R129). -/
def ringError (i : Nat) (s : State) : State :=
  leaveOpen i (s.setSess i { s.sess i with state := .ringError, ringErrorBit := true })

/-- reset_session = 1 (R134): closing, with every command not started completed ABORTED_BY_RESET, also while firmware does not serve
(DESIGN CHOICE, log entry 176). -/
def sessionReset (i : Nat) (s : State) : State :=
  let s := leaveOpen i (s.setSess i { s.sess i with state := .closing })
  let waiting := (s.sess i).taken.filter Taken.unstarted
  drain i (waiting.foldl (fun s t => finish ⟨i, t.id⟩ .abortedByReset [] s) s)

/-- SESSION_CTRL (Table 9 of 04, R128, R133, R134). -/
def sessionCtrlWrite (i : Nat) (v : Word) (s : State) : State :=
  let x := s.sess i
  let s := s.setSess i { x with eventIrq := wbit v 3, rspIrq := wbit v 2 }
  -- ring_mode, only while enable is 0, and never 0 when spi_only is 1
  let s :=
    if wbit v 1 = x.onDie then
      if !wbit v 1 && s.power.straps.hostif then cfgIgnore i s else s
    else if x.enable || (!wbit v 1 && s.power.straps.hostif) then cfgIgnore i s
    else s.setSess i { s.sess i with onDie := wbit v 1 }
  let s :=
    if wbit v 0 then
      if x.state = .closed then
        s.setSess i { s.sess i with
          enable := true, state := .opened, cmdProducer := 0, cmdConsumer := 0, rspProducer := 0, rspConsumer := 0 }
      else s
    else if x.state ≠ .closed then cfgIgnore i s else s
  if wbit v 4 then sessionReset i s else s

/-- The ring bases, only while `enable` is 0; bits [11:0] are reserved (R128). -/
def ringBaseWrite (i reg : Nat) (v : Word) (s : State) : State :=
  let x := s.sess i
  if x.enable then cfgIgnore i s
  else
    let lo := fun (old : Nat) => old / 2 ^ 32 * 2 ^ 32 + v.toNat / 4096 * 4096
    let hi := fun (old : Nat) => v.toNat * 2 ^ 32 + old % 2 ^ 32
    match reg with
    | 0x08 => s.setSess i { x with cmdBase := lo x.cmdBase }
    | 0x0C => s.setSess i { x with cmdBase := hi x.cmdBase }
    | 0x10 => s.setSess i { x with rspBase := lo x.rspBase }
    | 0x14 => s.setSess i { x with rspBase := hi x.rspBase }
    | _ => s

/-- The doorbell (R128, R129, R130). An illegal value stands in `cmd_producer`, where an illegal `rsp_consumer` is not stored (DESIGN
CHOICE, log entry 175). -/
def doorbell (i : Nat) (v : Word) (s : State) : State :=
  let x := s.sess i
  let new := v.toNat % 512
  if x.state = .closed then cfgIgnore i s
  else
    let before := (x.cmdProducer + 512 - x.cmdConsumer) % 512
    let after := (new + 512 - x.cmdConsumer) % 512
    let s := s.setSess i { x with cmdProducer := new }
    if decide (256 < after) || decide (after < before) then ringError i s else s

/-- A write of `rsp_consumer` (R129, R131). On a closed session it is ignored without `cfg_ignored`, since R128 names `cmd_producer` alone
(DESIGN CHOICE, log entry 130). -/
def rspConsumer (i : Nat) (v : Word) (s : State) : State :=
  let x := s.sess i
  let new := v.toNat % 512
  if x.state = .closed then s
  else if x.ringUsed < (new + 512 - x.rspConsumer) % 512 then ringError i s
  else drain i (s.setSess i { x with rspConsumer := new })

/-- SESSION_STATUS: the four W1C bits (Table 10 of 04). -/
def sessionStatusWrite (i : Nat) (v : Word) (s : State) : State :=
  let x := s.sess i
  s.setSess i { x with
    cfgIgnored := x.cfgIgnored && !wbit v 31
    ringErrorBit := x.ringErrorBit && !wbit v 30
    eventPosted := x.eventPosted && !wbit v 29
    rspPosted := x.rspPosted && !wbit v 28 }

/-- A register of a session block. -/
def sessionWrite (i reg : Nat) (v : Word) (s : State) : State :=
  match reg with
  | 0x00 => sessionCtrlWrite i v s
  | 0x04 => sessionStatusWrite i v s
  | 0x08 | 0x0C | 0x10 | 0x14 => ringBaseWrite i reg v s
  | 0x18 => doorbell i v s
  | 0x24 => rspConsumer i v s
  | _ => s

/-- A word written through the ring window: pages 0 to 3 and 12 to 13, in on-die mode only (Table 13 of 04). -/
def windowWrite (o : Nat) (v : Word) (s : State) : State :=
  let x := s.sess s.bar.ringSession
  let page := s.bar.ringPage
  if x.onDie && (decide (page < 4) || page = 12 || page = 13) then
    s.setSess s.bar.ringSession { x with mem := memWrite x.mem (4096 * page + o) (leBytes 4 v.toNat) }
  else s

/-- A write of one aligned word of BAR0 by its access types (R9, R12, R122); a read-only or unassigned offset ignores
it. -/
def barWrite (o : Nat) (v : Word) (s : State) : State :=
  if o = 0x0010 then perfCtrlWrite v s
  else if o = 0x0020 then
    { s with bar := { s.bar with ringSession := v.toNat / 256 % 8, ringPage := v.toNat % 16 } }
  else if o = 0x0024 then
    { s with bar := { s.bar with
        spiFraming := s.bar.spiFraming && !wbit v 1, spiBusError := s.bar.spiBusError && !wbit v 0 } }
  else if 0x1000 ≤ o ∧ o < 0x1800 then sessionWrite ((o - 0x1000) / 256) (o % 256) v s
  else if o = 0x2E00 then gateGlobal v s
  else if 0x2400 ≤ o ∧ o < 0x2800 ∨ 0x2C80 ≤ o ∧ o < 0x2D00 then gateStop o v s
  else if 0x2800 ≤ o ∧ o < 0x2C00 ∨ 0x2D00 ≤ o ∧ o < 0x2D80 then gateRelease o v s
  else if 0xD000 ≤ o ∧ o < 0xE000 then windowWrite (o - 0xD000) v s
  else if 0xE000 ≤ o ∧ o < 0xF000 then
    { s with bar := { s.bar with imageWindow := memWrite s.bar.imageWindow (o - 0xE000) (leBytes 4 v.toNat) } }
  else if 0xF000 ≤ o ∧ o < 0xF0A0 then
    let k := (o - 0xF000) / 4
    flushMsix { s with pcie := { s.pcie with msixTab := Tab.put (if k % 4 = 3 then 1 else 0) s.pcie.msixTab k v } }
  else if o = 0xFF08 then { s with bar := { s.bar with alarms := s.bar.alarms &&& ~~~v } }
  else if o = 0xFF0C then alarmMaskWrite v s
  else s

/-- The offsets of registers with W1C bits: SPI_STATUS, the SESSION_STATUS words and ALARM_SUMMARY. -/
def isW1c (o : Nat) : Bool :=
  o = 0x0024 || (decide (0x1000 ≤ o) && decide (o < 0x1800) && o % 256 = 4) || o = 0xFF08

/-- Hardware sets W1C bits of the register at an offset. -/
def setW1c (o : Nat) (sets : Word) (s : State) : State :=
  if o = 0x0024 then
    { s with bar := { s.bar with
        spiFraming := s.bar.spiFraming || wbit sets 1, spiBusError := s.bar.spiBusError || wbit sets 0 } }
  else if o = 0xFF08 then (bitsBelow 14 sets.toNat).foldl (fun s i => setAlarm i s) s
  else
    let i := (o - 0x1000) / 256
    let x := s.sess i
    s.setSess i { x with
      cfgIgnored := x.cfgIgnored || wbit sets 31
      ringErrorBit := x.ringErrorBit || wbit sets 30
      eventPosted := x.eventPosted || wbit sets 29
      rspPosted := x.rspPosted || wbit sets 28 }

/-- A write of a word in a clock cycle in which hardware sets the bits `sets` of a W1C register: a bit that is set and cleared in the
same cycle remains set (R10). -/
def barWriteWith (o : Nat) (v sets : Word) (s : State) : State :=
  if isW1c o then setW1c o sets (barWrite o (v &&& ~~~sets) s) else barWrite o v s

/-- The effect of a read on the state: the lower halves latch the upper halves (R124). -/
def barReadEffect (o : Nat) (s : State) : State :=
  let hi := fun (t : Tick) => BitVec.ofNat 32 (t.toNat / 2 ^ 32)
  if o = 0x0008 then { s with bar := { s.bar with tickHi := hi s.tick } }
  else if o = 0x0014 then { s with bar := { s.bar with snapTickHi := hi s.bar.snapTick } }
  else if o = 0x2E04 then { s with bar := { s.bar with gateTickHi := hi s.bar.gateTick } }
  else s

/-! ### Error reporting (R157) -/

/-- Changes the error registers. -/
def updAer (f : Aer → Aer) (s : State) : State := { s with pcie := { s.pcie with aer := f s.pcie.aer } }

/-- The Unsupported Request Error enters the uncorrectable status. The first unmasked error takes pointer and header log; the header of
the request is open. -/
def aerLog (s : State) : State :=
  let a := s.pcie.aer
  let free : Bool := a.uncorStatus &&& ~~~a.uncorMask = 0
  let s := updAer (fun a => { a with uncorStatus := a.uncorStatus ||| 0x100000 }) s
  if wbit a.uncorMask 20 || !free then s
  else
    let d := s.draw
    updAer (fun a => { a with firstError := 20, headerLog := padTo 16 (Config.requestHeader d.1) }) d.2

/-- An error message is sent where Device Control enables its kind and the report of Unsupported Requests. -/
def aerMessage (kind : Nat) (s : State) : State :=
  if wbit s.pcie.aer.reports kind && wbit s.pcie.aer.reports 3 then s.emit (.errorMessage kind) else s

/-- An Unsupported Request (R122, R157): for a read with the error's severity non-fatal an Advisory Non-Fatal Error, which its mask keeps
out of the log; otherwise an uncorrectable one of its severity. -/
def unsupportedError (isWrite : Bool) (s : State) : State :=
  let a := s.pcie.aer
  let fatal := wbit a.uncorSeverity 20
  let seen := fun (k : Nat) => updAer (fun a => { a with deviceStatus := a.deviceStatus ||| BitVec.ofNat 32 (8 + 2 ^ k) })
  if !isWrite && !fatal then
    let s := seen 0 (updAer (fun a => { a with corStatus := a.corStatus ||| 0x2000 }) s)
    if wbit a.corMask 13 then s else aerMessage 0 (aerLog s)
  else
    let s := aerLog (seen (if fatal then 2 else 1) s)
    if wbit a.uncorMask 20 then s else aerMessage (if fatal then 2 else 1) s

/-- An access over PCIe that is not served: an Unsupported Request, reported per the PCI Express Base Specification (R122, R157,
R180). -/
def unsupportedAccess (o : Nat) (isWrite : Bool) (s : State) : State := unsupportedError isWrite (s.emit (.unsupported o isWrite))

/-- An access over PCIe is not served: the word lies in a gated block (R180), or the function is in D3hot, which takes configuration
requests alone (R157). -/
def pcieRefuses (s : State) (o : Nat) : Bool := s.pcie.d3hot || gatedOffset s o

/-- A PCIe read of one word: the answer, then its effect. -/
def pcieRead (o : Nat) (s : State) : State :=
  if pcieRefuses s o then unsupportedAccess o false s
  else barReadEffect o (s.emit (.readWord o (BitVec.ofNat 32 (barWord s o))))

/-! ### The rows -/

/-- BAR0_PARTIAL_ACCESS (R122): the access is not served and no register changes. -/
def execBar0PartialAccess (offset : Nat) (isWrite : Bool) (s : State) : Host.Outcome State Fault Refusal :=
  .next (unsupportedAccess offset isWrite s)

/-- REGISTER_WRITE (R9, R10, R122, R180): a PCIe write of one word. -/
def execRegisterWrite (offset : Nat) (value : RegWrite) (s : State) : Host.Outcome State Fault Refusal :=
  .next (if !barAlive s || !s.pcie.bar0Ready then s
    else if offset % 4 ≠ 0 || pcieRefuses s offset then unsupportedAccess offset true s
    else barWriteWith offset value.value value.sets s)

/-- TICK_LO_READ (R124). -/
def execTickLoRead (s : State) : Host.Outcome State Fault Refusal := .next (if barAlive s then pcieRead 0x0008 s else s)

/-- SNAP_TICK_LO_READ (R124). -/
def execSnapTickLoRead (s : State) : Host.Outcome State Fault Refusal := .next (if barAlive s then pcieRead 0x0014 s else s)

/-- GATE_TICK_LO_READ (R124). -/
def execGateTickLoRead (s : State) : Host.Outcome State Fault Refusal := .next (if barAlive s then pcieRead 0x2E04 s else s)

/-- PERF_FREEZE_WRITE (R125): a write of PERF_CTRL. -/
def execPerfFreezeWrite (value : Word) (s : State) : Host.Outcome State Fault Refusal :=
  .next (if barAlive s then perfCtrlWrite value s else s)

/-- PERF_SNAPSHOT_WRITE (R125): a write of PERF_CTRL with snapshot 1. -/
def execPerfSnapshotWrite (value : Word) (s : State) : Host.Outcome State Fault Refusal :=
  .next (if barAlive s then perfCtrlWrite (value ||| 2) s else s)

/-- ALARM_MASK_WRITE (R126). -/
def execAlarmMaskWrite (value : Word) (s : State) : Host.Outcome State Fault Refusal :=
  .next (if barAlive s then alarmMaskWrite value s else s)

/-- SESSION_CONFIG_WRITE (R128): SESSION_CTRL or a ring base. -/
def execSessionConfigWrite (session : Fin 8) (reg : Nat) (value : Word) (s : State) :
    Host.Outcome State Fault Refusal :=
  .next (if barAlive s then
    if reg = 0x00 then sessionCtrlWrite session value s else ringBaseWrite session reg value s else s)

/-- SESSION_OPEN (R133): SESSION_CTRL written with enable 1. -/
def execSessionOpen (session : Fin 8) (value : Word) (s : State) : Host.Outcome State Fault Refusal :=
  .next (if barAlive s then sessionCtrlWrite session (value ||| 1) s else s)

/-- SESSION_RESET (R134): SESSION_CTRL written with reset_session 1. -/
def execSessionReset (session : Fin 8) (value : Word) (s : State) : Host.Outcome State Fault Refusal :=
  .next (if barAlive s then sessionCtrlWrite session (value ||| 16) s else s)

/-- SESSION_CLOSE_END (R134): once nothing is owed or held, indices, `enable` and state return to 0. -/
def execSessionCloseEnd (session : Fin 8) (s : State) : Host.Outcome State Fault Refusal :=
  let x := s.sess session
  .next (if x.state = .closing && x.taken.isEmpty && x.hold.isEmpty then
    s.setSess session { x with
      state := .closed, enable := false, cmdProducer := 0, cmdConsumer := 0, rspProducer := 0, rspConsumer := 0 }
    else s)

/-- DOORBELL (R130). -/
def execDoorbell (session : Fin 8) (value : Word) (s : State) : Host.Outcome State Fault Refusal :=
  .next (if barAlive s then doorbell session value s else s)

/-- RSP_CONSUMER_WRITE (R131). -/
def execRspConsumerWrite (session : Fin 8) (value : Word) (s : State) : Host.Outcome State Fault Refusal :=
  .next (if barAlive s then rspConsumer session value s else s)

/-- The entry a take copies: from the on-die ring, or what DMA read (none: the read ended in a completion error). -/
def ringEntry (x : Session) (dma : Option (List Byte)) : Option (List Byte) :=
  if x.onDie then
    some ((List.range 64).map (fun k => Tab.get 0 x.mem (64 * (x.cmdConsumer % 256) + k)))
  else dma.map (padTo 64)

/-- A command can be taken from the session now (R130, R109, R129); ROM recovery serves the strapped path alone, by host-memory mode
over PCIe or by on-die mode over the SPI target (R95, R162). -/
def canTake (s : State) (i : Nat) : Bool :=
  let x := s.sess i
  (s.fwServing || s.boot.service = .rom) && x.state = .opened && x.cmdProducer ≠ x.cmdConsumer &&
  decide (x.taken.length < 256) && (x.onDie || (s.pcie.linkUp && s.pcie.busMaster && !s.pcie.d3hot)) &&
  (s.boot.service ≠ .rom || x.taken.isEmpty || i ≠ 0) &&
  (!s.boot.recovery || x.onDie = (s.power.straps.boot % 4 = 2))

/-- What is answered to an entry as it is taken (R136, R95, R138): E_UNKNOWN_CMD for an opcode that is not defined,
E_STATE in sessions 1 to 7 under ROM service, BUSY_DEFERRED for a bulk command while the load exceeds 85. -/
def onTake (i : Nat) (t : Taken) (s : State) : State :=
  let c : CmdRef := ⟨i, t.id⟩
  match cmdInfo (entryOpcode t.entry) with
  | none => finish c .eUnknownCmd [] s
  | some info =>
    if s.boot.service = .rom && i ≠ 0 then finish c .eState [] s
    else if info.cls = .bulk && decide (85 < s.attr .firmwareLoadPct) && s.boot.service = .firmware then
      interim c .busyDeferred .deferred s
    else s

/-- COMMAND_TAKE (R129, R130, R136). -/
def execCommandTake (session : Fin 8) (dma : Option (List Byte)) (s : State) : Host.Outcome State Fault Refusal :=
  .next (if canTake s session then
    let x := s.sess session
    match ringEntry x dma with
    | none => ringError session s
    | some e =>
      let t : Taken := ⟨s.bar.nextId, e, .waiting⟩
      let s := s.setSess session { x with cmdConsumer := (x.cmdConsumer + 1) % 512, taken := x.taken ++ [t] }
      onTake session t { s with bar := { s.bar with nextId := s.bar.nextId + 1 } }
    else s)

/-- FW_LOAD_UPDATE (R138): the load of the last 10 ms; fw_load_high when it rises above 85. -/
def execFwLoadUpdate (pct : Fin 101) (s : State) : Host.Outcome State Fault Refusal :=
  let old := s.attr .firmwareLoadPct
  .next (if s.boot.service = .firmware then
    let s := s.setAttr .firmwareLoadPct 0 0 pct.val
    if 85 < pct.val then
      let s := { s with bar := { s.bar with lowLoadRun := 0 } }
      if old ≤ 85 then setAlarm 11 s else s
    else { s with bar := { s.bar with lowLoadRun := s.bar.lowLoadRun + 1 } }
    else s)

/-- EVENT_LOG_DELIVERY (R151). -/
def execEventLogDelivery (s : State) : Host.Outcome State Fault Refusal := .next (deliverAll s)

/-- GATE_STOP_WRITE (R153): a word of a STOP array. -/
def execGateStopWrite (offset : Nat) (value : Word) (s : State) : Host.Outcome State Fault Refusal :=
  .next (if barAlive s then gateStop offset value s else s)

/-- GATE_RELEASE_WRITE (R153): a word of a RELEASE array. -/
def execGateReleaseWrite (offset : Nat) (value : Word) (s : State) : Host.Outcome State Fault Refusal :=
  .next (if barAlive s then gateRelease offset value s else s)

/-- GATE_STOP_ALL (Table 29 of 04): a write of GATE_GLOBAL. -/
def execGateStopAll (value : Word) (s : State) : Host.Outcome State Fault Refusal :=
  .next (if barAlive s then gateGlobal value s else s)

/-- The released set after the requests of the past tick: a stop wins over a release (R156). -/
def gatesAfter (released rel stop : List Nat) (all : Bool) : List Nat :=
  if all then [] else nsDiff (nsUnion released rel) stop

/-- The gates change at the boundary of a tick (R154, Table 30; R669): GATE_TICK takes the tick, and `pending` clears. -/
def gateChangeAt (tick : Tick) (s : State) : State :=
  let g := s.gates
  if g.pending then
    { s with
      gates := {
        chC2l := gatesAfter g.chC2l g.relChC2l g.stopChC2l g.stopAll
        chL2c := gatesAfter g.chL2c g.relChL2c g.stopChL2c g.stopAll
        grpC2l := gatesAfter g.grpC2l g.relGrpC2l g.stopGrpC2l g.stopAll
        grpL2c := gatesAfter g.grpL2c g.relGrpL2c g.stopGrpL2c g.stopAll }
      bar := { s.bar with gateTick := tick } }
  else s

/-- The gates at the present boundary. -/
def gateBoundary (s : State) : State := gateChangeAt s.tick s

/-- GATE_CHANGE_BOUNDARY (R154): the boundary that ends the present tick n, so that of tick n + 1; none before tick 0 (R669). -/
def execGateChangeBoundary (s : State) : Host.Outcome State Fault Refusal :=
  .next (if s.clk.ticking then gateChangeAt (s.tick + 1) s else s)

/-- Writes whole words from an address upward over the SPI target (R10, R159, R160). An address that advances past 0xFFFF goes on at 0
(DESIGN CHOICE, log entry 131). -/
def spiWords : Nat → List (List Byte) → List Word → State → State
  | _, [], _, s => s
  | o, w :: t, sets, s =>
    let s :=
      if w.length < 4 then { s with bar := { s.bar with spiFraming := true } }
      else if gatedOffset s (o % 65536) then { s with bar := { s.bar with spiBusError := true } }
      else barWriteWith (o % 65536) (BitVec.ofNat 32 (leNat w)) (sets.headD 0) s
    spiWords (o + 4) t sets.tail s

/-- SPI_WRITE_FRAME (R159, R160): byte 0 is 0x02, bytes 1 and 2 the address, data from byte 3. -/
def execSpiWriteFrame (frame : SpiWrite) (s : State) : Host.Outcome State Fault Refusal :=
  let o := beNat (bytesAt frame.bytes 1 2)
  let data := frame.bytes.drop 3
  .next (if !barAlive s || byteAt frame.bytes 0 ≠ 0x02 then s
    else if o % 4 ≠ 0 then { s with bar := { s.bar with spiFraming := true } }
    else spiWords o (chunks data.length 4 data) frame.sets s)

/-- Reads words from an address upward over the SPI target: the bytes sent, and the state after. -/
def spiReadWords : Nat → Nat → State → List Byte × State
  | 0, _, s => ([], s)
  | n + 1, o, s =>
    if gatedOffset s (o % 65536) then
      let r := spiReadWords n (o + 4) { s with bar := { s.bar with spiBusError := true } }
      (leBytes 4 0xFFFFFFFF ++ r.1, r.2)
    else
      let w := leBytes 4 (barWord s (o % 65536))
      let r := spiReadWords n (o + 4) (barReadEffect (o % 65536) s)
      (w ++ r.1, r.2)

/-- A frame that ended inside a word sets `framing_error` (R160). -/
def frameEnd (bytes : Nat) (s : State) : State :=
  if bytes % 4 = 0 then s else { s with bar := { s.bar with spiFraming := true } }

/-- SPI_READ_FRAME (R159, R160): a frame of so many data bytes; a word that the frame does not complete is discarded. It is not served
while `HSPI_MISO` is flagged (R619). -/
def execSpiReadFrame (address bytes : Nat) (s : State) : Host.Outcome State Fault Refusal :=
  .next (if !barAlive s || bitOf (s.attrN .pinsFault) 12 then s
    else if address % 4 ≠ 0 then { s with bar := { s.bar with spiFraming := true } }
    else
      let r := spiReadWords (bytes / 4) address s
      frameEnd bytes (r.2.emit (.spiData r.1)))

end Sys2Proof.Machine
end

