-- ==== Sys2Proof/Machine/Deframer.lean ====
section
/-!
DEFINITION. Sys2Proof/Machine/Deframer.lean: the way of released codewords through the deframer: the overhead parser, the hold or status
stage, the tributary sluice, and the demapping of groups (R321 and R322 of spec/09, R336 to R344 of spec/10, R379 to R383 of spec/11, R402
to R407 of spec/12).
-/
namespace Sys2Proof.Machine

/-! ### Instants (R321, R343, R344) -/

/-- The clock by which an overhead codeword is parsed. -/
def HeldCw.parseAt (w : HeldCw) : Nat := w.release + 648

/-- The clock at which a codeword's payload enters the sluice: past the frame hold of 1,728 clocks, or the status stage of 81, then the
alignment and overhead stage and the slot demultiplexer. -/
def HeldCw.sluiceAt (w : HeldCw) : Nat := w.release + (if w.low then 81 else 1728) + 648 + 578

/-- The clock at which it leaves the tributary sluice. -/
def HeldCw.leaveAt (w : HeldCw) : Nat := w.sluiceAt + 43

/-- A codeword is the overhead codeword of its block and has not been parsed. -/
def HeldCw.unparsed (w : HeldCw) : Bool := w.index % 126 = 0 && w.ok.isNone

/-! ### The overhead parser (R339 to R343) -/

/-- The mfas of a frame of a port, where it is known. -/
def frameMfas (x : Line) (frame : Nat) : Option Nat :=
  match x.held.find? (fun w => w.frame = frame && w.index = 0) with
  | some w => w.mfas
  | none => (x.contents.find? (fun c => c.frame = frame)).bind (·.mfas)

/-- The fields of a block's overhead are read, or its runs are broken. -/
def readOverhead (p frame k : Nat) (b : List Byte) (s : State) : State :=
  let s := if k = 0 then frameBegins p frame b s else s
  let s :=
    if overheadOk s p k b then
      let s := if k = 0 then readBlock0 p b s else s
      (List.range 32).foldl (fun s j =>
        readSlot p (32 * k + j) (b01 (bitOf (fieldAt b 64 4) j)) (fieldAt b (96 + j) 1) (fieldAt b (128 + 4 * j) 4) s) s
    else
      let s := (if k = 0 then breakBlock0 p s else s).count .alfOhRejects p
      (List.range 32).foldl (fun s j => breakSlot p (32 * k + j) s) s
  if k = 0 then readGcc p (overheadOk s p k b) b s else s

/-- A held codeword has been parsed. -/
def markParsed (p : Nat) (w : HeldCw) (ok : Bool) (s : State) : State :=
  let x := s.line p
  let mfas := x.mfasRef.map (fun r => (r + x.mfasFrames) % 256)
  s.setLine p { x with held := x.held.map (fun v =>
    if v.frame = w.frame && v.index = w.index then { v with ok := some ok, mfas := if w.index = 0 then mfas else none } else v) }

/-- What a frame's overhead puts under replacement, or takes from it, in low-latency mode is for the next frame (R321). -/
def noteLag (p : Nat) (w : HeldCw) (before : List Nat) (s : State) : State :=
  let after := replacedSlots s p
  if w.low && before ≠ after then
    s.setLine p { s.line p with lags := (w.frame, nsDiff after before, nsDiff before after) :: (s.line p).lags }
  else s

/-- The parser acts on an overhead codeword: its fields, adoption, and at the last block of the frame dPLM. -/
def parseHeld (p : Nat) (w : HeldCw) (s : State) : State :=
  let k := w.index / 126
  if !(s.conv p).rxIn then markParsed p w false s
  else
    let before := replacedSlots s p
    let ok := overheadOk s p k w.bytes
    let s := markParsed p w ok (readOverhead p w.frame k w.bytes s)
    let s := (groupList s).foldl (adopt (frameMfas (s.line p) w.frame)) s
    noteLag p w before (settle (if k + 1 = modeSlots w.mode / 32 then plmJudge p s else s))

/-! ### Slot content (R336, R371) -/

/-- Content of block `k` so far: the payload codewords that follow its overhead codeword without a gap. -/
def Content.reach (c : Content) (k : Nat) : Nat :=
  ((List.range 125).takeWhile (fun j => c.cws.any (fun w => w.1 = 126 * k + 1 + j))).length

/-- A byte of a slot in a frame, and whether the sluice has replaced it. -/
def Content.slotByte (c : Content) (slot i : Nat) : Byte × Bool :=
  match c.cws.find? (fun w => w.1 = 126 * (slot / 32) + 1 + i / 32) with
  | some w => (w.2.1.getD (32 * (i % 32) + slot % 32) 0, w.2.2.contains slot)
  | none => (0, true)

/-- The zero bits of a byte. -/
def zeroBits (b : Byte) : Nat := (List.range 8).countP (fun i => !b.getLsbD i)

/-- The zero bits that a slot's payload in a frame came with. -/
def Content.slotZeros (c : Content) (slot : Nat) : Nat :=
  ((List.range 4000).map (fun i => zeroBits (c.slotByte slot i).1)).sum

/-- dAIS of a slot on a frame's payload (Table 3 of 11): three frames in a row that are judged. A block that was rejected breaks the run. -/
def aisSlot (p : Nat) (c : Content) (s : State) (i : Nat) : State :=
  let x := s.line p
  let r := Tab.get {} x.slots i
  let run := if r.aisFrame + 1 = c.frame then r else { r with aisIn := 0, aisOut := 0 }
  let ones := decide (c.slotZeros i ≤ 32)
  let r := { run with aisIn := runNext ones run.aisIn, aisOut := runNext (!ones) run.aisOut, aisFrame := c.frame }
  let s := s.setLine p { x with slots := Tab.put {} x.slots i r }
  if (rxGroupOf s (128 * p + i)).isNone || x.frozen then s
  else if 3 ≤ r.aisIn then declareSlot p i 5 true s
  else if 3 ≤ r.aisOut then declareSlot p i 5 false s
  else s

/-- The payload of a block has passed: dAIS of its slots. -/
def aisBlock (p k : Nat) (c : Content) (s : State) : State :=
  if c.good.contains k && c.reach k = 125 then settle (((List.range 32).map (fun j => 32 * k + j)).foldl (aisSlot p c) s)
  else s

/-! ### Demapping (R402, R406, R407) -/

/-- A change of the receive active set whose frame has come, given a test of its mfas and tick: the stream is demapped with the new set,
and a change that is not hitless breaks it. -/
def Group.takeSwitches (due : Nat × List Nat × Bool × Nat → Bool) (x : Group) : Group :=
  match (x.switches.filter due).getLast? with
  | none => x
  | some w =>
    let y := { x with demapSet := w.2.1, switches := x.switches.filter (fun v => !due v) }
    if (x.switches.filter due).all (fun v => v.2.2.1) then y else y.breakStream

/-- The stream goes on at the first byte of the frame with an mfas. -/
def Group.toFrame (y : Nat) (x : Group) : Group :=
  { x.takeSwitches (fun w => decide ((y + 256 - w.1) % 256 < 128)) with rxPos := some (y, 0) }

/-- The content of a port's frame with an mfas. -/
def Line.contentOf (x : Line) (y : Nat) : Option Content := x.contents.find? (fun c => c.mfas = some y)

/-- How many bytes of a member have come in the frame with an mfas. -/
def memberReach (s : State) (y m : Nat) : Nat :=
  match (s.line (memberPort m)).contentOf y with
  | some c => 32 * c.reach (memberSlot m / 32)
  | none => 0

/-- The bytes that every member of a set has in that frame. -/
def setReach (s : State) (y : Nat) : List Nat → Nat
  | [] => 0
  | m :: t => t.foldl (fun n m => min n (memberReach s y m)) (memberReach s y m)

/-- The group stream bytes of a frame from byte `a` to byte `b` of each member, in order, each with whether it was replaced (R402). -/
def streamBytes (s : State) (y : Nat) (set : List Nat) (a b : Nat) : List (Byte × Bool) :=
  ((List.range (b - a)).map (a + ·)).flatMap (fun i => set.map (fun m =>
    match (s.line (memberPort m)).contentOf y with
    | some c => c.slotByte (memberSlot m) i
    | none => (0, true)))

/-- Where the stream of a set stands in the frame with an mfas. -/
def streamPlace (s : State) (y : Nat) (set : List Nat) : StreamPlace :=
  let cs := [0, 1].map (fun p => (s.line p).contentOf y)
  { set := set, modes := cs.map (fun c => (c.map (·.mode)).getD 0), enters := cs.map (fun c => (c.map (·.enter)).getD 0) }

/-- Bytes that are not delivered in a whole packet (R404). -/
def delinDiscard (g n : Nat) (s : State) : State := if n = 0 then s else s.count .grpPmDelinDiscardBytes g 0 n

/-- What delineation passes over is counted. -/
def tidyGroup (g : Nat) (s : State) : State :=
  match s.group g with
  | none => s
  | some x =>
    let r := tidyFrom x.rxq x
    delinDiscard g r.1 (s.setGroup g (some r.2))

/-- A group takes the bytes that its members have, frame by frame. -/
def demapOn (s : State) (g : Nat) : Nat → State
  | 0 => s
  | n + 1 =>
    match s.group g with
    | none => s
    | some x =>
      match x.rxPos with
      | none => s
      | some (y, a) =>
        let b := setReach s y x.demapSet
        if b ≤ a then s
        else
          let bytes := streamBytes s y x.demapSet a b
          let r := Group.feed (streamPlace s y x.demapSet) (a * x.demapSet.length) bytes x
          let r := (r.1, if b = 4000 then r.2.toFrame ((y + 1) % 256) else { r.2 with rxPos := some (y, b) })
          demapOn (tidyGroup g (delinDiscard g r.1 (s.setGroup g (some r.2)))) g n

/-- A port's frame with an mfas holds every payload codeword. -/
def Line.wholeFrame (x : Line) (y : Nat) : Bool :=
  match x.contentOf y with
  | some c => (List.range (modeSlots c.mode / 32)).all (fun k => c.reach k = 125)
  | none => false

/-- Content of the frame with mfas `y` has come on a port: the groups with members there go on. A stream that waits for a frame which the
port will not complete breaks, and goes on with this one. -/
def demapPort (p y : Nat) (s : State) (e : Nat × Group) : State :=
  if !e.2.demapSet.any (fun m => memberPort m = p) then s
  else
    let x := match e.2.rxPos with
      | some (z, _) => if z = y || (s.line p).wholeFrame z then e.2 else e.2.breakStream.toFrame y
      | none => e.2.toFrame y
    demapOn (tidyGroup e.1 (s.setGroup e.1 (some x))) e.1 4

/-- The differential delay of a group for an mfas, once every slot of the receive active set has its arrival instant (R406). -/
def skewOf (s : State) (x : Group) (y : Nat) : Option Nat :=
  let at' := x.rx.map (fun m =>
    let l := s.line (memberPort m)
    let k := memberSlot m / 32
    match l.arrivals.find? (fun a => a.1 = y && a.2.1 = k), l.contentOf y with
    | some a, some c => some ((a.2.2 : Int) - 1728 * (k : Int) / (modeSlots c.mode / 32 : Nat))
    | _, _ => none)
  match at'.reduceOption with
  | [] => none
  | t :: r => if at'.all (·.isSome) then some ((r.foldl max t) - (r.foldl min t)).toNat else none

/-- `skew_clocks` and its greatest value of the second follow a new measure. -/
def skewMeasure (y : Nat) (s : State) (e : Nat × Group) : State :=
  match skewOf s e.2 y with
  | none => s
  | some d =>
    let s := s.updGroup e.1 (fun x => { x with skewNow := some d })
    (s.setAttr .grpSkewClocks e.1 0 (min 65535 d : Nat)).countMax .grpPmSkewClocksMax e.1 0 (min (2 ^ 32 - 1) d)

/-! ### The sluice (R321, R379 to R381) -/

/-- The slots that the sluice replaces in a codeword's payload: those of the present instant. In low-latency mode what a frame's own
overhead has changed is left out for that frame. -/
def sluiceSlots (s : State) (p : Nat) (w : HeldCw) : List Nat :=
  let own := ((s.line p).lags.filter (fun l => decide (w.frame ≤ l.1))).foldl
    (fun r l => nsUnion (nsDiff r l.2.1) l.2.2) (replacedSlots s p)
  nsUnion own (replacedSlots s p .noOverhead)

/-- A codeword past the sluice joins its frame's content. -/
def joinContent (p : Nat) (w : HeldCw) (s : State) : State :=
  let x := s.line p
  let new : Content := { frame := w.frame, stamp := w.stamp, mode := w.mode, enter := w.enter, mfas := none }
  let c := match x.contents with
    | c :: _ => if c.frame = w.frame then c else new
    | [] => new
  let c := if w.index % 126 = 0 then
      { c with
        mfas := if w.index = 0 then w.mfas else c.mfas
        good := if w.ok = some true then w.index / 126 :: c.good else c.good }
    else { c with cws := c.cws ++ [(w.index, w.bytes, sluiceSlots s p w)] }
  let k := w.index / 126
  let arrivals := match c.mfas with
    | some y => if w.index % 126 = 1 then ((y, k, w.leaveAt) :: x.arrivals).take 16 else x.arrivals
    | none => x.arrivals
  s.setLine p { x with
    held := x.held.filter (fun v => !(v.frame = w.frame && v.index = w.index))
    contents := (c :: x.contents.filter (fun d => d.frame ≠ c.frame)).take 4
    arrivals := arrivals
    lags := x.lags.filter (fun l => decide (w.frame ≤ l.1)) }

/-- A codeword's payload passes the sluice: its frame's content, the differential delay, the groups, and dAIS at the end of its block. -/
def sluicePass (p : Nat) (w : HeldCw) (s : State) : State :=
  let s := joinContent p w s
  if w.index % 126 = 0 then s
  else
    match (s.line p).contents with
    | [] => s
    | c :: _ =>
      let s := match c.mfas with
        | some y =>
          let s := if w.index % 126 = 1 then (groupList s).foldl (skewMeasure y) s else s
          (groupList s).foldl (demapPort p y) s
        | none => s
      if w.index % 126 = 125 then aisBlock p (w.index / 126) c s else s

/-- What the deframer does by itself up to a clock: instant, whether it parses, port, codeword. -/
def deframerDue (now : Nat) (s : State) : List (Nat × Bool × Nat × HeldCw) :=
  ([0, 1].flatMap (fun p => (s.line p).held.flatMap (fun w =>
    (if w.unparsed then [(w.parseAt, true, p, w)] else []) ++ [(w.sluiceAt, false, p, w)]))).filter (fun e => decide (e.1 ≤ now))

/-- The earliest of them. -/
def deframerNext (now : Nat) (s : State) : Option (Nat × Bool × Nat × HeldCw) :=
  (deframerDue now s).foldl (fun b e => match b with
    | none => some e
    | some c => if e.1 < c.1 then some e else some c) none

/-- So many steps of the deframer. -/
def deframerRun (now : Nat) : Nat → State → State
  | 0, s => s
  | n + 1, s =>
    match deframerNext now s with
    | none => s
    | some (_, true, p, w) => deframerRun now n (parseHeld p w s)
    | some (_, false, p, w) => deframerRun now n (sluicePass p w s)

/-- The deframer has done all that was due by a clock. -/
def sluiceTo (now : Nat) (s : State) : State :=
  deframerRun now (2 * ((s.line 0).held.length + (s.line 1).held.length)) s

/-! ### Commands -/

/-- A released codeword enters the deframer. -/
def holdCodeword (p : Nat) (w : Codeword) (s : State) : State :=
  let x := s.line p
  s.setLine p { x with held := x.held ++ [{
    frame := w.frame, stamp := w.stamp, mode := w.mode, enter := w.enter, index := w.index
    bytes := bitsBytes 1024 w.decided, release := w.release, low := w.low }] }

/-- CODEWORD_RELEASE (R311, R320 to R322, R325, R327): the next codeword due is released and enters the deframer; the last of a frame ends
the frame's evidence for dFECD. -/
def execCodewordRelease (port : Fin 2) (phi : Fin 1728) (faults : List Nat) (s : State) :
    Host.Outcome State Fault Refusal :=
  let s := hopperTo port (s.now phi) (sluiceTo (s.now phi) s)
  .next (match releaseCodeword port (s.now phi) faults s with
    | none => s
    | some (w, s) =>
      let s := holdCodeword port w s
      if w.last then settle (fecdFrame port s) else s)

/-- OVERHEAD_PARSE (R339 to R343): at clock `phi` of the present tick the parser acts on the overhead codeword of a block of the frame with
a stamp, which it does within 648 clocks of its release. -/
def execOverheadParse (port : Fin 2) (block : Fin 4) (phi : Fin 1728) (stamp : Nat) (s : State) :
    Host.Outcome State Fault Refusal :=
  let s := sluiceTo (s.now phi) s
  .next (match (s.line port).held.find? (fun w => w.unparsed && w.stamp = stamp && w.index = 126 * block.val &&
      decide (w.release ≤ s.now phi)) with
    | some w => parseHeld port w s
    | none => s)

/-- What the sluice has passed long ago meets no frame of the other port any more, since an mfas comes again every 256 ticks (R406;
DEDUCED, log entry 184). -/
def dropStale (p : Nat) (s : State) : State :=
  let x := s.line p
  s.setLine p { x with
    contents := x.contents.filter (fun c => decide (s.tick.toNat ≤ c.stamp + 64))
    arrivals := x.arrivals.filter (fun a => decide (s.now 0 ≤ a.2.2 + 64 * 1728)) }

/-- The deframing of groups at a boundary: a change of set that no frame has reached in 8 ticks is made at once, and a stream to which
nothing flows breaks. -/
def demapBoundary (s : State) (e : Nat × Group) : State :=
  let late := e.2.takeSwitches (fun w => decide (w.2.2.2 + 8 ≤ s.tick.toNat))
  let x := if e.2.switches.any (fun w => decide (w.2.2.2 + 8 ≤ s.tick.toNat)) then { late.breakStream with rxPos := none } else e.2
  let flows := x.demapSet.any (fun m => s.attr .mrState (memberPort m) = 8 || !(s.line (memberPort m)).held.isEmpty)
  let x := if flows then x else { x.breakStream with rxPos := none, skewNow := none }
  tidyGroup e.1 (s.setGroup e.1 (some x))

end Sys2Proof.Machine
end

