-- ==== Sys2Proof/Machine/Receive.lean ====
section
/-!
DEFINITION. Sys2Proof/Machine/Receive.lean: delivery of the packets of the group streams (R403 to R405 of spec/12).
-/
namespace Sys2Proof.Machine

/-- The line ingress stamp of a header at byte `q` of a frame's group stream (R451). -/
def lineIngressStamp (s : State) (pl : StreamPlace) (q : Nat) : Nat :=
  let p := memberPort (pl.set.getD (q % pl.set.length) 0)
  roundStamp (pl.enters.getD p 0 + positionTerm pl.set (fun p => pl.modes.getD p 0) q - s.attrN .lineTsRxPlanePs p * 100000000)

/-- A delivered packet: to the channel its header names if that channel is in this group (R405), refused when descriptors run
short (R419), to the cipher when a cipher header begins it, else past it. On the AZ6400-CN no packet is decrypted (R458). -/
def deliverPacket (g : Nat) (h packet : List Byte) (q : Nat) (pl : StreamPlace) (s : State) : State :=
  let c := encChannel h
  if s.attrN .chGroup c ≠ g then s.count .grpPmUnknownChannelPackets g
  else
    let k : Pkt := { id := s.nextPkt, chan := c, bytes := packet, tick := s.tick.toNat, crypt := encCrypt h, dir := 1,
                     place := 64 + memberPort (pl.set.getD (q % pl.set.length) 0), stamp := lineIngressStamp s pl q }
    let s := { s with nextPkt := s.nextPkt + 1 }
    let k := if encCrypt h && !s.isCN then k else recogniseDecrypted s k
    if refused s (pktClass s k) then breakGuarantee c 4 (stampDiscard k (s.count .chPmRefusedPackets c))
    else if encCrypt h && !s.isCN then updCipher (fun y => { y with entry := y.entry ++ [k] }) s
    else passStage k s

/-- One unit is taken from a group's stream: an idle is passed over, a packet delivered, anything else discarded. -/
def takeUnit (g : Nat) (x : Group) (u : List Byte × List Byte × Nat × StreamPlace) (s : State) : State :=
  let r := delineate x u.1
  let s := s.setGroup g (some (r.1.passBytes (8 + u.2.1.length)))
  let s :=
    if r.2 && encType u.1 = 0 then s
    else if r.2 && !u.2.1.isEmpty then deliverPacket g u.1 u.2.1 u.2.2.1 u.2.2.2 s
    else delinDiscard g (8 + u.2.1.length) s
  tidyGroup g s

/-- ENCAPSULATION_UNIT_RX (R404, R405): at clock `phi` of the present tick the next unit of a group's stream is delineated, which began at
byte `q` of its frame's group stream, `skip` bytes after the unit before it. -/
def execEncapsulationUnitRx (group : Fin 512) (skip : Nat) (header packet : List Byte) (q : Nat) (phi : Fin 1728) (s : State) :
    Host.Outcome State Fault Refusal :=
  let s := sluiceTo (s.now phi) s
  .next (match s.groupNow group with
    | none => s
    | some x =>
      match x.nextUnit with
      | none => s
      | some u =>
        if x.skipped = skip && u.1 = header && u.2.1 = packet && u.2.2.1 = q then takeUnit group x u s else s)

end Sys2Proof.Machine
end

