-- ==== Sys2Proof/Machine/Tick.lean ====
section
/-!
DEFINITION. Sys2Proof/Machine/Tick.lean: the wheel tick: written values that take effect, the 1PPS edge, the PM latch, and the work of a
tick boundary (R18 of spec/01, R182 to R186 of spec/05, R386 and R388 of spec/11).
-/
namespace Sys2Proof.Machine

/-! ### Written values (R18) -/

/-- A written value takes effect, with what follows from it in its chapter. -/
def takeEffect (a : Attr) (i j : Nat) (v : Int) (s : State) : State :=
  match a with
  | .fecMode => fecModeChange i v s
  | .convTestMode => testMode i v s
  | .fecTxInjectPeriod => (s.setAttr a i j v).setFec i { s.fec i with injectCount := 0 }
  | .laneIfType => ifTypeEffect i v s
  | .laneDormant => dormantEffect i v s
  | .perfCtrEvent | .perfCtrInstance | .perfCtrThreshold => perfZero i (s.setAttr a i j v)
  | .mrTiaIndexX => opcQueue (s.attrN .mrTiaCs i) (opcByteFrame (s.attrN .mrTiaRegX i) v.toNat) (s.setAttr a i j v)
  | .mrTiaIndexY => opcQueue (s.attrN .mrTiaCs i) (opcByteFrame (s.attrN .mrTiaRegY i) v.toNat) (s.setAttr a i j v)
  | .timRefPriority =>
    let s := if s.attr a i = 0 && v ≠ 0 then s.setRef i { s.ref i with served := false } else s
    s.setAttr a i j v
  | _ => s.setAttr a i j v

/-- Written values of which `due` holds take effect. A reset request waits for the reset it asks for. -/
def effectsDue (due : Nat → EffectTerm → Bool) (s : State) : State :=
  s.written.foldl (fun s e =>
    let a := Attr.ofKey e.1
    if due e.1 a.row.term && a ≠ .resetRequest then
      takeEffect a (e.1 / 65536 % 65536) (e.1 % 65536) e.2 { s with written := Tab.erase s.written e.1 }
    else s) s

/-- The values written before the present boundary with the term next tick take effect, those of a batch's items each by its item
(DESIGN CHOICE, log entry 181). -/
def effectBoundary (s : State) : State := effectsDue (fun k t => t = .nextTick && s.isDue k) s

/-- The second's values take effect (R18, R590). -/
def effectSecond (s : State) : State := effectsDue (fun _ t => t = .nextSecond) s

/-- A reset that was requested takes effect (R64, R65). -/
def resetDue (s : State) : State :=
  match requestPending s with
  | 0 => dropRequest s
  | 1 => warmReset 8 s
  | r => portResetDue (r - 2) s

/-- PENDING_WRITE_EFFECT (R18): what was written before the present boundary with the term next tick takes effect at it. -/
def execPendingWriteEffect (s : State) : Host.Outcome State Fault Refusal :=
  .next (if s.clk.ticking then effectBoundary s else s)

/-! ### Firmware ready -/

/-- Tick 0 has begun by the time firmware is ready (steps 6 and 7 of Table 3 of 05): where no boundary has shown it yet, it begins now,
and what was asked for before it acts at its boundary (R669). -/
def tickBegun (s : State) : State :=
  if s.clk.ticking || !s.power.xoGood then s else effectBoundary (perfCtrlBoundary (gateBoundary { tickZero s with fresh := [] }))

/-- FIRMWARE_READY (R86, R89, R152): the attempt has succeeded; recorded commands are answered; the first ready of a boot starts the
part, and one after a firmware reset takes up what waited. -/
def execFirmwareReady (k : BootIn) (s : State) : Host.Outcome State Fault Refusal :=
  .next (match s.boot.running with
    | none => s
    | some slot =>
      if !s.boot.bootWatchdog then s
      else
        let first := s.power.phase = .booting
        let s := tickBegun s
        let s := slotResult slot 1 { s with
          sealed := { s.sealed with failCount := 0, lastFailed := none }
          boot := { s.boot with
            service := .firmware, stage := if s.minimal then 5 else 4, bootWatchdog := false, millerWatchdog := true
            directReload := false
            reason := if s.minimal then s.boot.reason else if s.reverted then 7 else if s.boot.ranPreferred then 0 else 1 } }
        let s := answerRecorded s
        let s := if first then bootReady k s else 
          writeOwedRecords 1 (writeOwedRecords 0 (owedRestarts (if s.vault.erased.isEmpty then reportTrips s else s)))
        let s := { s with power := { s.power with phase := if s.minimal then .minimal else .active } }
        deliverAll (reportMinimal s))

/-! ### The PM latch (R386, R388) -/

/-- The present boundary is that of `pps_tick` for a 1PPS edge (R184), and its latch has not been made. -/
def latchDue (s : State) : Bool :=
  s.clk.ticking && !s.timing.latchDone &&
    (s.timing.latchOwed || (match edgeAhead s with | some o => edgeEarly o (tickUnits s) | none => false))

/-- The TAI second of the edge that a latch belongs to. -/
def latchSecond (s : State) : Nat :=
  if s.timing.latchOwed then secondsOf s.timing.tai
  else match s.timing.sets.getLast?, edgeAhead s with
    | some x, _ => x.2
    | none, some o => secondsOf (s.timing.tai + o)
    | none, none => secondsOf s.timing.tai

/-- The key is that of a PM counter. -/
def pmKey (k : Nat) : Bool := isPm (Attr.ofKey k)

/-- Every accumulator is copied to its latched value and set to 0; the values latched before stay in the other bank. -/
def latchCopy (s : State) : State :=
  { s with
    pm := { prev := s.attrs.filter (fun e => pmKey e.1), prevTick := s.attrN .pmLatchTick, prevTai := s.attrN .pmTaiS }
    attrs := s.acc.foldl (fun t e => Tab.put 0 t e.1 (e.2 : Int)) (s.attrs.filter (fun e => !pmKey e.1))
    acc := [] }

/-- The clipped samples of a port at a latch (R290, R388). -/
def clipLatch (p : Nat) (s : State) : State :=
  let x := s.tx p
  s.setTx p { x with clips := [], clipLast := x.clips, clipPrev := x.clipLast }

/-- One latch: what each chapter works out of the second, the copy, its sequence, tick and time, and the per-second events. -/
def pmLatch (s : State) : State :=
  let sec := latchSecond s
  let s := clipLatch 1 (clipLatch 0 (latchCopy (chipkillLatch (qualLatch 1 (qualLatch 0 s)))))
  let s := (s.bump .pmSequence).setAttr .pmLatchTick 0 0 s.tick.toNat
  let s := updTiming (fun t => { t with latchDone := true, latchOwed := false }) (s.setAttr .pmTaiS 0 0 sec)
  guaranteeLatch (cipherLatch (fecLatch 1 (fecLatch 0 s)))

/-- PM_LATCH (R386). -/
def execPmLatch (s : State) : Host.Outcome State Fault Refusal := .next (if latchDue s then pmLatch s else s)

/-! ### The 1PPS edge (R184, R590) -/

/-- The per-second work at an edge `o` units behind the present boundary, in a tick of `len` units. -/
def ppsEdge (k : PpsIn) (o len : Nat) (s : State) : State :=
  let sec := secondsOf (s.timing.tai + o)
  tarnishPps k.margins (bezelPps (timingEdge o len sec (effectSecond s)))

/-- PPS_EDGE (R184, R590): the edge of the present tick. Before tick 0 (R183) there is no boundary to measure it by: the counter
moves on to its next second. -/
def execPpsEdge (k : PpsIn) (s : State) : Host.Outcome State Fault Refusal :=
  .next (if !barAlive s then s
    else if !s.clk.ticking then
      let o := secondUnits - s.timing.tai % secondUnits
      let sec := secondsOf (s.timing.tai + o)
      let r := applySets sec (effectSecond s)
      advanceTai o (leapEdge sec r.1 r.2)
    else match edgeAhead s with
      | some o => if s.timing.ppsDone then s else ppsEdge k o (tickUnits s) s
      | none => s)

/-! ### The end of a tick -/

/-- The runs of dGSKEW at the end of a tick, on the differential delay that stands (Table 3 of 11). A group whose delay is not measured has
no run. -/
def skewRuns (s : State) (e : Nat × Group) : State :=
  s.updGroup e.1 (fun x => match x.skewNow with
    | none => { x with skewIn := 0, skewOut := 0 }
    | some d => { x with skewIn := runNext (decide (3456 < d)) x.skewIn, skewOut := runNext (decide (d ≤ 3240)) x.skewOut })

/-- The counts that the tick that ends adds to the accumulators and counters. -/
def tickEndCounts (k : TickIn) (s : State) : State :=
  let s := cipherTickEnd (perfCount k.perf (tickCounts s))
  let s := k.pcs.foldl (fun (s : State) (c : Nat × List Nat) =>
    if decide (c.1 < 64) && ifConfigured s c.1 then
      let bad := c.2.filter (fun n => n ≠ 0)
      let good := bad.filter rsCorrects
      ((s.count .laneIfFecCorrectedCw c.1 0 good.length).count .laneIfFecUncorrectableCw c.1 0 (bad.length - good.length)).count
        .laneIfFecSymbolErrors c.1 0 good.sum
    else s) s
  memoryTick k.filled ((groupList s).foldl skewRuns s)

/-- The tick counter returns to 0: the count rises by one (R183), and the time counter by the tick's length. -/
def tickAdvance (s : State) : State :=
  { advanceTai (tickUnits s) (updTiming (fun t => { t with
      latchOwed := t.ppsDone && !t.latchDone, ppsDone := false, latchDone := false }) s) with tick := s.tick + 1 }

/-- A tick begins: with what its DRAM accesses will meet, and while the loops coast with what it will add to the time counter (R173). -/
def tickBegin (k : TickIn) (s : State) : State :=
  { s with clk := { s.clk with coastUnits := coastCount k.coast k.count s }, memory := { s.memory with link := k.link } }

/-- A tick ends: the deframer has done what was due, an edge it holds that has not been served, its counts, and the count of the next tick. -/
def tickEnd (k : TickIn) (s : State) : State :=
  let s := hopperTo 1 (s.now 1728) (hopperTo 0 (s.now 1728) s)
  let s := frameLeft 1 (frameLeft 0 (sluiceTo (s.now 1727) s))
  let s := match edgeAhead s with
    | some o => if s.timing.ppsDone then s else ppsEdge k.pps o (tickUnits s) s
    | none => s
  tickBegin k (tickAdvance (tamperTick k.tamper (noteBack (tickEndCounts k (ppsPulses (tickUnits s) s)))))

/-! ### The work of a boundary -/

/-- dGSKEW at a boundary (Table 3 of 11). -/
def skewDeclare (s : State) (e : Nat × Group) : State :=
  if 2 ≤ e.2.skewIn then s.setAttr .grpDefect e.1 0 64
  else if 16 ≤ e.2.skewOut then s.setAttr .grpDefect e.1 0 0
  else s

/-- Whatever the tables, the memory and the cipher stage do at a boundary. -/
def storeBoundary (s : State) : State :=
  leaveSelfRefresh (settleBoundary (rebuildEnd (unwrapsDue (cipherBoundary (cipherDeadline (keyErase (deletesDue (editsDue (commitsDue s)))))))))

/-- The millrace of a line port at a boundary: raw indicators, gain, acquisition, retuning, a snapshot at its reference. -/
def millraceBoundary (k : TickIn) (s : State) (p : Nat) : State :=
  let w := k.powers.getD p (-10000, -10000)
  let s := gainBoundary p true w.2 (gainBoundary p false w.1 (mrRaw p w.1 w.2 s))
  let s := tiaStart p true (tiaStart p false (tiaSettle p true (tiaSettle p false s)))
  snapStart p (noteSettings p (cdRetune p (acqStart p (lockCheck p (regainTimeout p (acqTimeout p (acqAdvance p s)))))))

/-- A capture armed for a tick starts at its boundary; one armed for dLOS or dLOL is triggered by their declaration (R217). -/
def captureBoundary (old : Nat) (s : State) (p : Nat) : State :=
  let s := match (s.conv p).cap.armed with
    | some c => if c.trigger = 1 && c.tick = s.tick.toNat then capNotify p 1 s else s
    | none => s
  let s := captureStart p s
  if [0, 1].any (fun b => bitOf (declaredOf s p) b && !bitOf old b) then capNotify p 2 s else s

/-- Defects at a boundary: every declared state first, then what is reported (R376, R377), then client ingress faults (R384); an
interface with a lane out of state 4 reports one (R443, R445). -/
def defectsBoundary (k : TickIn) (s : State) : State :=
  let old := [0, 1].map (declaredOf s)
  let s := (groupList s).foldl skewDeclare ((List.range 64).foldl (fun s l => laneReloads l s) s)
  let s := settle ([0, 1].foldl (fun s p => defectBoundary p (freezeBoundary p s)) s)
  let s := [0, 1].foldl (fun s p => captureBoundary (old.getD p 0) s p) s
  (List.range 64).foldl (fun s l =>
    if !ifConfigured s l then s
    else
      let out : Bool := (ifLanes s l).any (fun n => laneState s n ≠ 4)
      let was := (s.cif l).lockOut
      let told := k.faults.find? (fun f => f.1 = l)
      let s := s.setCif l { s.cif l with lockOut := out }
      cifBoundary l (out || was || told.isSome) ((out && was) || told.any (·.2)) s) s

/-- The converters of a line port at a boundary: trims move a step, rotation steps that begin again or are abandoned (R195, R202). -/
def convBoundary (s : State) (p : Nat) : State :=
  noteSettings p (captureMark p (fgAdvance p (rotRestart p (rotTempCheck p (trimStep p s)))))

/-- The transmit side, decoder and feathering of a line port at a boundary. -/
def lineBoundary (s : State) (p : Nat) : State :=
  let s := fecHitEnd p (fecBoundary p (modeBoundary p s))
  txBoundary p (beaconLost p (beaconTx p (featherBoundary p s)))

/-- A packet leaves by an interface (R382, R417, R450): counted, and stamped at the lane and instant at which its first bit past the SFD
crosses the balls. That is its place among the bytes of the tick, at `ps` picoseconds a byte, and the delay of the transmit PCS, which is
open to the model like the lane. An interface that sends local fault or is dormant sends none. -/
def egressPut (l ps at' : Nat) (k : Pkt) (s : State) : State :=
  if laneState s l = 1 then stampDiscard k (s.count .chPmDormantDiscards k.chan)
  else if channelL2c s k.chan || localFault s l then stampDiscard k s
  else
    let s := (s.count .laneIfTxPackets l).emit (.clientPacket l k.chan k.id k.bytes)
    let s := s.setCif l ((s.cif l).putFrame at' k.bytes)
    if k.record.isEmpty then s
    else
      let d := s.draw
      let n := (ifLanes s l).length
      stampLeave k (l + d.1 % n) (stampAt s (ps * (at' + 8) + d.1 / n)) d.2

/-- The packets of a tick: credits grow, groups map, interfaces send (R417) by their PCS (R25). -/
def packetBoundary (s : State) : State :=
  let s := growCredits s
  let s := (groupList s).foldl mapGroup s
  (List.range 64).foldl (fun s l =>
    if !ifConfigured s l then s
    else
      let room := if s.attr .laneIfType l = 1 then 64000 else 128000
      pcsBoundary (schedule (.egress l) room (fun left k s => egressPut l (1280000 / room) (room - left.toNat) k s) s) l) s

/-- What the line ports, the groups and the client interfaces declare at a boundary, while the datapath runs. Shedding comes before the breaks
of the tick (R425). -/
def declareBoundary (k : TickIn) (s : State) : State :=
  let s := (groupList s).foldl (fun s e => groupBoundary s e.1) s
  defectsBoundary k ([0, 1].foldl (millraceBoundary k) (storeBoundary s))

/-- What they then do and send. -/
def datapathBoundary (s : State) : State :=
  let s := [0, 1].foldl convBoundary s
  let s := (groupList s).foldl demapBoundary (dropStale 1 (dropStale 0 ([0, 1].foldl lineBoundary s)))
  [0, 1].foldl (fun s p => txFrame p s) (packetBoundary s)

/-- What the timing port, tarnish and the performance counters do at a boundary. -/
def houseBoundary (k : TickIn) (s : State) : State :=
  let s := outputsBoundary (dayClose (applySteps (alignBoundary (timingBoundary k.loopY k.refs s))))
  tarnishStep (settleEnd (planStart (perfDumps (snsoutBoundary s))))

/-- The work of a tick boundary in its order: the latch, what was written, resets that are due, then each part; a reference fails at the
boundary at which its port declares a defect (R572). A reset or entry to
sealed standby ends it. In coasting the defect states stand and are counted in its ticks (R391). In a boot without a good `XO_IN` tick 0 never begins, and a boundary does this work all the same (R669; DESIGN
CHOICE, log entry 173). -/
def boundaryWork (k : TickIn) (s : State) : State :=
  let s := if latchDue s then pmLatch s else s
  let s := effectBoundary (perfCtrlBoundary (gateBoundary { s with fresh := [] }))
  let s := portResetEnd s
  let s := resetDue (if s.attr .powerSealRequest = 1 then sealedEntry false s else s)
  if !s.clk.ticking then s
  else
    if s.power.phase = .active then opcDrain (noteTick (clearTick (datapathBoundary (houseBoundary k (declareBoundary k s)))))
    else
      let s := houseBoundary k s
      opcDrain (if s.attr .clockPllCoast = 1 then settle s else s)

/-- TICK_BOUNDARY (R182, R183, R669): the tick counter returns to 0. The first boundary begins tick 0; each later one ends a tick.
Nothing ticks while the rails or the clocks are down. -/
def execTickBoundary (k : TickIn) (s : State) : Host.Outcome State Fault Refusal :=
  .next (if !barAlive s then s
    else boundaryWork k (if s.clk.ticking then tickEnd k s else tickZero s))

end Sys2Proof.Machine
end

