-- ==== Sys2Proof/Machine/Dispatch.lean ====
section
/-!
DEFINITION. Sys2Proof/Machine/Dispatch.lean: the meaning of each command, one arm per constructor of Instr.
-/
namespace Sys2Proof.Machine

/-- The effect of a command on everything but the queue. -/
def exec (i : Instr) (s : State) : Host.Outcome State Fault Refusal :=
  match i with
  | .powerUp straps railsOk => Sys2Proof.Machine.execPowerUp straps railsOk s
  | .railStartFailure => Sys2Proof.Machine.execRailStartFailure s
  | .sequencerRetry straps railsOk => Sys2Proof.Machine.execSequencerRetry straps railsOk s
  | .txoExpiry good => Sys2Proof.Machine.execTxoExpiry good s
  | .romStart norOk => Sys2Proof.Machine.execRomStart norOk s
  | .firmwareReady k => Sys2Proof.Machine.execFirmwareReady k s
  | .firmwareSelfCheckFail => Sys2Proof.Machine.execFirmwareSelfCheckFail s
  | .bootWatchdogExpiry => Sys2Proof.Machine.execBootWatchdogExpiry s
  | .holdBetweenAttemptsEnd norOk => Sys2Proof.Machine.execHoldBetweenAttemptsEnd norOk s
  | .millerWatchdogExpiry norOk => Sys2Proof.Machine.execMillerWatchdogExpiry norOk s
  | .coldReset lowNs straps railsOk => Sys2Proof.Machine.execColdReset lowNs straps railsOk s
  | .warmReset src => Sys2Proof.Machine.execWarmReset src s
  | .portReset port => Sys2Proof.Machine.execPortReset port s
  | .portResetEnd port => Sys2Proof.Machine.execPortResetEnd port s
  | .pcieReset => Sys2Proof.Machine.execPcieReset s
  | .pcieLinkUp => Sys2Proof.Machine.execPcieLinkUp s
  | .powerDown => Sys2Proof.Machine.execPowerDown s
  | .sealedDomainPowerLoss => Sys2Proof.Machine.execSealedDomainPowerLoss s
  | .sealedStandbyEntry byBall => Sys2Proof.Machine.execSealedStandbyEntry byBall s
  | .sealedWake byPorst straps railsOk => Sys2Proof.Machine.execSealedWake byPorst straps railsOk s
  | .thermalLevel3Trip site => Sys2Proof.Machine.execThermalLevel3Trip site s
  | .housekeepingRound r => Sys2Proof.Machine.execHousekeepingRound r s
  | .syImageBegin c => Sys2Proof.Machine.execSyImageBegin c s
  | .syImageWrite c => Sys2Proof.Machine.execSyImageWrite c s
  | .syImageVerify c => Sys2Proof.Machine.execSyImageVerify c s
  | .imageVerifyDone norOk => Sys2Proof.Machine.execImageVerifyDone norOk s
  | .syImageActivatePreferred c => Sys2Proof.Machine.execSyImageActivatePreferred c s
  | .syImageActivateHitless c => Sys2Proof.Machine.execSyImageActivateHitless c s
  | .activationPauseStart => Sys2Proof.Machine.execActivationPauseStart s
  | .activationReady pauseUs => Sys2Proof.Machine.execActivationReady pauseUs s
  | .activationRevert norOk => Sys2Proof.Machine.execActivationRevert norOk s
  | .syImageConfirm c => Sys2Proof.Machine.execSyImageConfirm c s
  | .syBootRetry c => Sys2Proof.Machine.execSyBootRetry c s
  | .bar0PartialAccess offset isWrite => Sys2Proof.Machine.execBar0PartialAccess offset isWrite s
  | .registerWrite offset value => Sys2Proof.Machine.execRegisterWrite offset value s
  | .tickLoRead => Sys2Proof.Machine.execTickLoRead s
  | .snapTickLoRead => Sys2Proof.Machine.execSnapTickLoRead s
  | .gateTickLoRead => Sys2Proof.Machine.execGateTickLoRead s
  | .perfFreezeWrite value => Sys2Proof.Machine.execPerfFreezeWrite value s
  | .perfSnapshotWrite value => Sys2Proof.Machine.execPerfSnapshotWrite value s
  | .perfCtrlBoundary => Sys2Proof.Machine.execPerfCtrlBoundary s
  | .alarmMaskWrite value => Sys2Proof.Machine.execAlarmMaskWrite value s
  | .sessionConfigWrite session reg value => Sys2Proof.Machine.execSessionConfigWrite session reg value s
  | .sessionOpen session value => Sys2Proof.Machine.execSessionOpen session value s
  | .sessionReset session value => Sys2Proof.Machine.execSessionReset session value s
  | .sessionCloseEnd session => Sys2Proof.Machine.execSessionCloseEnd session s
  | .doorbell session value => Sys2Proof.Machine.execDoorbell session value s
  | .rspConsumerWrite session value => Sys2Proof.Machine.execRspConsumerWrite session value s
  | .commandTake session dma => Sys2Proof.Machine.execCommandTake session dma s
  | .fwLoadUpdate pct => Sys2Proof.Machine.execFwLoadUpdate pct s
  | .eventLogDelivery => Sys2Proof.Machine.execEventLogDelivery s
  | .syNop c => Sys2Proof.Machine.execSyNop c s
  | .syAttrRead c => Sys2Proof.Machine.execSyAttrRead c s
  | .syAttrWrite c => Sys2Proof.Machine.execSyAttrWrite c s
  | .syAttrBatch c dma => Sys2Proof.Machine.execSyAttrBatch c dma s
  | .syCommit c => Sys2Proof.Machine.execSyCommit c s
  | .generationSwap => Sys2Proof.Machine.execGenerationSwap s
  | .pendingWriteEffect => Sys2Proof.Machine.execPendingWriteEffect s
  | .gateStopWrite offset value => Sys2Proof.Machine.execGateStopWrite offset value s
  | .gateReleaseWrite offset value => Sys2Proof.Machine.execGateReleaseWrite offset value s
  | .gateStopAll value => Sys2Proof.Machine.execGateStopAll value s
  | .gateChangeBoundary => Sys2Proof.Machine.execGateChangeBoundary s
  | .spiWriteFrame frame => Sys2Proof.Machine.execSpiWriteFrame frame s
  | .spiReadFrame address bytes => Sys2Proof.Machine.execSpiReadFrame address bytes s
  | .tickBoundary k => Sys2Proof.Machine.execTickBoundary k s
  | .ppsEdge k => Sys2Proof.Machine.execPpsEdge k s
  | .pmLatch => Sys2Proof.Machine.execPmLatch s
  | .xoInLoss => Sys2Proof.Machine.execXoInLoss s
  | .dividerRampStep domain => Sys2Proof.Machine.execDividerRampStep domain s
  | .trimInterpolation port => Sys2Proof.Machine.execTrimInterpolation port s
  | .cellRecordWrite port core => Sys2Proof.Machine.execCellRecordWrite port core s
  | .rotationStepStart port core => Sys2Proof.Machine.execRotationStepStart port core s
  | .shadowPhaseMove port core => Sys2Proof.Machine.execShadowPhaseMove port core s
  | .shadowingEnd port core m => Sys2Proof.Machine.execShadowingEnd port core m s
  | .spareTrimSolved port core t => Sys2Proof.Machine.execSpareTrimSolved port core t s
  | .rotationSolveTimeout port core => Sys2Proof.Machine.execRotationSolveTimeout port core s
  | .confirmCompareEnd port core m => Sys2Proof.Machine.execConfirmCompareEnd port core m s
  | .foregroundCalStart port badChannels => Sys2Proof.Machine.execForegroundCalStart port badChannels s
  | .foregroundCalEnd port transmit results => Sys2Proof.Machine.execForegroundCalEnd port transmit results s
  | .syConvCalibrate c => Sys2Proof.Machine.execSyConvCalibrate c s
  | .syConvDiag c => Sys2Proof.Machine.execSyConvDiag c s
  | .convDiagDone port r => Sys2Proof.Machine.execConvDiagDone port r s
  | .syCaptureArm c => Sys2Proof.Machine.execSyCaptureArm c s
  | .syCaptureTrigger c => Sys2Proof.Machine.execSyCaptureTrigger c s
  | .syCaptureRead c => Sys2Proof.Machine.execSyCaptureRead c s
  | .syCaptureDisarm c => Sys2Proof.Machine.execSyCaptureDisarm c s
  | .captureStart port => Sys2Proof.Machine.execCaptureStart port s
  | .captureDone port codes => Sys2Proof.Machine.execCaptureDone port codes s
  | .tiaStepStart port yPair => Sys2Proof.Machine.execTiaStepStart port yPair s
  | .tiaStepSettle port yPair => Sys2Proof.Machine.execTiaStepSettle port yPair s
  | .timingLoopUpdate port ratio phase settled => Sys2Proof.Machine.execTimingLoopUpdate port ratio phase settled s
  | .cdCandidateStep port score => Sys2Proof.Machine.execCdCandidateStep port score s
  | .cdRetune port => Sys2Proof.Machine.execCdRetune port s
  | .receivedFrame port f => Sys2Proof.Machine.execReceivedFrame port f s
  | .eqBlockUpdate port sail block error solve => Sys2Proof.Machine.execEqBlockUpdate port sail block error solve s
  | .acquisitionStart port => Sys2Proof.Machine.execAcquisitionStart port s
  | .acqPhaseComplete port offsetKhz => Sys2Proof.Machine.execAcqPhaseComplete port offsetKhz s
  | .acqPhaseTimeout port => Sys2Proof.Machine.execAcqPhaseTimeout port s
  | .reacquireTimeout port => Sys2Proof.Machine.execReacquireTimeout port s
  | .qualityMeasureUpdate port q => Sys2Proof.Machine.execQualityMeasureUpdate port q s
  | .syMrReacquire c => Sys2Proof.Machine.execSyMrReacquire c s
  | .syMrTable c dma => Sys2Proof.Machine.execSyMrTable c dma s
  | .syMrSnapshot c => Sys2Proof.Machine.execSyMrSnapshot c s
  | .syMrSnapshotRead c => Sys2Proof.Machine.execSyMrSnapshotRead c s
  | .snapshotStart port => Sys2Proof.Machine.execSnapshotStart port s
  | .snapshotDone port samples => Sys2Proof.Machine.execSnapshotDone port samples s
  | .syLineMode c => Sys2Proof.Machine.execSyLineMode c s
  | .syLineModeCancel c => Sys2Proof.Machine.execSyLineModeCancel c s
  | .modeSwitch port => Sys2Proof.Machine.execModeSwitch port s
  | .syTxTable c dma => Sys2Proof.Machine.execSyTxTable c dma s
  | .codewordEntry port phi stamp index => Sys2Proof.Machine.execCodewordEntry port phi stamp index s
  | .cogCodewordStop port phi stops => Sys2Proof.Machine.execCogCodewordStop port phi stops s
  | .codewordDeadline port phi => Sys2Proof.Machine.execCodewordDeadline port phi s
  | .codewordRelease port phi faults => Sys2Proof.Machine.execCodewordRelease port phi faults s
  | .cogRetirement port => Sys2Proof.Machine.execCogRetirement port s
  | .fecModeChange port => Sys2Proof.Machine.execFecModeChange port s
  | .fecModeHitEnd port => Sys2Proof.Machine.execFecModeHitEnd port s
  | .overheadParse port block phi stamp => Sys2Proof.Machine.execOverheadParse port block phi stamp s
  | .gccMPacketReceived port packet whole => Sys2Proof.Machine.execGccMPacketReceived port packet whole s
  | .gccUPacketReceived port packet whole => Sys2Proof.Machine.execGccUPacketReceived port packet whole s
  | .syGccSend c dma => Sys2Proof.Machine.execSyGccSend c dma s
  | .syGccReceive c => Sys2Proof.Machine.execSyGccReceive c s
  | .syGccGate c => Sys2Proof.Machine.execSyGccGate c s
  | .syFeatherRequest c => Sys2Proof.Machine.execSyFeatherRequest c s
  | .syFeatherWake c => Sys2Proof.Machine.execSyFeatherWake c s
  | .featherTimeout port => Sys2Proof.Machine.execFeatherTimeout port s
  | .featherCountdownEnd port => Sys2Proof.Machine.execFeatherCountdownEnd port s
  | .featherRecordsWritten port => Sys2Proof.Machine.execFeatherRecordsWritten port s
  | .beaconWordTx port => Sys2Proof.Machine.execBeaconWordTx port s
  | .beaconWordRx port word => Sys2Proof.Machine.execBeaconWordRx port word s
  | .beaconLost port => Sys2Proof.Machine.execBeaconLost port s
  | .wakeStart port => Sys2Proof.Machine.execWakeStart port s
  | .syPmRead c dma => Sys2Proof.Machine.execSyPmRead c dma s
  | .memberRemoval group => Sys2Proof.Machine.execMemberRemoval group s
  | .memberReturn group => Sys2Proof.Machine.execMemberReturn group s
  | .resizeSwitch group => Sys2Proof.Machine.execResizeSwitch group s
  | .encapsulationUnitRx group skip header packet q phi => Sys2Proof.Machine.execEncapsulationUnitRx group skip header packet q phi s
  | .syGroupCreate c dma => Sys2Proof.Machine.execSyGroupCreate c dma s
  | .syGroupDelete c dma => Sys2Proof.Machine.execSyGroupDelete c dma s
  | .syGroupAddMembers c dma => Sys2Proof.Machine.execSyGroupAddMembers c dma s
  | .syGroupHold c dma => Sys2Proof.Machine.execSyGroupHold c dma s
  | .syGroupRelease c dma => Sys2Proof.Machine.execSyGroupRelease c dma s
  | .syGroupRemove c dma => Sys2Proof.Machine.execSyGroupRemove c dma s
  | .laneSweepDone lane results => Sys2Proof.Machine.execLaneSweepDone lane results s
  | .laneLocked lane => Sys2Proof.Machine.execLaneLocked lane s
  | .laneLockLost lane => Sys2Proof.Machine.execLaneLockLost lane s
  | .relockAttemptTimeout lane => Sys2Proof.Machine.execRelockAttemptTimeout lane s
  | .relockRetry lane => Sys2Proof.Machine.execRelockRetry lane s
  | .laneDormantEntry lane => Sys2Proof.Machine.execLaneDormantEntry lane s
  | .laneDormantExit lane => Sys2Proof.Machine.execLaneDormantExit lane s
  | .syLaneSweep c => Sys2Proof.Machine.execSyLaneSweep c s
  | .syLaneTableWrite c dma => Sys2Proof.Machine.execSyLaneTableWrite c dma s
  | .syLaneTableRead c => Sys2Proof.Machine.execSyLaneTableRead c s
  | .syEyeScan c => Sys2Proof.Machine.execSyEyeScan c s
  | .eyeScanDone lane counts => Sys2Proof.Machine.execEyeScanDone lane counts s
  | .syEyeRead c => Sys2Proof.Machine.execSyEyeRead c s
  | .syTsRead c => Sys2Proof.Machine.execSyTsRead c s
  | .clientPacketRx lane frame ps n1 n2 => Sys2Proof.Machine.execClientPacketRx lane frame ps n1 n2 s
  | .flowLookupComplete n1 n2 => Sys2Proof.Machine.execFlowLookupComplete n1 n2 s
  | .syMemFill c => Sys2Proof.Machine.execSyMemFill c s
  | .memFillDone => Sys2Proof.Machine.execMemFillDone s
  | .scrubRead n => Sys2Proof.Machine.execScrubRead n s
  | .syMemScrub c => Sys2Proof.Machine.execSyMemScrub c s
  | .memScrubDone bursts => Sys2Proof.Machine.execMemScrubDone bursts s
  | .syFlow c dma bursts => Sys2Proof.Machine.execSyFlow c dma bursts s
  | .settleDone => Sys2Proof.Machine.execSettleDone s
  | .syMemAccess c dma bursts => Sys2Proof.Machine.execSyMemAccess c dma bursts s
  | .cipherPacketEntry phi => Sys2Proof.Machine.execCipherPacketEntry phi s
  | .saLoadDone phi sa b0 b1 b2 => Sys2Proof.Machine.execSaLoadDone phi sa b0 b1 b2 s
  | .cipherPacketDone phi cogs => Sys2Proof.Machine.execCipherPacketDone phi cogs s
  | .cipherDeadline => Sys2Proof.Machine.execCipherDeadline s
  | .drbgReseed wheel => Sys2Proof.Machine.execDrbgReseed wheel s
  | .entropyFail samples => Sys2Proof.Machine.execEntropyFail samples s
  | .drbgExhausted wheel => Sys2Proof.Machine.execDrbgExhausted wheel s
  | .entropyRetest phi samples => Sys2Proof.Machine.execEntropyRetest phi samples s
  | .wheelReset phi wheel => Sys2Proof.Machine.execWheelReset phi wheel s
  | .wheelKatDone phi wheel passed => Sys2Proof.Machine.execWheelKatDone phi wheel passed s
  | .sySaCreate c => Sys2Proof.Machine.execSySaCreate c s
  | .sySaDelete c => Sys2Proof.Machine.execSySaDelete c s
  | .sySaRead c => Sys2Proof.Machine.execSySaRead c s
  | .syCipherRecords c => Sys2Proof.Machine.execSyCipherRecords c s
  | .syCipherWheelReset c phi => Sys2Proof.Machine.execSyCipherWheelReset c phi s
  | .syRootGenerate c => Sys2Proof.Machine.execSyRootGenerate c s
  | .syRootImport c => Sys2Proof.Machine.execSyRootImport c s
  | .syRootErase c => Sys2Proof.Machine.execSyRootErase c s
  | .syKeySlotLoad c => Sys2Proof.Machine.execSyKeySlotLoad c s
  | .syKeySlotErase c => Sys2Proof.Machine.execSyKeySlotErase c s
  | .syKeySlotExport c => Sys2Proof.Machine.execSyKeySlotExport c s
  | .keyEraseEffect => Sys2Proof.Machine.execKeyEraseEffect s
  | .syKeyStore c dma => Sys2Proof.Machine.execSyKeyStore c dma s
  | .contextRebuild => Sys2Proof.Machine.execContextRebuild s
  | .syPkGenerate c dma => Sys2Proof.Machine.execSyPkGenerate c dma s
  | .syPkImport c dma => Sys2Proof.Machine.execSyPkImport c dma s
  | .syPkSign c dma => Sys2Proof.Machine.execSyPkSign c dma s
  | .syPkAgree c dma => Sys2Proof.Machine.execSyPkAgree c dma s
  | .syPkVerify c dma => Sys2Proof.Machine.execSyPkVerify c dma s
  | .syPkErase c dma => Sys2Proof.Machine.execSyPkErase c dma s
  | .pkOperationEnd => Sys2Proof.Machine.execPkOperationEnd s
  | .tamperTrip sensors => Sys2Proof.Machine.execTamperTrip sensors s
  | .tamperEpochAdvance => Sys2Proof.Machine.execTamperEpochAdvance s
  | .syTamperSetPolicy c => Sys2Proof.Machine.execSyTamperSetPolicy c s
  | .syTamperSealPolicies c => Sys2Proof.Machine.execSyTamperSealPolicies c s
  | .syTamperClearLatch c present => Sys2Proof.Machine.execSyTamperClearLatch c present s
  | .syTamperUnlock c => Sys2Proof.Machine.execSyTamperUnlock c s
  | .syTamperEraseNow c => Sys2Proof.Machine.execSyTamperEraseNow c s
  | .refFailed look => Sys2Proof.Machine.execRefFailed look s
  | .refGood look => Sys2Proof.Machine.execRefGood look s
  | .refinPulseEdge ref ps => Sys2Proof.Machine.execRefinPulseEdge ref ps s
  | .holdOffExpiry => Sys2Proof.Machine.execHoldOffExpiry s
  | .wtrExpiry ref => Sys2Proof.Machine.execWtrExpiry ref s
  | .esmcPduRx lane frame => Sys2Proof.Machine.execEsmcPduRx lane frame s
  | .esmcTimeout lane => Sys2Proof.Machine.execEsmcTimeout lane s
  | .esmcEventPdu lane => Sys2Proof.Machine.execEsmcEventPdu lane s
  | .ageingDayClose => Sys2Proof.Machine.execAgeingDayClose s
  | .syRefSelect c => Sys2Proof.Machine.execSyRefSelect c s
  | .syTimeSet c => Sys2Proof.Machine.execSyTimeSet c s
  | .timeSetApply => Sys2Proof.Machine.execTimeSetApply s
  | .syTimeStep c => Sys2Proof.Machine.execSyTimeStep c s
  | .timeStepApply => Sys2Proof.Machine.execTimeStepApply s
  | .syTimeGet c => Sys2Proof.Machine.execSyTimeGet c s
  | .syOutAlign c => Sys2Proof.Machine.execSyOutAlign c s
  | .outAlignDone => Sys2Proof.Machine.execOutAlignDone s
  | .syHoldoverTableWrite c dma => Sys2Proof.Machine.execSyHoldoverTableWrite c dma s
  | .syHoldoverTableRead c => Sys2Proof.Machine.execSyHoldoverTableRead c s
  | .snsSequenceStart => Sys2Proof.Machine.execSnsSequenceStart s
  | .snsConversionEnd v => Sys2Proof.Machine.execSnsConversionEnd v s
  | .snsShortFlag level => Sys2Proof.Machine.execSnsShortFlag level s
  | .snsShortRelease level => Sys2Proof.Machine.execSnsShortRelease level s
  | .sySnsTrigger c => Sys2Proof.Machine.execSySnsTrigger c s
  | .syHkSnapshot c => Sys2Proof.Machine.execSyHkSnapshot c s
  | .outputFault output look => Sys2Proof.Machine.execOutputFault output look s
  | .pinRetryWindow output => Sys2Proof.Machine.execPinRetryWindow output s
  | .pinRecovered output => Sys2Proof.Machine.execPinRecovered output s
  | .syPinRetry c => Sys2Proof.Machine.execSyPinRetry c s
  | .tarnishPlanStart => Sys2Proof.Machine.execTarnishPlanStart s
  | .tarnishSettleEnd => Sys2Proof.Machine.execTarnishSettleEnd s
  | .tarnishStep => Sys2Proof.Machine.execTarnishStep s
  | .ledgerWrite => Sys2Proof.Machine.execLedgerWrite s
  | .syTarnishPlan c => Sys2Proof.Machine.execSyTarnishPlan c s
  | .syPerfDump c => Sys2Proof.Machine.execSyPerfDump c s
  | .sealedDomainStart => Sys2Proof.Machine.execSealedDomainStart s
  | .bar0Ready => Sys2Proof.Machine.execBar0Ready s
  | .pcieConfigurationWrite device msixEnable funcMask d3hot => Sys2Proof.Machine.execPcieConfigurationWrite device msixEnable funcMask d3hot s
  | .entropyStartUpTestsPass start => Sys2Proof.Machine.execEntropyStartUpTestsPass start s
  | .codewordLoadEnd port phi cog => Sys2Proof.Machine.execCodewordLoadEnd port phi cog s
  | .idleCogRetry port phi cogs => Sys2Proof.Machine.execIdleCogRetry port phi cogs s

end Sys2Proof.Machine
end

