-- ==== Sys2Proof/Safety.lean ====
section
/-!
DEFINITION. Sys2Proof/Safety.lean: the terms that claims use: what a command gives, when a served command is judged by its own
conditions alone, and what a safe run is.
-/
namespace Sys2Proof.Machine

/-- The command answers a next state of which `P` holds. -/
def Gives (i : Instr) (s : State) (P : State → Prop) : Prop := ∃ t, exec i s = .next t ∧ P t

/-- The entry of a taken command of the opcode that is served now and passes every condition of its header (R96, R118, R135, R140,
R141): what is left is the command's own conditions. `named` gives the bytes that its request names. -/
def ready (op : Nat) (named : List (Nat × Nat)) (c : CmdRef) (s : State) : Option (List Byte) :=
  match findTaken s c, cmdInfo op with
  | some t, some info =>
    if served s c.session && entryOpcode t.entry = op && mayStart s c t &&
        (firstFail (headerChecks s c.session info named t.entry)).isNone then some t.entry else none
  | _, _ => none

/-- A run is safe as long as its steps answer next states: it takes so many steps and none of them stops. -/
def Safe : Nat → State → Prop
  | 0, _ => True
  | n + 1, s => ∃ t, step s = .next t ∧ Safe n t

/-- Before tick 0 the tick count is 0 (R183). -/
def State.clockOk (s : State) : Prop := s.clk.ticking = false → s.tick = 0

/-- DRAM is in its canonical form. -/
def State.dramOk (s : State) : Prop := Memory.wf s.memory

end Sys2Proof.Machine
end

