-- ==== Sys2Proof/WellFormed.lean ====
section
/-!
DEFINITION. Sys2Proof/WellFormed.lean: the checks on the operands of a command that its constructor's type does not make. A command
that fails them names no register, holds no whole record, or shows more than its kind of evidence has.
-/
namespace Sys2Proof

open Sys2Proof.Machine

/-- An offset of an aligned word in the 64 KiB of BAR0 (R122). -/
def barOffset (o : Nat) : Bool := decide (o < 65536) && o % 4 = 0

/-- An instant within a tick of 1.28 us, in ps (R7). -/
def inTick (ps : Nat) : Bool := decide (ps < 1280000)

/-- A command reference names one of the eight sessions (spec/04). -/
def cmdOk (c : CmdRef) : Bool := decide (c.session < 8)

/-- An error pattern covers a burst of ten devices of 8 bytes, or is none (R462). -/
def burstOk (b : Burst) : Bool := b.err.isEmpty || b.err.length = 80

/-- A tick shows two line ports, interfaces, candidates and counters that exist. -/
def tickInOk (k : TickIn) : Bool :=
  (k.powers.isEmpty || k.powers.length = 2) && k.faults.all (fun x => decide (x.1 < 64)) &&
  k.pcs.all (fun x => decide (x.1 < 64) && x.2.all (fun n => decide (n ≤ 544))) && k.refs.all (fun x => decide (x.1 < 14)) &&
  k.perf.all (fun x => decide (x.1 < 256)) && (k.pps.margins.isEmpty || k.pps.margins.length = 48)

/-- The operands of a command are ones the block can meet. -/
def Instr.wellFormed : Instr → Bool
  | .powerUp _ _ => true
  | .railStartFailure => true
  | .sequencerRetry _ _ => true
  | .txoExpiry _ => true
  | .romStart _ => true
  | .firmwareReady _ => true
  | .firmwareSelfCheckFail => true
  | .bootWatchdogExpiry => true
  | .holdBetweenAttemptsEnd _ => true
  | .millerWatchdogExpiry _ => true
  | .coldReset _ _ _ => true
  | .warmReset _ => true
  | .portReset _ => true
  | .portResetEnd _ => true
  | .pcieReset => true
  | .pcieLinkUp => true
  | .powerDown => true
  | .sealedDomainPowerLoss => true
  | .sealedStandbyEntry _ => true
  | .sealedWake _ _ _ => true
  | .thermalLevel3Trip _ => true
  | .housekeepingRound r => r.channels.length = 38 && r.channels.all (fun c => c.length = 16)
  | .syImageBegin c => cmdOk c
  | .syImageWrite c => cmdOk c
  | .syImageVerify c => cmdOk c
  | .imageVerifyDone _ => true
  | .syImageActivatePreferred c => cmdOk c
  | .syImageActivateHitless c => cmdOk c
  | .activationPauseStart => true
  | .activationReady _ => true
  | .activationRevert _ => true
  | .syImageConfirm c => cmdOk c
  | .syBootRetry c => cmdOk c
  | .bar0PartialAccess offset _ => decide (offset < 65536)
  | .registerWrite offset _ => barOffset offset
  | .tickLoRead => true
  | .snapTickLoRead => true
  | .gateTickLoRead => true
  | .perfFreezeWrite _ => true
  | .perfSnapshotWrite _ => true
  | .perfCtrlBoundary => true
  | .alarmMaskWrite _ => true
  | .sessionConfigWrite _ reg _ => decide (reg < 256) && reg % 4 = 0
  | .sessionOpen _ _ => true
  | .sessionReset _ _ => true
  | .sessionCloseEnd _ => true
  | .doorbell _ _ => true
  | .rspConsumerWrite _ _ => true
  | .commandTake _ dma => match dma with | some d => d.length = 64 | none => true
  | .fwLoadUpdate _ => true
  | .eventLogDelivery => true
  | .syNop c => cmdOk c
  | .syAttrRead c => cmdOk c
  | .syAttrWrite c => cmdOk c
  | .syAttrBatch c _ => cmdOk c
  | .syCommit c => cmdOk c
  | .generationSwap => true
  | .pendingWriteEffect => true
  | .gateStopWrite offset _ => barOffset offset
  | .gateReleaseWrite offset _ => barOffset offset
  | .gateStopAll _ => true
  | .gateChangeBoundary => true
  | .spiWriteFrame _ => true
  | .spiReadFrame address bytes => barOffset address && decide (0 < bytes)
  | .tickBoundary k => tickInOk k
  | .ppsEdge k => k.margins.isEmpty || k.margins.length = 48
  | .pmLatch => true
  | .xoInLoss => true
  | .dividerRampStep _ => true
  | .trimInterpolation _ => true
  | .cellRecordWrite _ _ => true
  | .rotationStepStart _ _ => true
  | .shadowPhaseMove _ _ => true
  | .shadowingEnd _ _ _ => true
  | .spareTrimSolved _ _ _ => true
  | .rotationSolveTimeout _ _ => true
  | .confirmCompareEnd _ _ _ => true
  | .foregroundCalStart _ _ => true
  | .foregroundCalEnd _ _ results => results.all (fun r => decide (r.core < 12))
  | .syConvCalibrate c => cmdOk c
  | .syConvDiag c => cmdOk c
  | .convDiagDone _ _ => true
  | .syCaptureArm c => cmdOk c
  | .syCaptureTrigger c => cmdOk c
  | .syCaptureRead c => cmdOk c
  | .syCaptureDisarm c => cmdOk c
  | .captureStart _ => true
  | .captureDone _ _ => true
  | .tiaStepStart _ _ => true
  | .tiaStepSettle _ _ => true
  | .timingLoopUpdate _ _ _ _ => true
  | .cdCandidateStep _ _ => true
  | .cdRetune _ => true
  | .receivedFrame _ _ => true
  | .eqBlockUpdate _ _ _ _ _ => true
  | .acquisitionStart _ => true
  | .acqPhaseComplete _ _ => true
  | .acqPhaseTimeout _ => true
  | .reacquireTimeout _ => true
  | .qualityMeasureUpdate _ q => decide (q.bins.length = 5120) && decide (q.sailSnr.length ≤ 16)
  | .syMrReacquire c => cmdOk c
  | .syMrTable c _ => cmdOk c
  | .syMrSnapshot c => cmdOk c
  | .syMrSnapshotRead c => cmdOk c
  | .snapshotStart _ => true
  | .snapshotDone _ _ => true
  | .syLineMode c => cmdOk c
  | .syLineModeCancel c => cmdOk c
  | .modeSwitch _ => true
  | .syTxTable c _ => cmdOk c
  | .codewordEntry _ _ _ index => decide (index < 504)
  | .cogCodewordStop _ _ _ => true
  | .codewordDeadline _ _ => true
  | .codewordRelease _ _ _ => true
  | .cogRetirement _ => true
  | .fecModeChange _ => true
  | .fecModeHitEnd _ => true
  | .overheadParse _ _ _ _ => true
  | .gccMPacketReceived _ _ _ => true
  | .gccUPacketReceived _ _ _ => true
  | .syGccSend c _ => cmdOk c
  | .syGccReceive c => cmdOk c
  | .syGccGate c => cmdOk c
  | .syFeatherRequest c => cmdOk c
  | .syFeatherWake c => cmdOk c
  | .featherTimeout _ => true
  | .featherCountdownEnd _ => true
  | .featherRecordsWritten _ => true
  | .beaconWordTx _ => true
  | .beaconWordRx _ _ => true
  | .beaconLost _ => true
  | .wakeStart _ => true
  | .syPmRead c _ => cmdOk c
  | .memberRemoval _ => true
  | .memberReturn _ => true
  | .resizeSwitch _ => true
  | .encapsulationUnitRx _ _ header _ _ _ => header.length = 8
  | .syGroupCreate c _ => cmdOk c
  | .syGroupDelete c _ => cmdOk c
  | .syGroupAddMembers c _ => cmdOk c
  | .syGroupHold c _ => cmdOk c
  | .syGroupRelease c _ => cmdOk c
  | .syGroupRemove c _ => cmdOk c
  | .laneSweepDone _ results => results.all (fun r => r.openings.length = 37 && r.ffe.length = 8)
  | .laneLocked _ => true
  | .laneLockLost _ => true
  | .relockAttemptTimeout _ => true
  | .relockRetry _ => true
  | .laneDormantEntry _ => true
  | .laneDormantExit _ => true
  | .syLaneSweep c => cmdOk c
  | .syLaneTableWrite c _ => cmdOk c
  | .syLaneTableRead c => cmdOk c
  | .syEyeScan c => cmdOk c
  | .eyeScanDone _ _ => true
  | .syEyeRead c => cmdOk c
  | .syTsRead c => cmdOk c
  | .clientPacketRx _ frame ps n1 n2 => frame.all (fun b => b.payload.length = 8) && inTick ps && burstOk n1 && burstOk n2
  | .flowLookupComplete n1 n2 => burstOk n1 && burstOk n2
  | .syMemFill c => cmdOk c
  | .memFillDone => true
  | .scrubRead n => burstOk n
  | .syMemScrub c => cmdOk c
  | .memScrubDone bursts => bursts.all (fun b => burstOk b.2)
  | .syFlow c _ bursts => cmdOk c && bursts.all burstOk
  | .settleDone => true
  | .syMemAccess c _ bursts => cmdOk c && bursts.all burstOk
  | .cipherPacketEntry _ => true
  | .saLoadDone _ _ b0 b1 b2 => burstOk b0 && burstOk b1 && burstOk b2
  | .cipherPacketDone _ _ => true
  | .cipherDeadline => true
  | .drbgReseed _ => true
  | .entropyFail _ => true
  | .drbgExhausted _ => true
  | .entropyRetest _ _ => true
  | .wheelReset _ _ => true
  | .wheelKatDone _ _ _ => true
  | .sySaCreate c => cmdOk c
  | .sySaDelete c => cmdOk c
  | .sySaRead c => cmdOk c
  | .syCipherRecords c => cmdOk c
  | .syCipherWheelReset c _ => cmdOk c
  | .syRootGenerate c => cmdOk c
  | .syRootImport c => cmdOk c
  | .syRootErase c => cmdOk c
  | .syKeySlotLoad c => cmdOk c
  | .syKeySlotErase c => cmdOk c
  | .syKeySlotExport c => cmdOk c
  | .keyEraseEffect => true
  | .syKeyStore c _ => cmdOk c
  | .contextRebuild => true
  | .syPkGenerate c _ => cmdOk c
  | .syPkImport c _ => cmdOk c
  | .syPkSign c _ => cmdOk c
  | .syPkAgree c _ => cmdOk c
  | .syPkVerify c _ => cmdOk c
  | .syPkErase c _ => cmdOk c
  | .pkOperationEnd => true
  | .tamperTrip _ => true
  | .tamperEpochAdvance => true
  | .syTamperSetPolicy c => cmdOk c
  | .syTamperSealPolicies c => cmdOk c
  | .syTamperClearLatch c _ => cmdOk c
  | .syTamperUnlock c => cmdOk c
  | .syTamperEraseNow c => cmdOk c
  | .refFailed _ => true
  | .refGood _ => true
  | .refinPulseEdge _ ps => inTick ps
  | .holdOffExpiry => true
  | .wtrExpiry _ => true
  | .esmcPduRx _ _ => true
  | .esmcTimeout _ => true
  | .esmcEventPdu _ => true
  | .ageingDayClose => true
  | .syRefSelect c => cmdOk c
  | .syTimeSet c => cmdOk c
  | .timeSetApply => true
  | .syTimeStep c => cmdOk c
  | .timeStepApply => true
  | .syTimeGet c => cmdOk c
  | .syOutAlign c => cmdOk c
  | .outAlignDone => true
  | .syHoldoverTableWrite c _ => cmdOk c
  | .syHoldoverTableRead c => cmdOk c
  | .snsSequenceStart => true
  | .snsConversionEnd _ => true
  | .snsShortFlag _ => true
  | .snsShortRelease _ => true
  | .sySnsTrigger c => cmdOk c
  | .syHkSnapshot c => cmdOk c
  | .outputFault _ _ => true
  | .pinRetryWindow _ => true
  | .pinRecovered _ => true
  | .syPinRetry c => cmdOk c
  | .tarnishPlanStart => true
  | .tarnishSettleEnd => true
  | .tarnishStep => true
  | .ledgerWrite => true
  | .syTarnishPlan c => cmdOk c
  | .syPerfDump c => cmdOk c
  | .sealedDomainStart => true
  | .bar0Ready => true
  | .pcieConfigurationWrite device _ _ _ => [128, 256].contains device.maxPayload && [128, 256, 512].contains device.maxRead
  | .entropyStartUpTestsPass _ => true
  | .codewordLoadEnd _ _ _ => true
  | .idleCogRetry _ _ _ => true

end Sys2Proof
end

