-- ==== Sys2Proof/Certificates/Slice0/Obligations.lean ====
section
/-!
DEFINITION. Sys2Proof/Certificates/Slice0/Obligations.lean: the statements about the model, each a Prop for the provers.
-/
open Sys2Proof Sys2Proof.Machine

/-- A step runs the command at the front of the queue on the state with the rest of the queue; an empty queue idles (log entry 1). (rests on 04 Mailboxes and the Syent command model, R136) -/
def Obligations.StepRunsTheFrontCommand : Prop :=
  (∀ (c : Instr) (rest : List Instr) (s : State), s.pending = c :: rest → step s = exec c { s with pending := rest }) ∧
  (∀ s : State, s.pending = [] → step s = .next s)

/-- Of the failures that apply, a served command answers the first in the order of R23; an undefined opcode is answered as it is taken. (R23) -/
def Obligations.FirstFailureByRank : Prop :=
  (∀ l : List (Bool × Status),
    (firstFail l = none ↔ ∀ p ∈ l, p.1 = false) ∧
    (∀ st, firstFail l = some st → (true, st) ∈ l ∧ ∀ st', (true, st') ∈ l → st.rank ≤ st'.rank)) ∧
  [Status.eUnknownCmd, .ePermission, .eBadParam, .eRange, .eState, .eStale, .eIntegrity].map Status.rank = [0, 1, 2, 3, 4, 5, 6] ∧
  (∀ st : Status, st ∉ [Status.eUnknownCmd, .ePermission, .eBadParam, .eRange, .eState, .eStale] → st.rank = 6) ∧
  (∀ op form named checks run (c : CmdRef) (s : State) t info st,
    findTaken s c = some t → cmdInfo op = some info → served s c.session = true → entryOpcode t.entry = op →
    form t.entry = true → mayStart s c t = true →
    firstFail (headerChecks s c.session info named t.entry ++ checks s c.session t.entry) = some st →
    serve op form named checks run c s = finish c st [] s) ∧
  (∀ (i : Nat) (t : Taken) (s : State), cmdInfo (entryOpcode t.entry) = none →
    onTake i t s = finish ⟨i, t.id⟩ .eUnknownCmd [] s)

/-- The header of a command is judged by permission, form, ordering code, service and epoch, in that order. (rests on R16, R2, R94, R96, R118, R135, R141) -/
def Obligations.HeaderJudgesEveryCommand : Prop :=
  ∀ (s : State) (sid : Nat) (info : CmdInfo) (named : List (Nat × Nat)) (e : List Byte),
    firstFail (headerChecks s sid info named e) =
      if s.attrN .sessionPermission sid < info.perm then some .ePermission
      else if 1 < fieldAt e 2 1 ∨ 7 < fieldAt e 3 1 ∨ fieldAt e 12 4 ≠ 0 ∨ unnamedZero named e = false then some .eBadParam
      else if (s.isCN = true ∧ (info.security = true ∨ fieldAt e 3 1 = 5)) ∨
          (s.boot.service = .rom ∧ info.rom = false) ∨ (s.minimal = true ∧ info.datapath = true) then some .eState
      else if fieldAt e 3 1 ≠ 0 ∧ fieldAt e 8 4 ≠ portEpoch s (fieldAt e 3 1) then some .eStale
      else none

/-- Answering a command changes only its own session, host memory and pending messages. (rests on R22, R131, R136) -/
def Obligations.ResponseTouchesOneSession : Prop :=
  ∀ (c : CmdRef) (st : Status) (fs : List Fld) (s : State),
    (finish c st fs s = { s with
      sessions := (finish c st fs s).sessions, out := (finish c st fs s).out
      pcie := { s.pcie with pba := (finish c st fs s).pcie.pba } }) ∧
    ∀ i, i ≠ c.session → (finish c st fs s).sess i = s.sess i

/-- SY_NOP, SY_ATTR_READ, SY_ATTR_WRITE and SY_ATTR_BATCH have the effect of spec/04 where nothing refuses them. (rests on R143, R144, R145, R671) -/
def Obligations.AttributeCommandsAnswer : Prop :=
  (∀ c s e, ready 0x0100 [] c s = some e → exec (.syNop c) s = .next (finish c .ok [] s)) ∧
  (∀ c s e p a i j, ready 0x0101 [(16, 48)] c s = some e → pathField e 17 47 (fieldAt e 16 1) = some p →
    resolvePath s p = .at a i j → a.row.kind.size ≤ 44 → readFails s c.session (.at a i j) = none →
    let d := valueBytes a (attrValue s a i j)
    exec (.syAttrRead c) s = .next (finish c .ok [(16, 2, d.length), (20, d.length, leNat d)] s)) ∧
  (∀ c s e p a i j, ready 0x0102 [(16, 48)] c s = some e → pathField e 18 38 (fieldAt e 16 1) = some p →
    resolvePath s p = .at a i j → a.row.kind.size ≤ 8 → 1 ≤ fieldAt e 17 1 → fieldAt e 17 1 ≤ 8 →
    ((bytesAt e 56 8).drop (fieldAt e 17 1)).all (· = 0) = true →
    writeFails s c.session (.at a i j) (bytesAt e 56 (fieldAt e 17 1)) = none →
    exec (.syAttrWrite c) s =
      .next (finish c .ok [] (attrWrite a i j (valueOf a (bytesAt e 56 (fieldAt e 17 1))) s))) ∧
  (∀ c s e dma items, ready 0x0103 batchNamed c s = some e → 1 ≤ fieldAt e 16 4 → fieldAt e 16 4 ≤ 256 →
    areaBad s c.session (fieldAt e 24 8) (fieldAt e 20 4) = false →
    areaBad s c.session (fieldAt e 40 8) (fieldAt e 32 4) = false →
    parseItems (fieldAt e 16 4) (batchIn s c.session e dma.bytes) = some items →
    (items.map (itemRoom s)).sum ≤ fieldAt e 32 4 →
    let r := runBatch c dma.slice (batchIn s c.session e dma.bytes) (fieldAt e 40 8) (runAttrItem (s.rights c.session)) items []
      (batchStart s c.session) s
    exec (.syAttrBatch c dma) s = .next (answer c r) ∧
      (items.length ≤ dma.slice → ∃ b : BatchRun, b.good + b.bad = items.length ∧ r.2 = batchEnd b []))

/-- SY_COMMIT waits for its tick; GENERATION_SWAP takes a due one. (rests on R36, R147, R148, R255) -/
def Obligations.CommitsWaitForTheirBoundary : Prop :=
  (∀ c s e, ready 0x0104 [(16, 12)] c s = some e → 1 ≤ fieldAt e 24 4 → fieldAt e 24 4 < 128 →
    (s.clk.ticking = true → s.tick.toNat < fieldAt e 16 8) →
    (∀ b ∈ bitsBelow 7 (fieldAt e 24 4), commitPending s b = false ∧ tableStaged s b = true) →
    exec (.syCommit c) s =
      .next (acceptIfNot c { s with commits := s.commits ++ [⟨fieldAt e 16 8, fieldAt e 24 4, c⟩] })) ∧
  (∀ c s e b, ready 0x0104 [(16, 12)] c s = some e → 1 ≤ fieldAt e 24 4 → fieldAt e 24 4 < 128 →
    (s.clk.ticking = true ∧ fieldAt e 16 8 ≤ s.tick.toNat ∨
      b ∈ bitsBelow 7 (fieldAt e 24 4) ∧ (commitPending s b = true ∨ tableStaged s b = false)) →
    exec (.syCommit c) s = .next (finish c .eState [] s)) ∧
  (∀ s k b, s.clk.ticking = true → s.commits = [k] → k.tick ≤ s.tick.toNat → bitsBelow 7 k.mask = [b] → b ≠ 0 →
    exec .generationSwap s = .next (finish k.cmd .ok [(16, 8, s.tick.toNat)]
      (({ s with commits := [] } : State).setTable b
        { active := (s.table b).staging, staging := (s.table b).staging, staged := false })))

/-- A port reset clears the three tables of its port and ends the pending commits that name one of them. (rests on R36, R67) -/
def Obligations.PortResetEndsItsCommits : Prop :=
  ∀ (p : Nat) (s : State), p < 2 →
    let t := tablesAtPortReset p s
    (∀ b ∈ [1 + p, 3 + p, 5 + p], t.table b = {}) ∧
    (∀ b, b ∉ [1 + p, 3 + p, 5 + p] → t.table b = s.table b) ∧
    (∀ k, k ∈ t.commits ↔ k ∈ s.commits ∧ bitOf k.mask (1 + p) = false ∧ bitOf k.mask (3 + p) = false ∧
      bitOf k.mask (5 + p) = false)

/-- The machine at reset: counts at 0, gates stopped, sessions closed, nothing set, no command waiting. (rests on R14, R133, R141, R149, R153, R161, R183, 02 Table 13, 05 Table 2) -/
def Obligations.ResetStateIsAsTheSpecGives : Prop :=
  State.reset.tick = 0 ∧ State.reset.bar.alarms = 0 ∧ State.reset.bar.alarmMask = 0 ∧ State.reset.bar.eventSeq = 1 ∧
  (∀ w < 128, barWord State.reset (0x2000 + 4 * w) = 0xFFFFFFFF ∧ barWord State.reset (0x2200 + 4 * w) = 0xFFFFFFFF) ∧
  (∀ w < 16, barWord State.reset (0x2C00 + 4 * w) = 0xFFFFFFFF ∧ barWord State.reset (0x2C40 + 4 * w) = 0xFFFFFFFF) ∧
  (∀ i, State.reset.sess i = {}) ∧ (∀ d, State.reset.dom d = {}) ∧ (∀ g, State.reset.group g = none) ∧
  State.reset.commits = [] ∧ State.reset.memory.dram = [] ∧ State.reset.pending = [] ∧
  State.reset.attr .sessionPermission 0 = 2 ∧ State.reset.attr .sessionEventMask 0 = 0x3FFF ∧
  (∀ i, 0 < i → State.reset.attr .sessionPermission i = 0 ∧ State.reset.attr .sessionEventMask i = 0) ∧
  State.reset.attr .thermalThrottle1C = 105 ∧ State.reset.attr .thermalThrottle2C = 110

/-- Power-up, a failed rail start, its retry, the end of tXO and the start of the sealed domain act as spec/02 gives. (rests on R46, R53, R55, R167, R562) -/
def Obligations.PowerUpFollowsTheSequence : Prop :=
  (∀ straps ok s, s.power.vinGood = false → s.power.phase = .off → Gives (.powerUp straps ok) s (fun t =>
    t.power.vinGood = true ∧ t.power.straps = straps ∧ t.sealed.alive = true ∧ t.power.v18Out = true ∧
    t.power.phase = (if ok then .waitStart else .sequencing) ∧ t.power.pwrgd = (ok && !straps.test))) ∧
  (∀ s, s.power.phase = .sequencing → Gives .railStartFailure s (fun t =>
    t.power.phase = .railHold ∧ t.power.railsUp = [] ∧ t.power.pwrgd = false ∧ alarmLow t = true ∧
    t.attr .powerRailStartFailures = wrapU 16 (s.attr .powerRailStartFailures + 1))) ∧
  (∀ straps ok s, s.power.phase = .railHold → Gives (.sequencerRetry straps ok) s (fun t =>
    t.power.phase = (if ok then .waitStart else .sequencing) ∧ t.power.straps = straps ∧ t.power.sequencerAlarm = false)) ∧
  (∀ good s, s.power.phase = .waitStart ∨ s.power.phase = .sequencing → s.power.txoDone = false →
    exec (.txoExpiry good) s = .next { s with power := { s.power with txoDone := true, xoGood := good } }) ∧
  (∀ s, s.sealed.alive = false → Gives .sealedDomainStart s (fun t =>
    t.sealed = { alive := true, freshVin := true } ∧ t.vault.roots = [] ∧ t.power = s.power ∧ t.nor = s.nor))

/-- COLD_RESET: a short pulse is ignored, one of 1 to 10 us has no defined effect and is the one stop of the model, a full one restarts the part. (rests on R54, R62, R63, R67) -/
def Obligations.ColdResetByPulse : Prop :=
  (∀ ns straps ok s, ns < 1000 → exec (.coldReset ns straps ok) s = .next s) ∧
  (∀ ns straps ok s, 1000 ≤ ns → ns < 10000 → exec (.coldReset ns straps ok) s = .refused .undefinedPulse) ∧
  (∀ ns straps ok s, 10000 ≤ ns → s.power.phase = .waitStart ∨ s.power.phase = .sequencing →
    Gives (.coldReset ns straps ok) s (fun t => t.power.straps = straps ∧ bitOf t.power.causes 1 = true ∧
      (bitOf s.power.causes 0 = true → bitOf t.power.causes 0 = true))) ∧
  (∀ ns straps ok s, 10000 ≤ ns → barAlive s = true → Gives (.coldReset ns straps ok) s (fun t =>
    t.power.straps = straps ∧ bitOf t.power.causes 1 = true ∧ t.tick = 0 ∧ t.clk.ticking = false ∧ t.sessions = [] ∧
    t.gates = {} ∧ t.memory = {} ∧ t.groups = [] ∧ t.fuse = s.fuse ∧ t.nor = s.nor ∧ t.sealed = s.sealed ∧
    t.vault.roots = s.vault.roots ∧ t.cellRecords = s.cellRecords ∧ t.laneTable = s.laneTable)) ∧
  (∀ ns straps ok s, 10000 ≤ ns → s.power.phase = .sealedStandby → s.power.sealedByBall = true →
    s.power.sealHigh = false → exec (.coldReset ns straps ok) s = .next s) ∧
  (∀ (i : Instr) (s : State), (∀ ns straps ok, i = .coldReset ns straps ok → ns < 1000 ∨ 10000 ≤ ns) → ∃ t, exec i s = .next t)

/-- A cold or warm reset keeps exactly what Table 11 of spec/02 keeps. (rests on R63, R67, R183) -/
def Obligations.ResetMatrixKeepsAndClears : Prop :=
  ∀ (warm : Bool) (s : State),
    let t := hardReset warm s
    t.fuse = s.fuse ∧ t.nor = s.nor ∧ t.sealed = s.sealed ∧ t.cellRecords = s.cellRecords ∧ t.laneTable = s.laneTable ∧
    t.vault.roots = s.vault.roots ∧ t.tarnish.nvm = s.tarnish.nvm ∧ t.vault.slots = [] ∧
    t.memory.dram = (if warm then s.memory.dram else []) ∧
    t.tick = 0 ∧ t.clk.ticking = false ∧ t.sessions = [] ∧ t.gates = {} ∧ t.tables = [] ∧ t.commits = [] ∧ t.groups = [] ∧
    t.chans = [] ∧ t.convs = [] ∧ t.lanes = [] ∧ t.written = [] ∧ t.acc = [] ∧ t.perf = {} ∧ t.pm = {} ∧ t.pcie = {} ∧
    t.bar = {} ∧
    (∀ a i j, i < 65536 → j < 65536 → t.attr a i j =
      if attrKept a = true ∨ (warm = true ∧ attrKeptWarm a = true) then s.attr a i j else resetValue s.fuse a i)

/-- WARM_RESET, SEALED_STANDBY_ENTRY, SEALED_WAKE, POWER_DOWN and SEALED_DOMAIN_POWER_LOSS complete with the effects of spec/02. (rests on R56, R60, R62, R64, R67) -/
def Obligations.WarmResetAndStandby : Prop :=
  (∀ ns s, ns < 1000 → exec (.warmReset (.ball ns)) s = .next s) ∧
  (∀ ns s, 10000 ≤ ns → barAlive s = true → Gives (.warmReset (.ball ns)) s (fun t =>
    t.tick = 0 ∧ t.clk.ticking = false ∧ t.sessions = [] ∧ t.gates = {} ∧ t.power.phase = .waitStart ∧
    bitOf t.power.causes 2 = true)) ∧
  (∀ s, requestPending s = 1 → barAlive s = true → Gives (.warmReset .request) s (fun t =>
    t.tick = 0 ∧ t.sessions = [] ∧ t.power.phase = .waitStart ∧ bitOf t.power.causes 3 = true)) ∧
  (∀ ns s, 1000 ≤ ns → ns < 10000 → exec (.warmReset (.ball ns)) s = .next s.draw.2 ∨
    exec (.warmReset (.ball ns)) s = .next (warmReset 4 s.draw.2)) ∧
  (∀ byBall s, barAlive s = true → requestPending s ≠ 1 → byBall = true ∨ s.attr .powerSealRequest = 1 →
    Gives (.sealedStandbyEntry byBall) s (fun t =>
      t.power.phase = .sealedStandby ∧ t.power.railsUp = [] ∧ t.power.pwrgd = false ∧ t.vault.slots = [] ∧
      t.power.sealedByBall = byBall ∧ t.power.sealHigh = !byBall)) ∧
  (∀ byPorst straps ok s, s.power.phase = .sealedStandby → s.power.vinGood = true →
    byPorst = false ∨ s.power.sealedByBall = false ∨ s.power.sealHigh = true → Gives (.sealedWake byPorst straps ok) s (fun t =>
    bitOf t.power.causes 7 = true ∧ t.power.straps = straps ∧ t.power.phase = (if ok then .waitStart else .sequencing))) ∧
  (∀ s, s.power.vinGood = true → s.power.phase ≠ .sealedStandby → Gives .powerDown s (fun t =>
    t.power.phase = .off ∧ t.power.railsUp = [] ∧ t.power.pwrgd = false ∧ t.power.vinGood = false ∧
    t.sealed = s.sealed ∧ t.vault.roots = s.vault.roots ∧ t.sessions = [])) ∧
  (∀ s, Gives .sealedDomainPowerLoss s (fun t => t.sealed = {} ∧ t.vault.roots = [] ∧ t.power.phase = .off ∧ t.nor = s.nor))

/-- PORT_RESET takes effect at its boundary and PORT_RESET_END ends it at the next. (rests on R36, R65, R74) -/
def Obligations.PortResetSpansOneTick : Prop :=
  (∀ (p : Fin 2) s, requestPending s = 2 + p.val → s.power.phase = .active → s.clk.ticking = true →
    s.power.portReset = none → s.attr .powerSealRequest ≠ 1 → Gives (.portReset p) s (fun t =>
      t.power.portReset = some p.val ∧ t.power.portResetTick = s.tick.toNat ∧ t.tick = s.tick ∧
      t.table (1 + p.val) = {} ∧ t.table (3 + p.val) = {} ∧ t.table (5 + p.val) = {})) ∧
  (∀ (p : Fin 2) s, s.power.portReset = some p.val → s.power.portResetTick < s.tick.toNat →
    Gives (.portResetEnd p) s (fun t => t.power.portReset = none ∧ t.tick = s.tick))

/-- PCIE_RESET touches the link and configuration space only; link up and configuration writes release what waits for them. (rests on R66, R69, R91, R131, R157, R670) -/
def Obligations.PcieResetAndLink : Prop :=
  (∀ s, abovePcie s = false → exec .pcieReset s = .next { s with pcie := { msixTab := s.pcie.msixTab, pba := s.pcie.pba } }) ∧
  (∀ s, abovePcie s = true → exec .pcieReset s = .next s) ∧
  (∀ s, pcieAlive s = true → ∃ v ∈ pcieSpeeds, ∃ w ∈ pcieWidths, exec .pcieLinkUp s =
    .next (pcieResume { s with
      free := s.free + 2
      pcie := { s.pcie with linkUp := true, bar0Ready := false, cfg := { s.pcie.cfg with speed := v, width := w } } })) ∧
  (∀ s, s.pcie.linkUp = true → exec .bar0Ready s = .next { s with pcie := { s.pcie with bar0Ready := true } }) ∧
  (∀ (m : PcieDeviceWrite) e f d s, s.pcie.linkUp = true → s.pcie.bar0Ready = true → m.maxPayload ∈ [128, 256] →
    m.maxRead ∈ [128, 256, 512] → exec (.pcieConfigurationWrite m e f d) s =
      .next (pcieResume { s with pcie := { s.pcie with
        busMaster := m.busMaster, msixEnable := e, funcMask := f, d3hot := d
        cfg := { s.pcie.cfg with
          maxPayload := m.maxPayload, maxRead := m.maxRead }
        aer := aerWrite m.errors s.pcie.aer } })) ∧
  (∀ m e f d s, s.pcie.linkUp = true → s.pcie.bar0Ready = false →
    exec (.pcieConfigurationWrite m e f d) s = .next (s.emit .configRetry))

/-- THERMAL_LEVEL3_TRIP and XO_IN_LOSS bring a running part into minimal state. (rests on R59, R71, R94, R171, R177) -/
def Obligations.MinimalStateEntries : Prop :=
  (∀ (site : Fin 24) s, s.power.phase = .active → s.minimal = false → s.attr .thermalLevel ≠ 3 →
    Gives (.thermalLevel3Trip site) s (fun t => t.attr .thermalLevel = 3 ∧ t.minimal = true ∧ t.power.phase = .minimal ∧
      t.power.railsUp = [1, 6, 7] ∧ ∀ d, t.domRuns d = true → d ∈ minimalDomains)) ∧
  (∀ s, s.power.phase = .active → s.minimal = false → s.attr .clockPllCoast ≠ 1 →
    Gives .xoInLoss s (fun t => t.attr .clockPllCoast = 1 ∧ t.minimal = true ∧ t.power.phase = .minimal ∧
      t.power.railsUp = [1, 6, 7] ∧ ∀ d, t.domRuns d = true → d ∈ minimalDomains)) ∧
  (∀ s, s.power.phase = .waitStart → s.power.txoDone = true →
    exec .xoInLoss s = .next { s with power := { s.power with xoGood := false } })

/-- ROM_START and the end of a hold run the boot flow of R86. (rests on R53, R86, R87, R93, R95) -/
def Obligations.RomBootFlow : Prop :=
  (∀ ok s, s.power.phase = .waitStart → s.power.pwrgd = true → s.power.txoDone = true → s.power.straps.test = false →
    s.power.xoGood = true → bitOf s.power.causes 6 = false → s.minimal = false →
    (s.power.straps.boot % 4 = 1 ∨ s.power.straps.boot % 4 = 2 → Gives (.romStart ok) s (fun t =>
      t.boot.service = .rom ∧ t.boot.stage = 7 ∧ t.boot.reason = 2 + s.power.straps.boot % 4 ∧ t.boot.recovery = true)) ∧
    (s.power.straps.boot % 4 = 0 ∨ s.power.straps.boot % 4 = 3 → 3 ≤ s.sealed.failCount →
      Gives (.romStart ok) s (fun t => t.boot.service = .rom ∧ t.boot.stage = 6 ∧ t.boot.reason = 2 ∧ t.minimal = true)) ∧
    (s.power.straps.boot % 4 = 0 ∨ s.power.straps.boot % 4 = 3 → s.sealed.failCount < 3 → s.sealed.lastFailed = none →
      ok = true → s.nor.dir.preferred ≤ 1 → s.nor.dir.mark s.nor.dir.preferred = .confirmed →
      Gives (.romStart ok) s (fun t =>
        if (checkImage s s.nor.dir.preferred true).code = 1 then
          t.boot.running = some s.nor.dir.preferred ∧ t.boot.stage = 3 ∧ t.boot.bootWatchdog = true ∧ t.sealed = s.sealed
        else t.boot.running ≠ some s.nor.dir.preferred ∧
          (if s.nor.dir.preferred = 0 then t.boot.resultA else t.boot.resultB) =
            (checkImage s s.nor.dir.preferred true).code)) ∧
    (s.power.straps.boot % 4 = 0 ∨ s.power.straps.boot % 4 = 3 → s.sealed.failCount < 3 → ok = false →
      Gives (.romStart ok) s (fun t => t.boot.running = none ∧ t.boot.stage = 9 ∧ t.boot.holding = true ∧
        t.boot.resultA = 2 ∧ t.boot.resultB = 2 ∧ t.sealed.failCount = s.sealed.failCount + 1))) ∧
  (∀ ok s, s.boot.holding = true → exec (.holdBetweenAttemptsEnd ok) s = .next (romStart ok s))

/-- FIRMWARE_READY, the self-check failure and the boot and miller watchdogs act as R86 and R89 give. (rests on R86, R87, R89) -/
def Obligations.FirmwareStartsAndFails : Prop :=
  (∀ k s slot, s.boot.running = some slot → s.boot.bootWatchdog = true → Gives (.firmwareReady k) s (fun t =>
    t.boot.service = .firmware ∧ t.boot.bootWatchdog = false ∧ t.boot.millerWatchdog = true ∧
    t.sealed = { s.sealed with failCount := 0, lastFailed := none })) ∧
  (∀ s slot, s.boot.running = some slot → s.boot.bootWatchdog = true →
    (Gives .firmwareSelfCheckFail s (fun t => t.sealed.failCount = min 3 (s.sealed.failCount + 1) ∧
      t.sealed.lastFailed = some slot ∧ t.boot.holding = true ∧ t.boot.stage = 9 ∧
      (if slot = 0 then t.boot.resultA else t.boot.resultB) = 9)) ∧
    (Gives .bootWatchdogExpiry s (fun t => t.sealed.failCount = min 3 (s.sealed.failCount + 1) ∧
      t.sealed.lastFailed = some slot ∧ t.boot.holding = true ∧ t.boot.stage = 9 ∧
      (if slot = 0 then t.boot.resultA else t.boot.resultB) = 8))) ∧
  (∀ ok s slot, s.boot.millerWatchdog = true → s.power.portReset = none → s.boot.running = some slot →
    (s.nor.dir.mark slot = .confirmed → Gives (.millerWatchdogExpiry ok) s (fun t =>
      t.boot.service = .nobody ∧ t.boot.download = none ∧ bitOf (t.attrN .resetCause) 5 = true ∧
      (if (checkImage (firmwareReset s) slot ok).code = 1 then
        t.boot.running = some slot ∧ t.boot.stage = 3 ∧ t.boot.bootWatchdog = true ∧ t.boot.directReload = true ∧
          t.sealed = s.sealed
      else t.boot.running = none ∧ t.boot.stage = 9 ∧ t.boot.holding = true ∧
        t.sealed = { s.sealed with failCount := min 3 (s.sealed.failCount + 1), lastFailed := some slot }))) ∧
    (s.nor.dir.mark slot ≠ .confirmed → exec (.millerWatchdogExpiry ok) s = .next (romStart ok
      ((firmwareReset s).setAttr .resetCause 0 0 ((firmwareReset s).attrN .resetCause ||| 32 : Nat)))))

/-- SY_IMAGE_BEGIN, SY_IMAGE_VERIFY, IMAGE_VERIFY_DONE and SY_IMAGE_CONFIRM follow R102, R105, R106 and R114. (rests on R102, R105, R106, R114, R115) -/
def Obligations.ImageDownloadCommands : Prop :=
  (∀ c s e, ready 0x0301 [(16, 1), (20, 4)] c s = some e → fieldAt e 16 1 ≤ 1 → 3 ≤ fieldAt e 20 4 → fieldAt e 20 4 ≤ 3072 →
    s.boot.running ≠ some (fieldAt e 16 1) → s.boot.download = none → s.boot.act = none →
    Gives (.syImageBegin c) s (fun t => t.boot.download = some (fieldAt e 16 1, fieldAt e 20 4) ∧
      t.nor.dir.mark (fieldAt e 16 1) = .invalid ∧ t.boot.staged ≠ some (fieldAt e 16 1) ∧ t.nor.blocks = s.nor.blocks)) ∧
  (∀ c s e, ready 0x0303 [(16, 1)] c s = some e → fieldAt e 16 1 ≤ 1 → s.boot.act = none →
    exec (.syImageVerify c) s = .next (acceptIfNot c
      { s with boot := { s.boot with verify := s.boot.verify ++ [⟨fieldAt e 16 1, c⟩] } })) ∧
  (∀ ok s j rest, s.boot.verify = j :: rest → j.slot ≤ 1 → s.boot.service = .firmware → s.boot.act = none →
    Gives (.imageVerifyDone ok) s (fun t =>
      if (checkImage s j.slot ok).code = 1 then t.nor.dir.mark j.slot = .unconfirmed ∧
        t.boot.staged = some j.slot ∧ t.boot.verify = rest ∧ (∀ n, t.boot.download ≠ some (j.slot, n))
      else t.nor = s.nor ∧ t.boot = { s.boot with verify := rest })) ∧
  (∀ ok s j rest, s.boot.verify = j :: rest → s.boot.act ≠ none → exec (.imageVerifyDone ok) s =
    .next (finish j.cmd .eState [] { s with boot := { s.boot with verify := rest } })) ∧
  (∀ c s e slot, ready 0x0305 [] c s = some e → s.boot.running = some slot → slot ≤ 1 → s.nor.dir.mark slot ≠ .confirmed →
    Gives (.syImageConfirm c) s (fun t => t.nor.dir.mark slot = .confirmed ∧
      t.attr .firmwareOtpCounter = max (s.attr .firmwareOtpCounter) (fieldAt (s.nor.block slot 0) 6 2 : Nat)))

/-- SY_IMAGE_WRITE needs an open download and a block within it; a block that passes is stored, and the last write stands. (R104) -/
def Obligations.ImageWriteStoresABlock : Prop :=
  (∀ c s e, ready 0x0302 [(16, 4), (20, 4)] c s = some e → s.boot.download = none →
    exec (.syImageWrite c) s = .next (finish c .eState [] s)) ∧
  (∀ c s e slot n, ready 0x0302 [(16, 4), (20, 4)] c s = some e → s.boot.download = some (slot, n) → n ≤ fieldAt e 16 4 →
    exec (.syImageWrite c) s = .next (finish c .eRange [] s)) ∧
  (∀ c s e slot n, ready 0x0302 [(16, 4), (20, 4)] c s = some e → s.boot.download = some (slot, n) → fieldAt e 16 4 < n →
    n ≤ 3072 → slot ≤ 1 → crc32c (windowBlock s) = fieldAt e 20 4 → blockGood (windowBlock s) = true →
    Gives (.syImageWrite c) s (fun t => t.nor.block slot (fieldAt e 16 4) = windowBlock s ∧ t.nor.dir = s.nor.dir ∧
      ∀ slot' b, slot' ≤ 1 → b < 3072 → (slot', b) ≠ (slot, fieldAt e 16 4) →
        t.nor.block slot' b = s.nor.block slot' b))

/-- SY_IMAGE_ACTIVATE of mode 1 marks a valid slot preferred, and refuses one that is not valid. (R107) -/
def Obligations.PreferredSlotByActivate : Prop :=
  (∀ c s e, ready 0x0304 [(16, 1), (17, 1)] c s = some e → fieldAt e 17 1 = 1 → fieldAt e 16 1 ≤ 1 →
    s.nor.dir.mark (fieldAt e 16 1) ≠ .invalid →
    exec (.syImageActivatePreferred c) s =
      .next (finish c .ok [] (dirWrite (fun d => { d with preferred := fieldAt e 16 1 }) s)) ∧
    (dirWrite (fun d => { d with preferred := fieldAt e 16 1 }) s).nor.dir.preferred = fieldAt e 16 1) ∧
  (∀ c s e, ready 0x0304 [(16, 1), (17, 1)] c s = some e → fieldAt e 17 1 = 1 → fieldAt e 16 1 ≤ 1 →
    s.nor.dir.mark (fieldAt e 16 1) = .invalid →
    exec (.syImageActivatePreferred c) s = .next (finish c .eState [] s) ∧ (finish c .eState [] s).nor = s.nor)

/-- SY_IMAGE_ACTIVATE of mode 0 and the steps of a hitless activation follow R108 to R111. (rests on R108, R109, R110, R111) -/
def Obligations.HitlessActivation : Prop :=
  (∀ c s e, ready 0x0304 [(16, 1), (17, 1)] c s = some e → fieldAt e 17 1 = 0 → fieldAt e 16 1 ≤ 1 →
    s.boot.staged = some (fieldAt e 16 1) → s.boot.running ≠ some (fieldAt e 16 1) → s.boot.act = none →
    fieldAt (s.nor.block (fieldAt e 16 1) 0) 12 2 / 256 = s.attrN .firmwareSyentRelease / 256 →
    Gives (.syImageActivateHitless c) s (fun t =>
      if (checkImage s (fieldAt e 16 1) true).code = 1 then
        t.boot.act = some ⟨fieldAt e 16 1, s.boot.running.getD 0, c, false, false⟩ ∧ t.nor = s.nor
      else t = finish c (checkImage s (fieldAt e 16 1) true).status [] s)) ∧
  (∀ s a, s.boot.act = some a → a.paused = false → Gives .activationPauseStart s (fun t =>
    if (checkImage s a.slot true).code = 1 then
      t.boot.stage = 8 ∧ t.boot.act = some { a with paused := true } ∧ t.boot.download = none ∧ t.fwServing = false ∧
        t.nor.dir.preferred = a.slot
    else t = finish a.cmd (checkImage s a.slot true).status [] { s with boot := { s.boot with act := none } })) ∧
  (∀ us s a, s.boot.act = some a → a.paused = true → Gives (.activationReady us) s (fun t =>
    t.boot.running = some a.slot ∧ t.boot.service = .firmware ∧ t.boot.act = none ∧ t.boot.staged = none ∧
    t.sealed = s.sealed)) ∧
  (∀ ok s a, s.boot.act = some a → a.paused = true → a.slot ≤ 1 → a.previous = 1 - a.slot →
    s.nor.dir.mark a.slot = .unconfirmed → s.nor.dir.trial a.slot = true → s.nor.dir.mark a.previous = .confirmed →
    Gives (.activationRevert ok) s (fun t => t.sealed = s.sealed ∧
      (if (checkImage s a.previous ok).code = 1 then
        t.boot.running = some a.previous ∧ t.boot.service = .firmware ∧ t.boot.reason = 7 ∧ t.boot.act = none
      else t.boot.holding = true ∧ t.boot.act = some { a with paused := false, reverted := true })))

/-- SY_BOOT_RETRY answers OK, clears the failure count and starts a warm reset; under normal firmware it is refused. (R116) -/
def Obligations.BootRetryRestarts : Prop :=
  (∀ c s e, ready 0x0306 [] c s = some e → s.boot.recovery = false → (s.boot.service = .firmware → s.minimal = true) →
    s.boot.retry = false → barAlive s = true →
    exec (.syBootRetry c) s = .next (warmReset 0 (finish c .ok [] { s with
      sealed := { s.sealed with failCount := 0, lastFailed := none }, boot := { s.boot with retry := true } })) ∧
    Gives (.syBootRetry c) s (fun t => t.sealed = { s.sealed with failCount := 0, lastFailed := none } ∧
      t.power.phase = .waitStart ∧ t.tick = 0 ∧ t.sessions = [])) ∧
  (∀ c s e, ready 0x0306 [] c s = some e → s.boot.service = .firmware → s.minimal = false → s.boot.retry = false →
    exec (.syBootRetry c) s = .next (finish c .eState [] s))

/-- BAR0 accesses act by Table 1 and the access types: partial ones are not served, read-only and unassigned words ignore writes, W1C bits clear. (rests on R9, R10, R12, R122, R157, R180) -/
def Obligations.BarAccessesByTable : Prop :=
  (∀ o w s, exec (.bar0PartialAccess o w) s = .next (unsupportedAccess o w s)) ∧
  (∀ o w s, let t := unsupportedAccess o w s
    t = { s with out := t.out, free := t.free, pcie := { s.pcie with aer := t.pcie.aer } } ∧ .unsupported o w ∈ t.out ∧
    wbit t.pcie.aer.deviceStatus 3 = true ∧ (w = true → wbit t.pcie.aer.uncorStatus 20 = true) ∧
    (w = false → wbit s.pcie.aer.uncorSeverity 20 = false → wbit t.pcie.aer.corStatus 13 = true)) ∧
  (∀ o (v : RegWrite) s, barAlive s = true → s.pcie.bar0Ready = true → s.pcie.d3hot = false → o % 4 = 0 →
    gatedOffset s o = false → exec (.registerWrite o v) s = .next (barWriteWith o v.value v.sets s)) ∧
  (∀ o (v : RegWrite) s, barAlive s = true → s.pcie.bar0Ready = true →
    o % 4 ≠ 0 ∨ gatedOffset s o = true ∨ s.pcie.d3hot = true →
    exec (.registerWrite o v) s = .next (unsupportedAccess o true s)) ∧
  (∀ v sets i s, i < 14 → wbit sets i = true → wbit (barWriteWith 0xFF08 v sets s).bar.alarms i = true) ∧
  (∀ o v sets s, isW1c o = false → barWriteWith o v sets s = barWrite o v s) ∧
  (∀ o v s, (o < 0x10 ∨ (0x14 ≤ o ∧ o < 0x20) ∨ (0x28 ≤ o ∧ o < 0x1000) ∨ (0x1800 ≤ o ∧ o < 0x2400) ∨
      (0x2C00 ≤ o ∧ o < 0x2C80) ∨ (0x2E04 ≤ o ∧ o < 0xD000) ∨ (0xF0A0 ≤ o ∧ o < 0xFF08) ∨ 0xFF10 ≤ o) → barWrite o v s = s) ∧
  (∀ v s, barWrite 0xFF08 v s = { s with bar := { s.bar with alarms := s.bar.alarms &&& ~~~v } })

/-- A read of a lower half latches its upper half, so the pair reads consistently. (rests on R124, R157) -/
def Obligations.TickReadsArePairs : Prop :=
  (∀ s, barAlive s = true → s.pcie.d3hot = false →
    (Gives .tickLoRead s (fun t => t.out = s.out ++ [.readWord 0x0008 (BitVec.ofNat 32 (s.tick.toNat % 2 ^ 32))] ∧
      barWord t 0x000C = s.tick.toNat / 2 ^ 32 ∧
      t = { s with out := t.out, bar := { s.bar with tickHi := t.bar.tickHi } })) ∧
    (Gives .snapTickLoRead s (fun t =>
      t.out = s.out ++ [.readWord 0x0014 (BitVec.ofNat 32 (s.bar.snapTick.toNat % 2 ^ 32))] ∧
      barWord t 0x0018 = s.bar.snapTick.toNat / 2 ^ 32 ∧
      t = { s with out := t.out, bar := { s.bar with snapTickHi := t.bar.snapTickHi } })) ∧
    (Gives .gateTickLoRead s (fun t =>
      t.out = s.out ++ [.readWord 0x2E04 (BitVec.ofNat 32 (s.bar.gateTick.toNat % 2 ^ 32))] ∧
      barWord t 0x2E08 = s.bar.gateTick.toNat / 2 ^ 32 ∧
      t = { s with out := t.out, bar := { s.bar with gateTickHi := t.bar.gateTickHi } }))) ∧
  (∀ s, barAlive s = true → s.pcie.d3hot = true →
    exec .tickLoRead s = .next (unsupportedAccess 0x0008 false s) ∧
    exec .snapTickLoRead s = .next (unsupportedAccess 0x0014 false s) ∧
    exec .gateTickLoRead s = .next (unsupportedAccess 0x2E04 false s))

/-- Freeze and snapshot of PERF_CTRL act at the first boundary after the write, and touch no PM counter. (rests on R125, R638, R669) -/
def Obligations.PerfControlActsAtTheBoundary : Prop :=
  (∀ v s, barAlive s = true → exec (.perfFreezeWrite v) s = .next { s with bar := { s.bar with
    freeze := wbit v 0, snapshotPending := s.bar.snapshotPending || wbit v 1 } }) ∧
  (∀ v s, barAlive s = true → Gives (.perfSnapshotWrite v) s (fun t => t.bar.snapshotPending = true ∧
    t.bar.freeze = wbit v 0 ∧ t.perf = s.perf)) ∧
  (∀ s, s.clk.ticking = true → Gives .perfCtrlBoundary s (fun t => t.perf.live = s.perf.live ∧ t.acc = s.acc ∧ t.attrs = s.attrs ∧
    t.bar.frozen = s.bar.freeze ∧ t.bar.snapshotPending = false ∧
    (∀ k, s.bar.freeze = true → s.bar.frozen = false → perfValue t k = Tab.get 0 (perfCounted [] s) k) ∧
    (∀ k, s.bar.freeze = true → s.bar.frozen = true → perfValue t k = perfValue s k) ∧
    (∀ k, s.bar.freeze = false → perfValue t k = perfValue { s with bar := { s.bar with frozen := false } } k) ∧
    (s.bar.snapshotPending = true → t.bar.snapTick = s.tick + 1 ∧ ∀ k, perfSnap t k = Tab.get 0 (perfCounted [] s) k) ∧
    (s.bar.snapshotPending = false → t.bar.snapTick = s.bar.snapTick ∧ ∀ k, perfSnap t k = perfSnap s k))) ∧
  (∀ s, s.clk.ticking = false → exec .perfCtrlBoundary s = .next s)

/-- Raising an alarm sets its bit once and sends vector 8 when it is unmasked; ALARM_MASK_WRITE keeps the alarms. (rests on R12, R126, R670) -/
def Obligations.AlarmsAndTheirMask : Prop :=
  (∀ i s, i < 14 → wbit s.bar.alarms i = true → setAlarm i s = s) ∧
  (∀ i s, i < 14 → wbit s.bar.alarms i = false →
    let t := { s with bar := { s.bar with alarms := s.bar.alarms ||| BitVec.ofNat 32 (2 ^ i) } }
    setAlarm i s = if wbit s.bar.alarmMask i then t else msix 8 t) ∧
  (∀ v s, msix v s = if canSend s v then { s with out := s.out ++ [.msix v] }
    else { s with pcie := { s.pcie with pba := nsIns s.pcie.pba v } }) ∧
  (∀ v s, barAlive s = true → Gives (.alarmMaskWrite v) s (fun t => t.bar.alarmMask = v &&& 0x3FFF ∧
    t.bar.alarms = s.bar.alarms ∧ t.attrs = s.attrs ∧ t.sessions = s.sessions))

/-- A session opens by enable = 1, and its four indices then read 0. (R133) -/
def Obligations.SessionOpensWithIndicesZero : Prop :=
  ∀ (i : Fin 8) v s, barAlive s = true → (s.sess i).state = .closed → (s.sess i).enable = false → wbit v 4 = false →
    Gives (.sessionOpen i v) s (fun t => (t.sess i).state = .opened ∧ (t.sess i).enable = true ∧
      (t.sess i).cmdProducer = 0 ∧ (t.sess i).cmdConsumer = 0 ∧ (t.sess i).rspProducer = 0 ∧ (t.sess i).rspConsumer = 0 ∧
      (t.sess i).cmdBase = (s.sess i).cmdBase ∧ (t.sess i).rspBase = (s.sess i).rspBase ∧
      (s.power.straps.hostif = false → (t.sess i).onDie = wbit v 1) ∧ ∀ j, j ≠ i.val → t.sess j = s.sess j)

/-- Session configuration, reset, close, doorbell and consumer writes follow R128 to R131 and R134. (rests on R128, R129, R130, R134) -/
def Obligations.SessionRegistersFollowTheirRules : Prop :=
  (∀ (i : Fin 8) v s, barAlive s = true → (s.sess i).enable = false →
    Gives (.sessionConfigWrite i 0x08 v) s (fun t => (t.sess i).cmdBase % 2 ^ 32 = v.toNat / 4096 * 4096 ∧
      (t.sess i).cmdBase / 2 ^ 32 = (s.sess i).cmdBase / 2 ^ 32 ∧ ∀ j, j ≠ i.val → t.sess j = s.sess j)) ∧
  (∀ (i : Fin 8) v s, barAlive s = true → (s.sess i).enable = false →
    Gives (.sessionConfigWrite i 0x10 v) s (fun t => (t.sess i).rspBase % 2 ^ 32 = v.toNat / 4096 * 4096 ∧
      (t.sess i).rspBase / 2 ^ 32 = (s.sess i).rspBase / 2 ^ 32 ∧ ∀ j, j ≠ i.val → t.sess j = s.sess j) ∧
    exec (.sessionConfigWrite i 0x0C v) s = .next (s.setSess i { s.sess i with
      cmdBase := v.toNat * 2 ^ 32 + (s.sess i).cmdBase % 2 ^ 32 }) ∧
    exec (.sessionConfigWrite i 0x14 v) s = .next (s.setSess i { s.sess i with
      rspBase := v.toNat * 2 ^ 32 + (s.sess i).rspBase % 2 ^ 32 })) ∧
  (∀ (i : Fin 8) reg v s, barAlive s = true → reg ∈ [0x08, 0x0C, 0x10, 0x14] → (s.sess i).enable = true →
    exec (.sessionConfigWrite i reg v) s = .next (s.setSess i { s.sess i with cfgIgnored := true })) ∧
  (∀ (i : Fin 8) v s, barAlive s = true → (s.sess i).state = .closed → (s.sess i).enable = false → wbit v 0 = false →
    wbit v 4 = false → s.power.straps.hostif = false → Gives (.sessionConfigWrite i 0x00 v) s (fun t =>
      (t.sess i).onDie = wbit v 1 ∧ (t.sess i).rspIrq = wbit v 2 ∧ (t.sess i).eventIrq = wbit v 3 ∧
      (t.sess i).state = .closed ∧ ∀ j, j ≠ i.val → t.sess j = s.sess j)) ∧
  (∀ (i : Fin 8) v s, barAlive s = true → s.canPost = true →
    Gives (.sessionReset i v) s (fun t => (t.sess i).state = .closing ∧
      ∀ x ∈ (t.sess i).taken, x ∈ (s.sess i).taken ∧ x.unstarted = false)) ∧
  (∀ (i : Fin 8) s, (s.sess i).state = .closing → (s.sess i).taken = [] → (s.sess i).hold = [] →
    exec (.sessionCloseEnd i) s = .next (s.setSess i { s.sess i with
      state := .closed, enable := false, cmdProducer := 0, cmdConsumer := 0, rspProducer := 0, rspConsumer := 0 })) ∧
  (∀ (i : Fin 8) v s, barAlive s = true → (s.sess i).state ≠ .closed →
    ((s.sess i).cmdProducer + 512 - (s.sess i).cmdConsumer) % 512 ≤ (v.toNat % 512 + 512 - (s.sess i).cmdConsumer) % 512 →
    (v.toNat % 512 + 512 - (s.sess i).cmdConsumer) % 512 ≤ 256 →
    exec (.doorbell i v) s = .next (s.setSess i { s.sess i with cmdProducer := v.toNat % 512 })) ∧
  (∀ (i : Fin 8) v s, barAlive s = true → (s.sess i).state ≠ .closed →
    256 < (v.toNat % 512 + 512 - (s.sess i).cmdConsumer) % 512 →
    Gives (.doorbell i v) s (fun t => (t.sess i).state = .ringError ∧ (t.sess i).ringErrorBit = true)) ∧
  (∀ (i : Fin 8) v s, barAlive s = true → (s.sess i).state ≠ .closed →
    (v.toNat % 512 + 512 - (s.sess i).rspConsumer) % 512 ≤ (s.sess i).ringUsed →
    exec (.rspConsumerWrite i v) s = .next (drain i (s.setSess i { s.sess i with rspConsumer := v.toNat % 512 }))) ∧
  (∀ (i : Fin 8) v s, barAlive s = true → (s.sess i).state ≠ .closed →
    (s.sess i).ringUsed < (v.toNat % 512 + 512 - (s.sess i).rspConsumer) % 512 →
    Gives (.rspConsumerWrite i v) s (fun t => (t.sess i).state = .ringError))

/-- COMMAND_TAKE copies the next entry of an open session; a bulk command under load is deferred; firmware load and event delivery act by R138 and R151. (rests on R129, R130, R136, R138, R151) -/
def Obligations.CommandsAreTakenInOrder : Prop :=
  (∀ (i : Fin 8) dma s e info, canTake s i = true → ringEntry (s.sess i) dma = some e →
    cmdInfo (entryOpcode e) = some info → s.boot.service = .firmware →
    let t : Taken := ⟨s.bar.nextId, e, .waiting⟩
    let u := { s.setSess i { s.sess i with
      cmdConsumer := ((s.sess i).cmdConsumer + 1) % 512, taken := (s.sess i).taken ++ [t] } with
      bar := { s.bar with nextId := s.bar.nextId + 1 } }
    (¬(info.cls = .bulk ∧ 85 < s.attr .firmwareLoadPct) → exec (.commandTake i dma) s = .next u) ∧
    (info.cls = .bulk ∧ 85 < s.attr .firmwareLoadPct →
      exec (.commandTake i dma) s = .next (interim ⟨i, t.id⟩ .busyDeferred .deferred u))) ∧
  (∀ (i : Fin 8) s, canTake s i = true → (s.sess i).onDie = false → Gives (.commandTake i none) s (fun t =>
    (t.sess i).state = .ringError ∧ (t.sess i).taken = (s.sess i).taken)) ∧
  (∀ (p : Fin 101) s, s.boot.service = .firmware → Gives (.fwLoadUpdate p) s (fun t =>
    t.attr .firmwareLoadPct = p.val ∧ (85 < p.val → s.attr .firmwareLoadPct ≤ 85 → wbit t.bar.alarms 11 = true) ∧
    t.bar.lowLoadRun = (if 85 < p.val then 0 else s.bar.lowLoadRun + 1))) ∧
  (∀ s, exec .eventLogDelivery s = .next (deliverAll s))

/-- Raising an event sets its alarm bit and takes the next sequence number; the ROM posts none. (rests on R126, R149, R150, R162) -/
def Obligations.EventsAreNumberedAndDelivered : Prop :=
  (∀ code cat index fs s, cat < 14 → wbit (raise code cat index fs s).bar.alarms cat = true) ∧
  (∀ code cat index fs s, s.boot.service = .rom → raise code cat index fs s = setAlarm cat s) ∧
  (∀ code cat index fs s, s.boot.service ≠ .rom → receivers (setAlarm cat s) cat = [] →
    raise code cat index fs s =
      let t := setAlarm cat s
      { t with bar := { t.bar with eventSeq := t.bar.eventSeq + 1 } }) ∧
  (∀ seq code cat index, seq < 2 ^ 32 → code < 2 ^ 16 → cat < 256 → index < 2 ^ 32 →
    let e := eventEntry seq code cat index []
    e.length = 64 ∧ fieldAt e 0 2 = 0xFFFF ∧ fieldAt e 2 1 = 0 ∧ fieldAt e 4 4 = seq ∧ fieldAt e 16 2 = code ∧
      fieldAt e 18 1 = cat ∧ fieldAt e 20 4 = index)

/-- Gate writes wait for the boundary; there the gates change, a stop wins over a release, and GATE_TICK takes the tick. (rests on R153, R154, R156, R669) -/
def Obligations.GatesChangeAtTheBoundary : Prop :=
  (∀ a ∈ [(0x2400, 128, Gates.stopChC2l), (0x2600, 128, Gates.stopChL2c), (0x2C80, 16, Gates.stopGrpC2l), (0x2CC0, 16, Gates.stopGrpL2c)],
    ∀ w v s, barAlive s = true → w < a.2.1 → v ≠ 0 → Gives (.gateStopWrite (a.1 + 4 * w) v) s (fun t =>
      t.gates.pending = true ∧ t.gates.chC2l = s.gates.chC2l ∧ t.gates.chL2c = s.gates.chL2c ∧
      t.gates.grpC2l = s.gates.grpC2l ∧ t.gates.grpL2c = s.gates.grpL2c ∧
      ∀ n, n ∈ a.2.2 t.gates ↔ n ∈ a.2.2 s.gates ∨ (n / 32 = w ∧ bitOf v.toNat (n % 32) = true))) ∧
  (∀ a ∈ [(0x2800, 128, Gates.relChC2l), (0x2A00, 128, Gates.relChL2c), (0x2D00, 16, Gates.relGrpC2l), (0x2D40, 16, Gates.relGrpL2c)],
    ∀ w v s, barAlive s = true → w < a.2.1 → v ≠ 0 → Gives (.gateReleaseWrite (a.1 + 4 * w) v) s (fun t =>
      t.gates.pending = true ∧ t.gates.chC2l = s.gates.chC2l ∧ t.gates.chL2c = s.gates.chL2c ∧
      t.gates.grpC2l = s.gates.grpC2l ∧ t.gates.grpL2c = s.gates.grpL2c ∧
      ∀ n, n ∈ a.2.2 t.gates ↔ n ∈ a.2.2 s.gates ∨ (n / 32 = w ∧ bitOf v.toNat (n % 32) = true))) ∧
  (∀ v s, barAlive s = true → wbit v 0 = true →
    exec (.gateStopAll v) s = .next { s with gates := { s.gates with stopAll := true, pending := true } }) ∧
  (∀ s, s.clk.ticking = true → s.gates.pending = true → Gives .gateChangeBoundary s (fun t =>
    t.bar.gateTick = s.tick + 1 ∧ t.gates.pending = false ∧
    ∀ n, (n ∈ t.gates.chC2l ↔ s.gates.stopAll = false ∧ n ∉ s.gates.stopChC2l ∧ (n ∈ s.gates.relChC2l ∨ n ∈ s.gates.chC2l)) ∧
      (n ∈ t.gates.chL2c ↔ s.gates.stopAll = false ∧ n ∉ s.gates.stopChL2c ∧ (n ∈ s.gates.relChL2c ∨ n ∈ s.gates.chL2c)) ∧
      (n ∈ t.gates.grpC2l ↔ s.gates.stopAll = false ∧ n ∉ s.gates.stopGrpC2l ∧ (n ∈ s.gates.relGrpC2l ∨ n ∈ s.gates.grpC2l)) ∧
      (n ∈ t.gates.grpL2c ↔ s.gates.stopAll = false ∧ n ∉ s.gates.stopGrpL2c ∧ (n ∈ s.gates.relGrpL2c ∨ n ∈ s.gates.grpL2c)))) ∧
  (∀ s, s.gates.pending = false ∨ s.clk.ticking = false → exec .gateChangeBoundary s = .next s)

/-- SPI_WRITE_FRAME and SPI_READ_FRAME serve whole aligned words by R159 and R160. (rests on R15, R159, R160, R619) -/
def Obligations.SpiFramesReachBar0 : Prop :=
  (∀ (a1 a0 d0 d1 d2 d3 : Byte) sets s, barAlive s = true → (a1.toNat * 256 + a0.toNat) % 4 = 0 →
    gatedOffset s (a1.toNat * 256 + a0.toNat) = false →
    exec (.spiWriteFrame ⟨[0x02, a1, a0, d0, d1, d2, d3], sets⟩) s =
      .next (barWriteWith (a1.toNat * 256 + a0.toNat) (BitVec.ofNat 32 (leNat [d0, d1, d2, d3])) (sets.headD 0) s)) ∧
  (∀ (a1 a0 : Byte) data sets s, barAlive s = true → (a1.toNat * 256 + a0.toNat) % 4 ≠ 0 →
    exec (.spiWriteFrame ⟨0x02 :: a1 :: a0 :: data, sets⟩) s = .next { s with bar := { s.bar with spiFraming := true } }) ∧
  (∀ (a1 a0 d0 : Byte) sets s, barAlive s = true → (a1.toNat * 256 + a0.toNat) % 4 = 0 →
    exec (.spiWriteFrame ⟨[0x02, a1, a0, d0], sets⟩) s = .next { s with bar := { s.bar with spiFraming := true } }) ∧
  (∀ o s, barAlive s = true → bitOf (s.attrN .pinsFault) 12 = false → o < 65536 → o % 4 = 0 → gatedOffset s o = false →
    exec (.spiReadFrame o 4) s =
      .next ((barReadEffect o s).emit (.spiData (leBytes 4 (barWord s o))))) ∧
  (∀ o s, barAlive s = true → bitOf (s.attrN .pinsFault) 12 = false → o < 65536 → o % 4 = 0 → gatedOffset s o = true →
    exec (.spiReadFrame o 4) s =
      .next { s with bar := { s.bar with spiBusError := true }, out := s.out ++ [.spiData [0xFF, 0xFF, 0xFF, 0xFF]] }) ∧
  (∀ o n s, barAlive s = true → bitOf (s.attrN .pinsFault) 12 = false → o % 4 = 0 → 0 < n → n < 4 →
    exec (.spiReadFrame o n) s =
      .next { s with bar := { s.bar with spiFraming := true }, out := s.out ++ [.spiData []] }) ∧
  (∀ o n s, bitOf (s.attrN .pinsFault) 12 = true → exec (.spiReadFrame o n) s = .next s) ∧
  (∀ (a1 a0 : Byte) data sets s, barAlive s = true → (a1.toNat * 256 + a0.toNat) % 4 = 0 →
    exec (.spiWriteFrame ⟨0x02 :: a1 :: a0 :: data, sets⟩) s =
      .next (spiWords (a1.toNat * 256 + a0.toNat) (chunks data.length 4 data) sets s)) ∧
  (∀ o w ws sets s, w.length = 4 → gatedOffset s (o % 65536) = true →
    spiWords o (w :: ws) sets s = spiWords (o + 4) ws sets.tail { s with bar := { s.bar with spiBusError := true } }) ∧
  (∀ o w ws sets s, w.length = 4 → gatedOffset s (o % 65536) = false →
    spiWords o (w :: ws) sets s =
      spiWords (o + 4) ws sets.tail (barWriteWith (o % 65536) (BitVec.ofNat 32 (leNat w)) (sets.headD 0) s))

/-- Counters wrap modulo 2 to the power of their width, and none saturates. (R13) -/
def Obligations.CountersWrap : Prop :=
  (∀ (a : Attr) i j (n : Int) w (s : State), a.row.kind = .u w → (s.bump a i j n).attr a i j = (s.attr a i j + n) % ((2 ^ w : Nat) : Int)) ∧
  (∀ (a : Attr) i j n (s : State), Tab.get 0 (s.count a i j n).acc (a.key i j) =
    (Tab.get 0 s.acc (a.key i j) + n) % 2 ^ (8 * a.row.kind.size)) ∧
  (∀ seen k s, k ∈ perfActive s → Tab.get 0 (perfCount seen s).perf.live k =
    (Tab.get 0 s.perf.live k + perfGain s k (perfShown seen k)) % 2 ^ 48) ∧
  (0xFFFFFFFF : Word) + 1 = 0

/-- A read after a write returns the written value at once; PENDING_WRITE_EFFECT puts next-tick values into force. (rests on R18, R669) -/
def Obligations.WrittenValuesWaitAndRead : Prop :=
  (∀ (a : Attr) i j v (s : State), (s.setWritten a i j v).attrRead a i j = v ∧ (s.setWritten a i j v).attr a i j = s.attr a i j) ∧
  (∀ s, s.clk.ticking = false → exec .pendingWriteEffect s = .next s) ∧
  (∀ s, s.clk.ticking = true → Gives .pendingWriteEffect s (fun t => t.tick = s.tick ∧ t.clk.ticking = true ∧
    ∀ e ∈ s.written, (Attr.ofKey e.1).row.term = .nextTick → s.isDue e.1 = true → Attr.ofKey e.1 ≠ .resetRequest →
      ∀ p ∈ t.written, p.1 ≠ e.1)) ∧
  (∀ s, s.clk.ticking = true →
    (∀ e ∈ s.written, (Attr.ofKey e.1).row.term ≠ .nextTick ∨ s.isDue e.1 = false ∨ Attr.ofKey e.1 = .resetRequest) →
    exec .pendingWriteEffect s = .next s) ∧
  (∀ (a : Attr) i j s v, s.clk.ticking = true → i < 65536 → j < 65536 → s.written = [(a.key i j, v)] →
    s.isDue (a.key i j) = true → a.row.term = .nextTick →
    a ∉ [.resetRequest, .fecMode, .convTestMode, .fecTxInjectPeriod, .laneIfType, .laneDormant, .perfCtrEvent, .perfCtrInstance,
      .perfCtrThreshold, .mrTiaIndexX, .mrTiaIndexY, .timRefPriority] →
    exec .pendingWriteEffect s = .next { s.setAttr a i j v with written := [] })

/-- A divider ramp moves one step of the sequence at a time, and a reversing request turns it at its present ratio. (rests on R165, R175, R176) -/
def Obligations.RampMovesOneStep : Prop :=
  (∀ (d : Fin 64) s, (s.dom d).ramp = .idle → exec (.dividerRampStep d) s = .next s) ∧
  (∀ (d : Fin 64) s, (s.dom d).ramp = .starting → Gives (.dividerRampStep d) s (fun t =>
    (t.dom d).ratio = ratioDown (s.dom d).ratio ∧
    ((t.dom d).ramp = if ratioDown (s.dom d).ratio = 1 then .idle else .starting) ∧ ∀ n, n ≠ d.val → t.dom n = s.dom n)) ∧
  (∀ (d : Fin 64) s, (s.dom d).ramp = .stopping → Gives (.dividerRampStep d) s (fun t =>
    (t.dom d).ratio = ratioUp (s.dom d).ratio ∧
    ((t.dom d).ramp = if ratioUp (s.dom d).ratio = 0 then .idle else .stopping) ∧ ∀ n, n ≠ d.val → t.dom n = s.dom n)) ∧
  (∀ (d : Fin 64) s, (s.dom d).ramp = .switching → Gives (.dividerRampStep d) s (fun t =>
    t.dom d = (if (s.dom d).ratio = 16 then { ratio := 16, ramp := .starting }
      else { ratio := ratioUp (s.dom d).ratio, ramp := .switching }) ∧
    (d.val = 1 → (s.dom d).ratio = 16 → t.clk.d01House = true) ∧ ∀ n, n ≠ d.val → t.dom n = s.dom n)) ∧
  [16, 12, 8, 6, 4, 3, 2].map ratioDown = [12, 8, 6, 4, 3, 2, 1] ∧
  [1, 2, 3, 4, 6, 8, 12, 16].map ratioUp = [2, 3, 4, 6, 8, 12, 16, 0] ∧
  (∀ s d, domainExists s d = true → (s.dom d).ramp = .stopping →
    ((domainStart s d).dom d).ratio = (s.dom d).ratio ∧ ((domainStart s d).dom d).ramp = .starting) ∧
  (∀ s d, (s.dom d).ramp = .starting →
    ((domainStop s d).dom d).ratio = (s.dom d).ratio ∧ ((domainStop s d).dom d).ramp = .stopping) ∧
  (∀ s d, domainExists s d = true → (s.dom d).ramp = .idle → (s.dom d).ratio = 0 →
    (domainStart s d).dom d = { ratio := 16, ramp := .starting }) ∧
  (∀ s d, (60 ≤ d ∨ (s.isCN = true ∧ 46 ≤ d ∧ d ≤ 49) ∨ (s.power.straps.hostif = true ∧ d = 56)) → domainStart s d = s)

/-- TICK_BOUNDARY begins tick 0, and from then on advances the count by one; a reset that falls due there ends at tick 0. (rests on R64, R182, R183, R669) -/
def Obligations.TickBoundaryAdvancesTheCount : Prop :=
  (∀ k s, barAlive s = false → exec (.tickBoundary k) s = .next s) ∧
  (∀ k s, barAlive s = true → s.clk.ticking = false → s.power.xoGood = true → Gives (.tickBoundary k) s (fun t =>
    (t.tick = s.tick ∧ t.clk.ticking = true) ∨ (t.tick = 0 ∧ t.clk.ticking = false))) ∧
  (∀ k s, barAlive s = true → s.clk.ticking = false → s.power.xoGood = false →
    Gives (.tickBoundary k) s (fun t => t.clk.ticking = false)) ∧
  (∀ k s, barAlive s = true → s.clk.ticking = true → Gives (.tickBoundary k) s (fun t =>
    (t.tick = s.tick + 1 ∧ t.clk.ticking = true) ∨ (t.tick = 0 ∧ t.clk.ticking = false))) ∧
  (∀ k s, barAlive s = true → s.clk.ticking = true ∨ s.power.xoGood = true →
    let v := if s.clk.ticking then tickEnd k s else tickZero s
    let w := if latchDue v then pmLatch v else v
    let u := portResetEnd (effectBoundary (perfCtrlBoundary (gateBoundary { w with fresh := [] })))
    requestPending u ≠ 1 → u.attr .powerSealRequest ≠ 1 → Gives (.tickBoundary k) s (fun t =>
      t.tick = (if s.clk.ticking then s.tick + 1 else s.tick) ∧ t.clk.ticking = true))

/-- PM_LATCH copies every accumulator once a second, and PPS_EDGE does the work of the second whose edge the tick holds. (rests on R183, R386, R590) -/
def Obligations.PpsAndLatch : Prop :=
  (∀ s, latchDue s = true → exec .pmLatch s = .next (pmLatch s) ∧ Gives .pmLatch s (fun t =>
    t.acc = [] ∧ t.tick = s.tick ∧ t.timing.latchDone = true ∧ t.timing.latchOwed = false ∧ latchDue t = false ∧
    t.pm.prevTick = s.attrN .pmLatchTick ∧ t.pm.prevTai = s.attrN .pmTaiS ∧
    ∀ p < 2, (t.tx p).clipPrev = (s.tx p).clipLast ∧ (t.tx p).clipLast = (s.tx p).clips)) ∧
  (∀ s, latchDue s = false → exec .pmLatch s = .next s) ∧
  (∀ s, (latchCopy s).acc = [] ∧ (latchCopy s).tick = s.tick ∧ (latchCopy s).memory = s.memory ∧
    (latchCopy s).sessions = s.sessions) ∧
  (∀ (s : State) k (v : Nat), s.acc = [(k, v)] → Tab.get 0 (latchCopy s).attrs k = (v : Int)) ∧
  (∀ k s, barAlive s = false → exec (.ppsEdge k) s = .next s) ∧
  (∀ k s, barAlive s = true → s.clk.ticking = false → Gives (.ppsEdge k) s (fun t =>
    t.tick = s.tick ∧ t.clk.ticking = false)) ∧
  (∀ k s o, barAlive s = true → s.clk.ticking = true → edgeAhead s = some o → s.timing.ppsDone = false →
    exec (.ppsEdge k) s = .next (ppsEdge k o (tickUnits s) s) ∧ Gives (.ppsEdge k) s (fun t =>
      t.timing.ppsDone = true ∧ t.timing.pps = s.timing.pps + 1 ∧ t.timing.tai = s.timing.tai ∧ t.tick = s.tick)) ∧
  (∀ k s, barAlive s = true → s.clk.ticking = true → edgeAhead s = none ∨ s.timing.ppsDone = true →
    exec (.ppsEdge k) s = .next s)

/-- Each event of a rotation step moves the core through Table 7 of chapter 06, and a swap is made, rejected or forced as R203 and R204 say. (rests on R70, R195, R200, R201, R203, R204, R205, R206) -/
def Obligations.RotationFollowsItsTable : Prop :=
  (∀ (p : Fin 2) (c : Fin 12) s, rotationMay s p c = true → Gives (.rotationStepStart p c) s (fun t =>
    (t.core p c).rot = { phase := .shadow 0, start := s.tick.toNat, temp := siteTemp s p c } ∧
    (t.core p c).spare = (s.core p c).spare ∧ t.tick = s.tick ∧ t.memory = s.memory ∧
    ∀ q d, (q ≠ p.val ∨ d ≠ c.val) → t.core q d = s.core q d)) ∧
  (∀ (p : Fin 2) (c : Fin 12) s, rotationMay s p c = false → exec (.rotationStepStart p c) s = .next s) ∧
  (∀ (p : Fin 2) (c : Fin 8) s j, (s.core p c).rot.phase = .shadow j → j < 47 →
    s.tick.toNat = (s.core p c).rot.start + 4096 * (j + 1) → Gives (.shadowPhaseMove p c) s (fun t =>
    (t.core p c).rot = { (s.core p c).rot with phase := .shadow (j + 1) } ∧
    ∀ q d, (q ≠ p.val ∨ d ≠ c.val) → t.core q d = s.core q d)) ∧
  (∀ (p : Fin 2) (c : Fin 12) (m : SpareMeasure) s j e, (s.core p c).rot.phase = .shadow j → (s.core p c).spare = some e →
    s.tick.toNat = (s.core p c).rot.start + shadowTicks c → Gives (.shadowingEnd p c m) s (fun t =>
    (trimmable c e m.errors = true → (t.core p c).rot.phase = .solve ∧ (t.core p c).spare = some e) ∧
    (trimmable c e m.errors = false → (t.core p c).spare = none ∧ e ∈ (t.core p c).retired ∧ (t.core p c).rot = {}) ∧
    ∀ q d, (q ≠ p.val ∨ d ≠ c.val) → t.core q d = s.core q d)) ∧
  (∀ (p : Fin 2) (c : Fin 12) (v : TrimSet) s e, (s.core p c).rot.phase = .solve → (s.core p c).spare = some e →
    fwBackground s = true → solveLate s (s.core p c) = false →
    Gives (.spareTrimSolved p c v) s (fun t => (t.core p c).rot.phase = .confirm ∧
      (t.core p c).rot.confirmStart = s.tick.toNat ∧
      (∀ k ∈ trimOrder c, Tab.get 0 (t.conv p).trims (trimKey c e k) = match v.values.find? (fun x => x.1 = k) with
        | some x => trimClamp (trimKey c e k) x.2
        | none => Tab.get 0 (s.conv p).trims (trimKey c e k)) ∧
      ∀ n, (∀ k ∈ trimOrder c, n ≠ trimKey c e k) → Tab.get 0 (t.conv p).trims n = Tab.get 0 (s.conv p).trims n)) ∧
  (∀ (p : Fin 2) (c : Fin 12) v s e, (s.core p c).rot.phase = .solve → (s.core p c).spare = some e →
    fwBackground s = true → solveLate s (s.core p c) = true →
    Gives (.spareTrimSolved p c v) s (fun t => (t.core p c).rot.phase = .again ∧ (t.conv p).trims = (s.conv p).trims)) ∧
  (∀ (p : Fin 2) (c : Fin 12) k s, fwBackground s = false → exec (.spareTrimSolved p c k) s = .next s) ∧
  (∀ (p : Fin 2) (c : Fin 12) s, (s.core p c).rot.phase = .solve → Gives (.rotationSolveTimeout p c) s (fun t =>
    ((t.core p c).rot.phase = if (s.core p c).rot.shadowEnd + msTicks 10 < s.tick.toNat then .again else .solve) ∧
    ∀ q d, (q ≠ p.val ∨ d ≠ c.val) → t.core q d = s.core q d)) ∧
  (∀ (p : Fin 2) (c : Fin 12) (m : ConfirmMeasure) s e a, (s.core p c).rot.phase = .confirm → (s.core p c).spare = some e →
    (s.core p c).target c = some a → (s.core p c).rot.confirmStart + 4096 ≤ s.tick.toNat → rotationAllowed s p = true →
    Gives (.confirmCompareEnd p c m) s (fun t =>
      (trimmable c a m.target = true → m.offset ≤ 64 → m.gain ≤ 10 → m.time ≤ 50 →
        (t.core p c).spare = some a ∧ (t.core p c).rot = {} ∧ (t.core p c).stamp = siteTemp s p c ∧
        (t.core p c).holders = ((s.core p c).places c).map (fun x => if x = a then e else x) ∧
        (t.core p c).retired = (s.core p c).retired ∧ t.attr .convSwaps p = wrapU 32 (s.attr .convSwaps p + 1)) ∧
      (trimmable c a m.target = true → (64 < m.offset ∨ 10 < m.gain ∨ 50 < m.time) →
        (t.core p c).spare = some e ∧ (t.core p c).rot.phase = .again ∧
        t.attr .convSwapRejects p = wrapU 32 (s.attr .convSwapRejects p + 1)) ∧
      (trimmable c a m.target = false → (t.core p c).spare = none ∧ a ∈ (t.core p c).retired ∧
        (t.core p c).holders = ((s.core p c).places c).map (fun x => if x = a then e else x)) ∧
      ∀ q d, (q ≠ p.val ∨ d ≠ c.val) → t.core q d = s.core q d)) ∧
  (∀ (p : Fin 2) (c : Fin 12) m s, s.tick.toNat ≤ (s.core p c).rot.confirmStart + 4095 ∨ rotationAllowed s p = false →
    exec (.confirmCompareEnd p c m) s = .next s) ∧
  (∀ p s k, 2 ≤ k % 8 → (Tab.get 0 ((trimStep p s).conv p).trims k - Tab.get 0 (s.conv p).trims k).natAbs ≤ 1)

/-- Calibration, diagnostics and captures of a line port: what each command of chapter 06 answers, and what the rows that end them do. (rests on R195, R197, R198, R207, R208, R210, R212, R214, R217, R219, R220, R221) -/
def Obligations.CalibrationAndCaptureCommands : Prop :=
  (∀ c s e, ready 0x0601 [(16, 3)] c s = some e →
    let p := fieldAt e 16 1
    p ≤ 1 → fieldAt e 17 1 ≤ 1 → 1 ≤ fieldAt e 18 1 → fieldAt e 18 1 ≤ 3 → s.attr .convState p ≠ 4 →
    s.attr .featherState p = 0 → (s.conv p).fg = none → (s.conv p).cap.armed = none → gated s (8 + p) = false →
    exec (.syConvCalibrate c) s = .next (acceptIfNot c (s.setConv p { s.conv p with
      fg := some { full := decide (fieldAt e 17 1 = 0), rx := bitOf (fieldAt e 18 1) 0, tx := bitOf (fieldAt e 18 1) 1
                   cmd := some c, atBoot := false } }))) ∧
  (∀ (p : Fin 2) (b : List (Fin 4)) s j, (s.conv p).fg = some j → j.start = none → s.clk.ticking = true →
    Gives (.foregroundCalStart p b) s (fun t => (t.conv p).fg = some { j with start := some s.tick.toNat } ∧
      (j.rx = true → (t.conv p).rxIn = false) ∧ (j.tx = true → (t.conv p).txIn = false) ∧
      (j.atBoot = true → (t.conv p).selftestFailed = !b.isEmpty) ∧ t.tick = s.tick)) ∧
  (∀ (p : Fin 2) r s j m, (s.conv p).fg = some j → j.start = some m → j.rx = true → j.rxDone = false →
    (j.tx = false ∨ j.txDone = true) →
    Gives (.foregroundCalEnd p false r) s (fun t => (t.conv p).fg = none ∧ (t.conv p).txIn = (s.conv p).txIn ∧
      ((t.conv p).rxIn = true ↔ ((s.conv p).selftestFailed = false ∧ s.attr .convTestMode p = 0)) ∧
      ∀ d, d < 8 → (t.core p d).valid = true)) ∧
  (∀ (p : Fin 2) r s j m, (s.conv p).fg = some j → j.start = some m → j.tx = true → j.txDone = false →
    (j.rx = false ∨ j.rxDone = true) →
    Gives (.foregroundCalEnd p true r) s (fun t => (t.conv p).fg = none ∧ (t.conv p).rxIn = (s.conv p).rxIn ∧
      ((t.conv p).txIn = true ↔ ((s.conv p).selftestFailed = false ∧ s.attr .convTestMode p = 0)) ∧
      ∀ d, 8 ≤ d → d < 12 → (t.core p d).valid = true)) ∧
  (∀ c s e, ready 0x0602 [(16, 3), (20, 4)] c s = some e →
    let p := fieldAt e 16 1
    p ≤ 1 → fieldAt e 17 1 ≤ 3 → fieldAt e 18 1 ≤ 4 → 4096 ≤ fieldAt e 20 4 → fieldAt e 20 4 ≤ 4194304 →
    fieldAt e 20 4 % 4096 = 0 → s.attr .convTestMode p = 1 →
    Gives (.syConvDiag c) s (fun t => (t.conv p).diags =
      (s.conv p).diags ++ [⟨c, fieldAt e 17 1, fieldAt e 18 1, fieldAt e 20 4, s.tick.toNat⟩])) ∧
  (∀ (p : Fin 2) r s d t, (s.conv p).diags = d :: t → exec (.convDiagDone p r) s = .next (finish d.cmd .ok
    [sfld 16 4 r.mean, sfld 20 1 r.minCode, sfld 21 1 r.maxCode, sfld 24 4 r.value, (28, 8, d.tick)]
    (s.setConv p { s.conv p with diags := t }))) ∧
  (∀ c s e, ready 0x0603 [(16, 5), (24, 4), (32, 8)] c s = some e →
    let p := fieldAt e 16 1
    let n := fieldAt e 24 4
    p ≤ 1 → fieldAt e 17 1 ≤ 2 → 1 ≤ fieldAt e 18 1 → fieldAt e 18 1 ≤ 15 → fieldAt e 19 1 ≤ 3 → fieldAt e 20 1 ≤ 16 →
    4096 ≤ n → n ≤ 2097152 → n % 4096 = 0 → n * maskChannels (fieldAt e 18 1) ≤ 2097152 →
    (s.conv p).cap.armed = none → gated s (8 + p) = false → (s.conv p).fg = none → s.attr .convState p ≠ 4 →
    (fieldAt e 19 1 = 1 → s.tick.toNat < fieldAt e 32 8) →
    exec (.syCaptureArm c) s = .next (finish c .ok [] (setCap p { (s.conv p).cap with
      armed := some ⟨fieldAt e 17 1, fieldAt e 18 1, fieldAt e 19 1, fieldAt e 20 1, n, fieldAt e 32 8⟩ } s))) ∧
  (∀ c s e a, ready 0x0604 [(16, 1)] c s = some e → fieldAt e 16 1 ≤ 1 → gated s (8 + fieldAt e 16 1) = false →
    (s.conv (fieldAt e 16 1)).cap.armed = some a → a.trigger = 0 →
    exec (.syCaptureTrigger c) s =
      .next (finish c .ok [(16, 1, (capTrigger (fieldAt e 16 1) s).1)] (capTrigger (fieldAt e 16 1) s).2)) ∧
  (∀ p s, ((capTrigger p s).1 = 2 ↔ (((s.conv p).cap.bank0.isSome = true ∧ (s.conv p).cap.bank1.isSome = true) ∨
      (((s.conv p).cap.running.isSome = true ∨ (s.conv p).cap.triggered = true) ∧ (s.conv p).cap.queued = true))) ∧
    ((capTrigger p s).1 = 2 → ((capTrigger p s).2.conv p).cap = (s.conv p).cap)) ∧
  (∀ c s e b, ready 0x0605 [(16, 3), (20, 4), (24, 4), (28, 4), (32, 8)] c s = some e →
    let p := fieldAt e 16 1
    let n := fieldAt e 24 4
    p ≤ 1 → fieldAt e 17 1 ≤ 1 → fieldAt e 18 1 ≤ 1 → fieldAt e 20 4 % 64 = 0 → n % 64 = 0 → 64 ≤ n → n ≤ 65536 →
    ((s.sess c.session).onDie = true → n ≤ 8192 ∧ fieldAt e 32 8 + n ≤ 8192) → gated s (8 + p) = false →
    (s.conv p).cap.bank (fieldAt e 17 1) = some b → fieldAt e 20 4 + n ≤ b.size → b.seq = fieldAt e 28 4 →
    b.epoch = s.attrN .lineEpoch p → b.dieId = s.attrN .identityDieId →
    let u := writeArea s c.session (fieldAt e 32 8) (bytesAt b.data (fieldAt e 20 4) n)
    exec (.syCaptureRead c) s = .next (finish c .ok [(16, 4, n), (24, 8, b.firstTick)]
      (if fieldAt e 18 1 = 1 then setCap p ((s.conv p).cap.setBank (fieldAt e 17 1) none) u else u))) ∧
  (∀ c s e, ready 0x0606 [(16, 1)] c s = some e → fieldAt e 16 1 ≤ 1 → gated s (8 + fieldAt e 16 1) = false →
    exec (.syCaptureDisarm c) s = .next (finish c .ok [] (setCap (fieldAt e 16 1)
      { (s.conv (fieldAt e 16 1)).cap with armed := none, queued := false, triggered := false, nextBank := none } s))) ∧
  (∀ (p : Fin 2) s a, (s.conv p).cap.armed = some a → (s.conv p).cap.running = none → (s.conv p).cap.triggered = true →
    s.clk.ticking = true → Gives (.captureStart p) s (fun t =>
      (t.conv p).cap.triggered = false ∧ (t.conv p).cap.running =
        some { bank := (s.conv p).cap.nextBank.getD (b01 (s.conv p).cap.bank0.isSome), firstTick := s.tick.toNat
               dieId := s.attrN .identityDieId, epoch := s.attrN .lineEpoch p, cfg := a, frames := (s.tx p).frames
               marks := if a.point = 1 then [(s.tick.toNat, residualsNow s p)] else [] })) ∧
  (∀ (p : Fin 2) x s r, (s.conv p).cap.running = some r → captureWhole s r x = true → r.bank ≤ 1 →
    Gives (.captureDone p x) s (fun t => (t.conv p).cap.running = none ∧ (t.conv p).cap.queued = false ∧
      (t.conv p).cap.seq = (s.conv p).cap.seq + 1 ∧ (t.conv p).cap.bank r.bank =
        some ⟨((s.conv p).cap.seq + 1).toNat, r.firstTick, r.dieId, r.epoch, r.cfg.length * maskChannels r.cfg.mask,
          captureBytes s p r x⟩)) ∧
  (∀ (p : Fin 2) x s r, (s.conv p).cap.running = some r → captureWhole s r x = false → exec (.captureDone p x) s = .next s) ∧
  (∀ (p : Fin 2) s k, k ∈ trimKeys s p → Gives (.trimInterpolation p) s (fun t =>
    Tab.get 0 (t.conv p).targets k = trimTarget s p k (siteTemp s p (k / 512)) ∧ (t.conv p).trims = (s.conv p).trims)) ∧
  (∀ (p : Fin 2) (c : Fin 12) s, s.boot.service = .firmware → movedEnough s p c = true →
    (s.core p c).lastWrite + 16875000000 ≤ s.tick.toNat → Gives (.cellRecordWrite p c) s (fun t =>
      t.record p c = some (recordBytes s p c (match s.record p c with | some o => recordSeq o + 1 | none => 1)) ∧
      (t.core p c).lastWrite = s.tick.toNat)) ∧
  (∀ (p : Fin 2) (c : Fin 12) n s, recordGood (recordBytes s p c n) c = true) ∧
  (∀ (p : Fin 2) (c : Fin 12) s, movedEnough s p c = false → exec (.cellRecordWrite p c) s = .next s)

/-- Acquisition, gain, dispersion and tracking of a millrace: each event does to the port what chapter 07 says of it. (rests on R229, R232, R235, R236, R237, R239, R240, R245, R246, R251, R252, R258) -/
def Obligations.MillraceFollowsItsPhases : Prop :=
  (∀ (p : Fin 2) y s, tiaDue s p y = true → Gives (.tiaStepStart p y) s (fun t =>
    ((t.mr p).pair y).tia = some { ends := t.pins.opcUntil, up := decide (((s.mr p).pair y).error < 0), k := s.attrN .mrTiaStepDb p } ∧
    t.pins.opcUntil = max (4 * s.tick.toNat) s.pins.opcUntil + 4 ∧
    t.attr (tiaIndexAttr y) p = s.attr (tiaIndexAttr y) p + (if ((s.mr p).pair y).error < 0 then 1 else -1) ∧
    (t.mr p).pair (!y) = (s.mr p).pair (!y))) ∧
  (∀ (p : Fin 2) y s, tiaDue s p y = false → exec (.tiaStepStart p y) s = .next s) ∧
  (∀ (p : Fin 2) y s k, ((s.mr p).pair y).tia = some k → (s.conv p).rxIn = true →
    320 * k.ends + 1000 * s.attrN .mrTiaSettleUs p ≤ 1280 * s.tick.toNat → Gives (.tiaStepSettle p y) s (fun t =>
    ((t.mr p).pair y).tia = none ∧ t.attr (gainAttr y) p =
      clampInt 0 30 (if k.up then s.attr (gainAttr y) p - k.k else s.attr (gainAttr y) p + k.k))) ∧
  (∀ (p : Fin 2) y s k, ((s.mr p).pair y).tia = some k → (s.conv p).rxIn = false → Gives (.tiaStepSettle p y) s (fun t =>
    ((t.mr p).pair y).tia = none ∧ t.attr (gainAttr y) p = s.attr (gainAttr y) p)) ∧
  (∀ (p : Fin 2) r f b s, s.attr .mrState p < 3 ∨ ((s.mr p).loopTick = s.tick.toNat ∧ 433 ≤ (s.mr p).loopCount) →
    exec (.timingLoopUpdate p r f b) s = .next s) ∧
  (∀ (p : Fin 2) r f b s, 3 ≤ s.attr .mrState p → ((s.mr p).loopTick = s.tick.toNat → (s.mr p).loopCount < 433) →
    Gives (.timingLoopUpdate p r f b) s (fun t => t.attr .mrRatioWord p = ((r : Nat) : Int) ∧
    (t.mr p).position = nextPosition (s.mr p).position (s.attrN .mrRatioWord p) f ∧
    (t.mr p).phase = nextPosition (s.mr p).position (s.attrN .mrRatioWord p) f % 2 ^ 44 ∧
    (t.mr p).settled = if b = true ∧ ratioInRange r = true then (s.mr p).settled + 1 else 0)) ∧
  (∀ (p : Fin 2) n s v w l, (s.mr p).search.cands = v :: w :: l → s.attr .mrState p = 2 →
    (s.mr p).search.since + 4 ≤ s.tick.toNat → Gives (.cdCandidateStep p n) s (fun t => (t.mr p).search =
      ⟨w :: l, (s.mr p).search.fine, some (betterCandidate (s.mr p).search.best v n), s.tick.toNat⟩)) ∧
  (∀ (p : Fin 2) n s v, (s.mr p).search.cands = [v] → s.attr .mrState p = 2 →
    (s.mr p).search.since + 4 ≤ s.tick.toNat → Gives (.cdCandidateStep p n) s (fun t =>
      ((s.mr p).search.fine = true → t.attr .mrState p = 3 ∧
        t.attr .mrCdBulkPsNm p = (betterCandidate (s.mr p).search.best v n).1) ∧
      ((s.mr p).search.fine = false → (t.mr p).search =
        ⟨fineAround (rxMode s p) (betterCandidate (s.mr p).search.best v n).1, true, none, s.tick.toNat⟩))) ∧
  (∀ m b v, v ∈ fineAround m b → -cdRange m ≤ v ∧ v ≤ cdRange m) ∧
  (∀ (p : Fin 2) s r n, (s.mr p).retune = some (r, n) → s.attr .mrState p = 8 → n ≤ s.tick.toNat →
    Gives (.cdRetune p) s (fun t => (t.mr p).retune = none ∧ t.attr .mrCdBulkPsNm p =
      clampInt (-cdRange (rxMode s p)) (cdRange (rxMode s p)) (s.attr .mrCdBulkPsNm p + r))) ∧
  (∀ (p : Fin 2) s, s.attr .mrState p ≠ 8 → Gives (.cdRetune p) s (fun t => (t.mr p).retune = none ∧
    t.attr .mrCdBulkPsNm p = s.attr .mrCdBulkPsNm p)) ∧
  (∀ (p : Fin 2) f s, (s.conv p).rxIn = false ∨ s.attr .mrState p < 5 → exec (.receivedFrame p f) s = .next s) ∧
  (∀ (p : Fin 2) (f : FrameIn) s, (s.conv p).rxIn = true → s.clk.ticking = true → (s.tx p).announce = none →
    (s.mr p).reacquire = none → 5 ≤ s.attr .mrState p → s.attr .mrState p ≤ 8 → (s.mr p).lockOwed = false →
    (s.attr .mrState p = 5 → f.mode = none ∨ f.mode.map (·.val) = some (rxMode s p)) →
    Gives (.receivedFrame p f) s (fun t => (t.mr p).frames = (s.mr p).frames + 1 ∧
      (t.mr p).rxFrames = (newFrame p f s :: (s.mr p).rxFrames).take 4 ∧
      (s.attr .mrState p = 5 → (t.mr p).found = ((s.mr p).found || decide (f.mode.map (·.val) = some (rxMode s p)))) ∧
      (s.attr .mrState p = 6 → (t.mr p).trained = (s.mr p).trained + b01 (decide (f.mode.map (·.val) = some (rxMode s p)))) ∧
      (s.attr .mrState p = 7 → (t.mr p).confirmed = if frameLol s p f then 0 else (s.mr p).confirmed + 1) ∧
      (s.attr .mrState p = 8 → (t.mr p).bad = if frameLol s p f then (s.mr p).bad + 1 else 0))) ∧
  (∀ (p : Fin 2) (i : Fin 16) (j : Fin 337) (err sol : Nat) s src, 6 ≤ s.attr .mrState p → i.val < modeSails (rxMode s p) →
    updateSource (s.mr p) j = some src →
    let e := Tab.get (0, 0) (s.mr p).errs i
    let held := (s.mr p).changes.any (fun n => src.1.changeBlock (s.attrN .mrRatioWord p) n = some src.2)
    (held = false → src.2 ≠ 1 → (src.2 = 0 → Tab.get none (s.mr p).taps i = none ∨ sol ≤ e.2) →
      (src.2 ≠ 0 → e.1 = 0 ∨ err ≤ 4 * e.1) → Gives (.eqBlockUpdate p i j err sol) s (fun t =>
        (∃ u, Tab.get none (t.mr p).taps i = some u ∧ u.draw = Config.freeValue s.free) ∧ t.free = s.free + 1 ∧
        Tab.get none (t.mr p).shadow i = Tab.get none (s.mr p).taps i ∧ i.val ∉ (t.mr p).stale ∧
        ∀ k, k ≠ i.val → Tab.get none (t.mr p).taps k = Tab.get none (s.mr p).taps k)) ∧
    (held = true ∨ (2 ≤ src.2 ∧ e.1 ≠ 0 ∧ 4 * e.1 < err) → Gives (.eqBlockUpdate p i j err sol) s (fun t =>
      (t.mr p).taps = (s.mr p).taps ∧ t.attr .mrSailEqHolds p i = wrapU 32 (s.attr .mrSailEqHolds p i + 1))) ∧
    (held = false → src.2 = 0 → Tab.get none (s.mr p).taps i ≠ none → e.2 < sol →
      Gives (.eqBlockUpdate p i j err sol) s (fun t => (t.mr p).taps = (s.mr p).taps ∧
        t.attr .mrSailTrainSkips p i = wrapU 32 (s.attr .mrSailTrainSkips p i + 1)))) ∧
  (∀ (p : Fin 2) s, s.clk.ticking = true → acqAllowed s p = true → s.attr .mrState p = 0 → Gives (.acquisitionStart p) s
    (fun t => t.attr .mrState p = 1 ∧ t.attr .mrGainX p = 15 ∧ t.attr .mrGainY p = 15 ∧ t.attr .mrLock p = 0)) ∧
  (∀ (p : Fin 2) (f : Int) s, s.attr .mrState p = 4 → f.natAbs ≤ 3500000 → Gives (.acqPhaseComplete p f) s (fun t =>
    t.attr .mrState p = 5 ∧ (t.mr p).carrier = f ∧ (t.mr p).start = s.tick.toNat)) ∧
  (∀ (p : Fin 2) f s,
    (s.attr .mrState p = 1 → (s.mr p).start < s.tick.toNat → (s.mr p).x.error.natAbs ≤ 25 → (s.mr p).y.error.natAbs ≤ 25 →
      Gives (.acqPhaseComplete p f) s (fun t =>
        t.attr .mrState p = if (s.mr p).fineOnly = false ∧ s.attr .mrCdMode p = 2 then 3 else 2)) ∧
    (s.attr .mrState p = 3 → 16 ≤ (s.mr p).settled → Gives (.acqPhaseComplete p f) s (fun t => t.attr .mrState p = 4)) ∧
    (s.attr .mrState p = 5 → (s.mr p).found = true → Gives (.acqPhaseComplete p f) s (fun t => t.attr .mrState p = 6)) ∧
    (s.attr .mrState p = 6 → 4 ≤ (s.mr p).trained → Gives (.acqPhaseComplete p f) s (fun t => t.attr .mrState p = 7)) ∧
    (s.attr .mrState p = 7 → 8 ≤ (s.mr p).confirmed → Gives (.acqPhaseComplete p f) s (fun t =>
      t.attr .mrState p = 8 ∧ t.attr .mrLock p = 1))) ∧
  (∀ (p : Fin 2) s b, acqBound (rxMode s p) (s.attrN .mrState p) (s.mr p).fineOnly = some b →
    let n := (s.mr p).start + b + (if s.attrN .mrState p = 2 ∨ s.attrN .mrState p = 4 then 1 else 0)
    (s.tick.toNat < n → exec (.acqPhaseTimeout p) s = .next s) ∧
    (n ≤ s.tick.toNat → Gives (.acqPhaseTimeout p) s (fun t => t.attr .mrState p = 1))) ∧
  (∀ (p : Fin 2) s, (s.mr p).regain = none → exec (.reacquireTimeout p) s = .next s) ∧
  (∀ (p : Fin 2) s n, (s.mr p).regain = some n → s.attr .mrState p ≠ 8 → n ≤ s.tick.toNat →
    Gives (.reacquireTimeout p) s (fun t => t.attr .mrState p = 1 ∧ (t.mr p).regain = none))

/-- The millrace commands, its quality measures and its snapshots do what R254, R255 and R264 to R272 say. (rests on R254, R255, R261, R264, R266, R267, R268, R270, R271, R272) -/
def Obligations.MillraceCommandsAndSnapshots : Prop :=
  (∀ c s e, ready 0x0701 [(16, 2)] c s = some e → fieldAt e 16 1 ≤ 1 → s.attr .mrState (fieldAt e 16 1) ≠ 0 →
    (fieldAt e 17 1 = 0xFF → exec (.syMrReacquire c) s = .next (finish c .ok []
      (s.setMr (fieldAt e 16 1) { s.mr (fieldAt e 16 1) with reacquire := some false }))) ∧
    (fieldAt e 17 1 ≤ 2 → Gives (.syMrReacquire c) s (fun t => t.attr .mrCdMode (fieldAt e 16 1) = ((fieldAt e 17 1 : Nat) : Int) ∧
      (t.mr (fieldAt e 16 1)).reacquire = some false))) ∧
  (∀ c dma s e, ready 0x0702 [(16, 2), (20, 8), (32, 8)] c s = some e → fieldAt e 16 1 ≤ 1 → fieldAt e 17 1 ≤ 2 →
    fieldAt e 20 4 % 8 = 0 → fieldAt e 24 4 % 8 = 0 → 8 ≤ fieldAt e 24 4 → fieldAt e 20 4 + fieldAt e 24 4 ≤ 40960 →
    ((s.sess c.session).onDie = true → fieldAt e 32 8 + fieldAt e 24 4 ≤ 8192) →
    commitPending s (1 + fieldAt e 16 1) = false →
    exec (.syMrTable c dma) s = .next (finish c .ok [(16, 4, fieldAt e 24 4)]
      (if fieldAt e 17 1 = 0 then s.setTable (1 + fieldAt e 16 1) { s.table (1 + fieldAt e 16 1) with
          staging := tableWrite (1 + fieldAt e 16 1) (s.table (1 + fieldAt e 16 1)).staging (fieldAt e 20 4)
            (readArea s c.session (fieldAt e 32 8) (fieldAt e 24 4) dma)
          staged := true }
       else writeArea s c.session (fieldAt e 32 8) (tableRead (1 + fieldAt e 16 1)
          (if fieldAt e 17 1 = 1 then (s.table (1 + fieldAt e 16 1)).staging else (s.table (1 + fieldAt e 16 1)).active)
          (fieldAt e 20 4) (fieldAt e 24 4))))) ∧
  (∀ b t o l, tableRead b (tableWrite b t o l) o l.length = l ∧
    ∀ k, (k < o ∨ o + l.length ≤ k) → Tab.get 0 (tableWrite b t o l) k = Tab.get 0 t k) ∧
  (∀ c s e, ready 0x0703 [(16, 4), (24, 8)] c s = some e →
    let p := fieldAt e 16 1
    p ≤ 1 → fieldAt e 17 1 ≤ 2 → fieldAt e 19 1 ≤ 1 →
    (fieldAt e 17 1 = 2 → fieldAt e 18 1 < modeSails (rxMode s p) ∧ 6 ≤ s.attr .mrState p) →
    feathered s p = false → inCalibration s p = false → (fieldAt e 19 1 = 1 → s.tick.toNat < fieldAt e 24 8) →
    let t := if fieldAt e 19 1 = 1 then fieldAt e 24 8 else if s.clk.ticking = true then s.tick.toNat + 1 else 0
    exec (.syMrSnapshot c) s = .next (finish c .ok [(16, 1, (snapRequest p ⟨fieldAt e 17 1, fieldAt e 18 1, t⟩ s).1)]
      (snapRequest p ⟨fieldAt e 17 1, fieldAt e 18 1, t⟩ s).2)) ∧
  (∀ p r s, ((snapRequest p r s).1 = 2 ↔ ((s.mr p).snap.queued.isSome = true ∨
      ((s.mr p).snap.bank0.isSome = true ∧ (s.mr p).snap.bank1.isSome = true))) ∧
    ((snapRequest p r s).1 = 2 → ((snapRequest p r s).2.mr p).snap = (s.mr p).snap)) ∧
  (∀ (p : Fin 2) s r b, (s.mr p).snap.running = some (r, b, none) → s.clk.ticking = true → r.target ≤ s.tick.toNat →
    r.point < 2 → 1 ≤ s.attr .mrState p → s.attr .mrState p ≤ 4 → Gives (.snapshotStart p) s (fun t =>
      ∃ f, (t.mr p).snap.running = some (r, b, some (s.tick.toNat, f)) ∧ f.number = 0 ∧ f.taken = s.tick.toNat * 1728)) ∧
  (∀ (p : Fin 2) s, s.attr .mrState p = 0 ∨ 5 ≤ s.attr .mrState p → exec (.snapshotStart p) s = .next s) ∧
  (∀ (p : Nat) f s r b, (s.mr p).snap.running = some (r, b, none) → r.target ≤ s.tick.toNat →
    ((takeFrame p f s).mr p).snap.running = some (r, b, some (s.tick.toNat, newFrame p f s))) ∧
  (∀ (p : Fin 2) x s r b n f, (s.mr p).snap.running = some (r, b, some (n, f)) → b ≤ 1 →
    Gives (.snapshotDone p x) s (fun t => (t.mr p).snap.queued = none ∧ (t.mr p).snap.seq = (s.mr p).snap.seq + 1 ∧
      ((s.mr p).snap.queued = none → (t.mr p).snap.running = none) ∧
      (t.mr p).snap.bank b = some ⟨((s.mr p).snap.seq + 1).toNat, n, s.attrN .identityDieId, s.attrN .lineEpoch p, 65536,
        (if f.number = 0 then { f with samples := x } else f).rows p r.point r.sail⟩)) ∧
  (∀ c s e b, ready 0x0704 [(16, 3), (20, 4), (24, 4), (28, 4), (32, 8)] c s = some e →
    let p := fieldAt e 16 1
    let n := fieldAt e 24 4
    p ≤ 1 → fieldAt e 17 1 ≤ 1 → fieldAt e 18 1 ≤ 1 → fieldAt e 20 4 % 64 = 0 → n % 64 = 0 → 64 ≤ n → n ≤ 65536 →
    ((s.sess c.session).onDie = true → fieldAt e 32 8 + n ≤ 8192) →
    (s.mr p).snap.bank (fieldAt e 17 1) = some b → fieldAt e 20 4 + n ≤ b.size → b.seq = fieldAt e 28 4 →
    b.epoch = s.attrN .lineEpoch p → b.dieId = s.attrN .identityDieId →
    let u := writeArea s c.session (fieldAt e 32 8) (bytesAt b.data (fieldAt e 20 4) n)
    exec (.syMrSnapshotRead c) s = .next (finish c .ok [(16, 4, n), (24, 8, b.firstTick)]
      (if fieldAt e 18 1 = 1 then setSnap p ((s.mr p).snap.setBank (fieldAt e 17 1) none) u else u))) ∧
  (∀ (p : Fin 2) q s, s.tick.toNat < (s.mr p).qual.last + 1024 → exec (.qualityMeasureUpdate p q) s = .next s) ∧
  (∀ (p : Fin 2) q s, (s.mr p).qual.last + 1024 ≤ s.tick.toNat → Gives (.qualityMeasureUpdate p q) s (fun t =>
    t.attr .mrNoiseFloorDbfs p = Attr.mrNoiseFloorDbfs.row.kind.fit (noiseFloor s p q.bins (noiseBins s p)) ∧ (t.mr p).qual.count = (s.mr p).qual.count + 1 ∧
    (t.mr p).qual.last = s.tick.toNat ∧
    t.attr .mrCfoKhz p = if s.attr .mrState p = 8 then wrapS 32 q.cfo else -2147483648)) ∧
  (∀ a i j (s : State), a ∈ needsLock → s.attr .mrState i ≠ 8 → attrValue s a i j = a.row.reset)

/-- Line mode commands, the mode switch, and every event of a codeword in the hopper do what chapters 08 and 09 say. (rests on R289, R291, R294, R296, R307, R308, R311, R314, R315, R324, R325, R327) -/
def Obligations.ModeChangesAndCodewords : Prop :=
  (∀ c s e, ready 0x0801 [(16, 3)] c s = some e →
    let p := fieldAt e 16 1
    fieldAt e 18 1 ≤ 1 → p ≤ 1 → fieldAt e 17 1 ≤ 3 → portHeld s p = false → (s.tx p).change = none →
    (modeCuts s p (fieldAt e 17 1) = true → fieldAt e 18 1 = 1) →
    exec (.syLineMode c) s = .next (if s.attrN .lineMode p = fieldAt e 17 1 then finish c .ok [(24, 1, 2)] s
      else acceptIfNot c (startModeChange p (fieldAt e 17 1) (some c) (bitOf (fieldAt e 18 1) 0) s))) ∧
  (∀ p m k b (s : State), ((startModeChange p m k b s).tx p).change =
    some { mode := m, start := if s.clk.ticking = true then s.tick.toNat + 1 else 0, cmd := k, force := b }) ∧
  (∀ c s e k, ready 0x0801 [(16, 3)] c s = some e →
    let p := fieldAt e 16 1
    2 ≤ fieldAt e 18 1 → fieldAt e 18 1 ≤ 3 → p ≤ 1 → portHeld s p = false → (s.tx p).change = some k →
    s.tick.toNat + 1 ≤ k.start + 255 → Gives (.syLineModeCancel c) s (fun t =>
      (t.tx p).change = none ∧ t.attr .lineModePending p = 255 ∧ t.attr .lineMode p = s.attr .lineMode p)) ∧
  (∀ (p : Fin 2) s k, (s.tx p).change = some k →
    (s.tick.toNat < k.start + 256 → exec (.modeSwitch p) s = .next s) ∧
    (k.start + 256 ≤ s.tick.toNat → Gives (.modeSwitch p) s (fun t => t.attr .lineMode p = ((k.mode : Nat) : Int) ∧
      t.attr .lineModePending p = 255 ∧ (t.tx p).change = none))) ∧
  (∀ (p : Fin 2) s, (s.tx p).change = none → exec (.modeSwitch p) s = .next s) ∧
  (∀ c dma s e, ready 0x0802 [(16, 3), (20, 8), (32, 8)] c s = some e →
    let b := txTableBit (fieldAt e 16 1) (fieldAt e 18 1)
    let o := fieldAt e 20 4
    let n := fieldAt e 24 4
    fieldAt e 16 1 ≤ 1 → fieldAt e 18 1 ≤ 1 → fieldAt e 17 1 ≤ 2 → o % 8 = 0 → n % 8 = 0 → 8 ≤ n →
    o + n ≤ txTableSize (fieldAt e 18 1) → areaBad s c.session (fieldAt e 32 8) n = false →
    ((s.sess c.session).onDie = true → n ≤ 8192) → commitPending s b = false →
    exec (.syTxTable c dma) s = .next (finish c .ok [(16, 4, n)]
      (if fieldAt e 17 1 = 0 then s.setTable b { s.table b with
          staging := tableWrite b (s.table b).staging o (readArea s c.session (fieldAt e 32 8) n dma), staged := true }
       else writeArea s c.session (fieldAt e 32 8) (tableRead b
          (if fieldAt e 17 1 = 1 then (s.table b).staging else (s.table b).active) o n)))) ∧
  (∀ (p : Fin 2) (phi : Fin 1728) m n s, let u := hopperTo p (s.now phi) s
    u.attr .mrState p ≠ 8 ∨ (u.mr p).sourceOf m n = none → exec (.codewordEntry p phi m n) s = .next u) ∧
  (∀ (p : Fin 2) (phi : Fin 1728) m n s f, let u := hopperTo p (s.now phi) s
    (u.mr p).sourceOf m n = some f → u.attr .mrState p = 8 →
    (s.now phi < f.entryClock n ∨ f.entryClock n + 2 < s.now phi → exec (.codewordEntry p phi m n) s = .next u) ∧
    (f.entryClock n ≤ s.now phi → s.now phi ≤ f.entryClock n + 2 → Gives (.codewordEntry p phi m n) s (fun t => ∃ w,
      (t.fec p).cws = (u.fec p).cws ++ [w] ∧ (t.fec p).nextId = (u.fec p).nextId + 1 ∧ w.id = (u.fec p).nextId ∧
      w.entry = s.now phi ∧ w.stamp = m ∧ w.index = n ∧ w.frame = f.number ∧ w.mode = f.mode ∧ w.llrs = f.llrs p n ∧
      (w.last = true ↔ n + 1 = modeCodewords f.mode) ∧ w.hit = false ∧ w.iters = 0 ∧
      (w.low = true ↔ u.attr .fecMode p = 1)))) ∧
  (∀ (p : Fin 2) (phi : Fin 1728) stops r s w, let u := hopperTo p (s.now phi) s
    ((u.fec p).cws.map (·.id)).Nodup → r ∈ stops → (u.fec p).cws.find? (stoppedBy (s.now phi) r) = some w →
    Gives (.cogCodewordStop p phi stops) s (fun t => w.finish ∈ (t.fec p).cws)) ∧
  (∀ (p : Fin 2) (phi : Fin 1728) stops s, let u := hopperTo p (s.now phi) s
    (∀ r ∈ stops, (u.fec p).cws.any (stoppedBy (s.now phi) r) = false) → exec (.cogCodewordStop p phi stops) s =
      .next (u.setFec p (u.fec p))) ∧
  (∀ w : Codeword, w.finish.place = .stopped ∧ w.finish.id = w.id ∧ w.finish.iters = w.lastIter ∧ w.lastIter ≤ w.cap ∧
    (w.finish.status = .cap ↔ stopIter w.llrs w.cap = none)) ∧
  (∀ (p : Fin 2) (phi : Fin 1728) s w, let u := hopperTo p (s.now phi) s
    w ∈ (u.fec p).cws → w.place ≠ .stopped → w.deadline ≤ s.now phi →
    Gives (.codewordDeadline p phi) s (fun t => w.expire ∈ (t.fec p).cws ∧ w.expire.place = .stopped ∧ w.expire.id = w.id ∧
      (w.doneBy w.deadline = false → w.expire.status = .late))) ∧
  (∀ (p : Fin 2) (phi : Fin 1728) (c : Fin 96) s, let u := hopperTo p (s.now phi) s
    (∀ w, (u.fec p).cws.find? (fun w => w.loader = some c.val) = some w → Gives (.codewordLoadEnd p phi c) s (fun t =>
      w.loaded (s.now phi) ∈ (t.fec p).cws ∧ (w.loaded (s.now phi)).id = w.id ∧
      (w.place = .loading c.val → (w.loaded (s.now phi)).place = .decode c.val (s.now phi)) ∧
      (w.place = .prefetch c.val false → (w.loaded (s.now phi)).place = .prefetch c.val true))) ∧
    ((u.fec p).cws.find? (fun w => w.loader = some c.val) = none → exec (.codewordLoadEnd p phi c) s = .next u)) ∧
  (∀ (p : Fin 2) (phi : Fin 1728) (c : Fin 96) s, let u := hopperTo p (s.now phi) s
    (u.fec p).retries (s.now phi) c.val = true → Gives (.idleCogRetry p phi [c]) s (fun t =>
      c.val ∈ (t.fec p).work ∧ (t.fec p).workAt = s.now phi ∧ (t.fec p).cws = (u.fec p).cws)) ∧
  (∀ p now (s : State) c w, (s.fec p).work = [c] → c < 96 → (s.fec p).inService c = true → (s.fec p).prefetched c = false →
    (∀ v ∈ (s.fec p).cws, v.loader.isSome = true → now < v.loadBy) →
    (s.fec p).cws.find? (takeable (now / 1728) (c / 12)) = some w →
      ∃ v ∈ ((hopperStep p now s).fec p).cws, v.id = w.id ∧ v.place = .prefetch c false ∧ v.loadBy = now + 48) ∧
  (∀ (p : Fin 2) (phi : Fin 1728) l s, Gives (.idleCogRetry p phi l) s (fun t =>
    (t.fec p).cws.map (·.id) = (s.fec p).cws.map (·.id))) ∧
  (∀ (p : Fin 2) (phi : Fin 1728) (s : State) m n stops (c : Fin 96) l, let x := fun (t : State) => t.fec p
    ((x s).cws.map (·.id)).Nodup → (∀ w ∈ (x s).cws, w.id < (x s).nextId) →
    ∀ i ∈ [Instr.codewordEntry p phi m n, .cogCodewordStop p phi stops, .codewordLoadEnd p phi c, .idleCogRetry p phi l,
        .codewordDeadline p phi],
      Gives i s (fun t => ((x t).cws.map (·.id)).Nodup ∧ ∀ w ∈ (x t).cws, w.id < (x t).nextId)) ∧
  (∀ (p : Fin 2) (phi : Fin 1728) d s w, let u := hopperTo p (s.now phi) (sluiceTo (s.now phi) s)
    (u.fec p).nextRelease = some w → w.release ≤ s.now phi → Gives (.codewordRelease p phi d) s (fun t =>
      (t.fec p).cws = (u.fec p).cws.filter (fun v => v.id ≠ w.id) ∧
      Tab.get 0 t.acc (Attr.key .fecCwTotal p 0) = (Tab.get 0 u.acc (Attr.key .fecCwTotal p 0) + 1) % 2 ^ 64 ∧
      ∃ h ∈ (t.line p).held, h.frame = w.frame ∧ h.index = w.index ∧ h.stamp = w.stamp ∧ h.release = w.release ∧
        h.low = w.low)) ∧
  (∀ (p : Fin 2) (phi : Fin 1728) s w, let u := hopperTo p (s.now phi) (sluiceTo (s.now phi) s)
    (u.fec p).nextRelease = some w → w.release ≤ s.now phi → w.place = .stopped →
    Gives (.codewordRelease p phi []) s (fun t => Tab.get 0 t.acc (Attr.key (outcomeAttr w) p 0) =
      (Tab.get 0 u.acc (Attr.key (outcomeAttr w) p 0) + 1) % 2 ^ 64)) ∧
  (∀ (p : Fin 2) (phi : Fin 1728) d s, let u := hopperTo p (s.now phi) (sluiceTo (s.now phi) s)
    (∀ w, (u.fec p).nextRelease = some w → s.now phi < w.release) → exec (.codewordRelease p phi d) s = .next u) ∧
  (∀ (p : Fin 2) s, Gives (.cogRetirement p) s (fun t =>
    ∀ e ∈ (s.fec p).retiring, e.2 ≤ s.tick.toNat → e.1 ∈ (t.fec p).retired ∧
      ∀ w ∈ (t.fec p).cws, w.place ≠ .start e.1 ∧ ∀ b, w.place ≠ .prefetch e.1 b)) ∧
  (∀ (p : Fin 2) s, (∀ e ∈ (s.fec p).retiring, s.tick.toNat < e.2) → exec (.cogRetirement p) s = .next s) ∧
  (∀ (p : Fin 2) s, let k := Attr.key .fecMode p 0
    exec (.fecModeChange p) s = .next (if (s.clk.ticking && s.isDue k && s.written.any (fun e => e.1 = k)) = true then
      settle (fecModeChange p (Tab.get (s.attr .fecMode p) s.written k) { s with written := Tab.erase s.written k }) else s)) ∧
  (∀ p v (s : State), s.attr .fecMode p ≠ v → (fecModeChange p v s).attr .fecMode p = v ∧
    ((fecModeChange p v s).fec p).hitUntil = some (s.tick.toNat + 4) ∧
    ((fecModeChange p v s).fec p).cws.all (·.hit) = true) ∧
  (∀ (p : Fin 2) s, exec (.fecModeHitEnd p) s = .next (settle (fecHitEnd p s))) ∧
  (∀ p s b, (s.fec p).hitUntil = some b → ((fecHitEnd p s).fec p).hitUntil = if b ≤ s.tick.toNat then none else some b)

/-- The Facet encoder: for any 8,192 information bits the codeword keeps them and satisfies every parity check of H. (rests on R300, R301, R303) -/
def Obligations.FacetEncodeSatisfiesEveryCheck : Prop :=
  ∀ u : List Bool, u.length = 8192 →
    (facetEncode u).length = 9216 ∧ (facetEncode u).take 8192 = u ∧ syndromeZero (facetEncode u) = true

/-- Overhead, the general communication channels and feathering of a line port do what chapter 10 says. (rests on R339, R345, R349, R352, R353, R354, R355, R356, R358, R359, R363, R364) -/
def Obligations.LineFrameGccAndFeathering : Prop :=
  (∀ (p : Fin 2) (k : Fin 4) (phi : Fin 1728) m s, let u := sluiceTo (s.now phi) s
    let at' := (u.line p).held.find? (fun w => w.unparsed && w.stamp = m && w.index = 126 * k.val &&
      decide (w.release ≤ s.now phi))
    (at' = none → exec (.overheadParse p k phi m) s = .next u) ∧
    (∀ w, at' = some w → Gives (.overheadParse p k phi m) s (fun t => ∃ v ∈ (t.line p).held, v.frame = w.frame ∧
      v.index = w.index ∧ v.ok = some ((u.conv p).rxIn && overheadOk u p k w.bytes)))) ∧
  (∀ (p : Fin 2) (k : Fin 4) (phi : Fin 1728) m s, Gives (.overheadParse p k phi m) s (fun t =>
    t.tick = s.tick ∧ t.memory = s.memory)) ∧
  (∀ (s t : State) p q k gm gu, k < 4 → gm.length ≤ 3 → gu.length ≤ 37 → t.attrN .lineMode q = rxMode s p → rxMode s p ≤ 3 →
    overheadOk s p k (blockOverhead t q k gm gu) = true) ∧
  (∀ p b (s : State), Tab.get 0 (readBlock0 p b s).acc (Attr.key .alfBeiSum p 0) =
    (Tab.get 0 s.acc (Attr.key .alfBeiSum p 0) + fieldAt b 22 2) % 2 ^ 64) ∧
  (∀ p i bdi psl gd (s : State), let r := Tab.get {} (s.line p).slots i
    r.psl.value = psl → 2 ≤ r.psl.run → (readSlot p i bdi psl gd s).attr .slotPslRx p i = psl) ∧
  (∀ (p : Fin 2) b v s, (s.line p).gccMIn.done.head? ≠ some (b, v) → exec (.gccMPacketReceived p b v) s = .next s) ∧
  (∀ (p : Fin 2) b v s, (s.line p).gccMIn.done.head? = some (b, v) →
    let u := s.setLine p { s.line p with gccMIn := { (s.line p).gccMIn with done := (s.line p).gccMIn.done.tail } }
    v = false → exec (.gccMPacketReceived p b v) s = .next (u.bump .gccMRxBad p)) ∧
  (∀ (p : Fin 2) b s, (s.line p).gccMIn.done.head? = some (withCrc b, true) → 12 ≤ b.length → fieldAt b 10 2 + 12 = b.length →
    let u := s.setLine p { s.line p with gccMIn := { (s.line p).gccMIn with done := (s.line p).gccMIn.done.tail } }
    let own := gccLinkLocal b = true ∨ ownAddress s = some (gccDst b)
    let room := bufferBytes (s.line p).gccMBuf + b.length ≤ 1048576
    let hop := fieldAt b 1 1
    let fwd := withCrc (overlay b 1 [BitVec.ofNat 8 (hop - 1)])
    (own → fieldAt b 8 1 = 1 → exec (.gccMPacketReceived p (withCrc b) true) s =
      .next (remoteGate p b (u.bump .gccMRxPackets p))) ∧
    ((own ∧ fieldAt b 8 1 ≠ 1) ∨ (¬ own ∧ s.attr .mgmtForwardEnable = 0) → room →
      Gives (.gccMPacketReceived p (withCrc b) true) s (fun t =>
        (t.line p).gccMBuf = (s.line p).gccMBuf ++ [⟨b, gccLinkLocal b, s.tick.toNat, false⟩])) ∧
    (¬ own → s.attr .mgmtForwardEnable ≠ 0 → s.fwServing = false → room →
      Gives (.gccMPacketReceived p (withCrc b) true) s (fun t =>
        (t.line p).gccMBuf = (s.line p).gccMBuf ++ [⟨b, false, s.tick.toNat, true⟩])) ∧
    (¬ own → s.attr .mgmtForwardEnable ≠ 0 → s.fwServing = true → hop ≤ 1 →
      exec (.gccMPacketReceived p (withCrc b) true) s = .next ((u.bump .gccMRxPackets p).bump .gccMRxExpired p)) ∧
    (¬ own → s.attr .mgmtForwardEnable ≠ 0 → s.fwServing = true → 2 ≤ hop → fieldAt b 8 1 ≠ 1 →
      gccRoom s (1 - p) false fwd.length = true → Gives (.gccMPacketReceived p (withCrc b) true) s (fun t =>
        (t.line (1 - p)).gcc.general = (s.line (1 - p)).gcc.general ++ [fwd]))) ∧
  (∀ (p : Fin 2) b v s,
    ((s.line p).gccUIn.done.head? ≠ some (b, v) → exec (.gccUPacketReceived p b v) s = .next s) ∧
    ((s.line p).gccUIn.done.head? = some (withCrc b, true) → 1 ≤ b.length →
      bufferBytes (s.line p).gccUBuf + b.length ≤ 262144 → Gives (.gccUPacketReceived p (withCrc b) true) s (fun t =>
        (t.line p).gccUBuf = (s.line p).gccUBuf ++ [⟨b, false, s.tick.toNat, false⟩]))) ∧
  (∀ c dma s e, ready 0x0A02 [(16, 4), (24, 8)] c s = some e →
    let p := fieldAt e 16 1
    let n := fieldAt e 18 2
    let b := readArea s c.session (fieldAt e 24 8) n dma
    p ≤ 1 → n ≤ 1036 → areaBad s c.session (fieldAt e 24 8) n = false →
    (fieldAt e 17 1 = 0 → 12 ≤ n → gccSendBad b = false → gccRoom s p false (n + 4) = true →
      (ownAddress s ≠ none ∨ gccLinkLocal b = true) → exec (.syGccSend c dma) s =
        .next (finish c .ok [(16, 4, 65536 - queueBytes ((queueGccM p false (withCrc (withSrc s b)) s).line p).gcc.general)]
          (queueGccM p false (withCrc (withSrc s b)) s))) ∧
    (fieldAt e 17 1 = 1 → 1 ≤ n → gated s (6 + p) = false → queueBytes (s.line p).gcc.u + n + 4 ≤ 65536 →
      Gives (.syGccSend c dma) s (fun t => (t.line p).gcc.u = (s.line p).gcc.u ++ [withCrc b]))) ∧
  (∀ c s e, ready 0x0A03 [(16, 2), (20, 4), (24, 8)] c s = some e →
    let p := fieldAt e 16 1
    let n := fieldAt e 20 4
    let buf := fun (t : State) => if fieldAt e 17 1 = 0 then (t.line p).gccMBuf else (t.line p).gccUBuf
    p ≤ 1 → fieldAt e 17 1 ≤ 1 → 64 ≤ n → n ≤ 65536 → areaBad s c.session (fieldAt e 24 8) n = false →
    ((s.sess c.session).onDie = true → n ≤ 8192) → (fieldAt e 17 1 = 1 → gated s (6 + p) = false) →
    Gives (.syGccReceive c) s (fun t => takeRecords n (buf s) ++ buf t = buf s ∧
      ((takeRecords n (buf s)).map gccRecordBytes).flatten.length ≤ n)) ∧
  (∀ c s e, ready 0x0A04 [(16, 3), (20, 4), (24, 3), (28, 2)] c s = some e →
    let p := fieldAt e 16 1
    p ≤ 1 → fieldAt e 17 1 ≤ 1 → fieldAt e 18 1 ≠ 0 → fieldAt e 20 4 ≤ 262143 →
    (fieldAt e 24 1 = 1 ∨ fieldAt e 24 1 = 2) → fieldAt e 25 1 ≤ 1 → 1 ≤ fieldAt e 26 1 → fieldAt e 26 1 ≤ 3 →
    fieldAt e 28 2 < (if fieldAt e 25 1 = 0 then 4096 else 512) → gccRoom s p true 24 = true →
    Gives (.syGccGate c) s (fun t => ∃ k, (t.line p).gcc.control = (s.line p).gcc.control ++ [k] ∧ k.length = 24 ∧
      fieldAt k 8 1 = 1 ∧ fieldAt k 12 1 = fieldAt e 24 1 ∧ fieldAt k 13 1 = fieldAt e 25 1 ∧
      fieldAt k 14 1 = fieldAt e 26 1 ∧ fieldAt k 16 2 = fieldAt e 28 2)) ∧
  (∀ c s e, ready 0x0A01 [(16, 2)] c s = some e →
    let p := fieldAt e 16 1
    p ≤ 1 → fieldAt e 17 1 = 0 → portActive s p = true → s.attr .mrState p = 8 → portMember s p (fun _ => true) = false →
    clockSelected s p = false → (s.conv p).fg = none → s.attr .convTestMode p ≠ 1 → (s.tx p).change = none →
    Gives (.syFeatherRequest c) s (fun t => t.attr .featherState p = 1 ∧
      ((t.line p).feather.seq = (s.attrN .featherSeq p + 1) % 256) ∧ (t.line p).feather.request = some c)) ∧
  (∀ c s e, ready 0x0A01 [(16, 2)] c s = some e →
    let p := fieldAt e 16 1
    p ≤ 1 → fieldAt e 17 1 = 1 → portActive s p = false → s.attr .featherState p ≠ 5 →
    Gives (.syFeatherWake c) s (fun t => (t.line p).feather.wakers = (s.line p).feather.wakers ++ [c] ∧
      if s.attr .featherState p = 4 then t.attr .featherState p = 5
      else (t.line p).feather.wake = some ((s.line p).feather.wake.getD .wake) ∧
        t.attr .featherState p = s.attr .featherState p)) ∧
  (∀ (p : Fin 2) s, let due := (s.line p).feather.start + msTicks (s.attrN .featherTimeoutMs p) ≤ s.tick.toNat
    (s.attr .featherState p = 1 → due → Gives (.featherTimeout p) s (fun t =>
      t.attr .featherState p = 0 ∧ (t.line p).feather.wakeFrames = 64 ∧ (t.line p).feather.abortWords = 16)) ∧
    (s.attr .featherState p ≠ 1 ∨ ¬ due → exec (.featherTimeout p) s = .next s)) ∧
  (∀ (p : Fin 2) s, let due := (s.line p).feather.start + 64 ≤ s.tick.toNat
    (s.attr .featherState p = 2 → due → Gives (.featherCountdownEnd p) s (fun t =>
      t.attr .featherState p = 3 ∧ (t.line p).feather.start = s.tick.toNat)) ∧
    (s.attr .featherState p ≠ 2 ∨ ¬ due → exec (.featherCountdownEnd p) s = .next s)) ∧
  (∀ (p : Fin 2) s, s.attr .featherState p = 3 → (s.line p).feather.written = false → s.fwServing = true →
    Gives (.featherRecordsWritten p) s (fun t => (t.line p).feather.written = true ∧ (t.conv p).rxIn = false ∧
      (t.conv p).txIn = false ∧ ∀ c, c < 12 → (t.record p c).isSome = true)) ∧
  (∀ (p : Fin 2) s, s.tick.toNat % 32 ≠ 0 → exec (.beaconWordTx p) s = .next s) ∧
  (∀ (p : Fin 2) s code, s.tick.toNat % 32 = 0 → (s.line p).feather.wordTick ≠ s.tick.toNat → beaconNow s p = some code →
    opcFlagged s (s.attrN .mrTiaCs p) = false → Gives (.beaconWordTx p) s (fun t => ∃ start, t.out = s.out ++
      [.opcFrame (s.attrN .mrTiaCs p) start (opcWordFrame (s.attrN .featherOpcBeaconTxReg p) (beaconWord code)) 7])) ∧
  (∀ (p : Fin 2) s code, code = 2 ∨ code = 3 → s.attr .featherState p = 4 → opcFlagged s (s.attrN .mrTiaCs p) = false →
    1 ≤ (s.line p).feather.beaconRun → wordDue s p = true →
    Gives (.beaconWordRx p (BitVec.ofNat 32 (beaconWord code))) s (fun t => t.attr .featherState p = 5)) ∧
  (∀ (p : Fin 2) w s, s.attr .featherState p ≠ 4 ∨ wordDue s p = false → exec (.beaconWordRx p w) s = .next s) ∧
  (∀ (p : Fin 2) s, s.attr .featherState p = 4 → (s.line p).feather.beaconLost = false →
    (s.line p).feather.beaconLast + 128 ≤ s.tick.toNat → Gives (.beaconLost p) s (fun t =>
      t.attr .featherBeaconOk p = 0 ∧ t.attr .featherState p = 4)) ∧
  (∀ (p : Fin 2) s k, s.attr .featherState p = 4 → (s.line p).feather.wake = some k → Gives (.wakeStart p) s (fun t =>
    t.attr .featherState p = 5 ∧ (t.line p).feather.wake = none)) ∧
  (∀ (p : Fin 2) s, (s.line p).feather.wake = none → exec (.wakeStart p) s = .next s) ∧
  (List.range 125).foldl (fun n j => n + gccCount 256 j) 0 = 256 ∧
  (List.range 125).foldl (fun n j => n + gccCount 1024 j) 0 = 1024

/-- Re-sizing, delineation and the SY_GROUP_CONFIG forms change a group as R403 to R414 and R427 say, and no other group. (rests on R389, R404, R408, R409, R410, R411, R426, R427) -/
def Obligations.GroupsResizeAsTheRulesSay : Prop :=
  (∀ (g : Fin 512) s, s.group g = none → exec (.memberRemoval g) s = .next s ∧ exec (.memberReturn g) s = .next s ∧
    exec (.resizeSwitch g) s = .next s) ∧
  (∀ (g : Fin 512) s x, s.group g = some x → x.resize.isSome = true →
    exec (.memberRemoval g) s = .next s ∧ exec (.memberReturn g) s = .next s) ∧
  (∀ (g : Fin 512) s x m k, s.group g = some x → x.resize = none → x.born ≤ s.tick.toNat → s.attr .grpAutoResize g = 1 →
    m ∈ x.tx → s.attrN .grpShrinkHoldTicks g ≤ (if memberPort m = 0 then x.fail0 else x.fail1) →
    k ∈ x.tx → k ∈ x.cfg → k ∉ x.toHold → slotGoing s k = false →
    (if memberPort k = 0 then x.fail0 else x.fail1) < s.attrN .grpShrinkHoldTicks g →
    Gives (.memberRemoval g) s (fun t => ∃ y r, t.group g = some y ∧ y.resize = some r ∧ r.start = s.tick.toNat ∧
      m ∉ r.newSet ∧ k ∈ r.newSet ∧ (∀ j ∈ r.newSet, j ∈ x.cfg) ∧ y.tx = x.tx ∧ y.cfg = x.cfg ∧ y.rx = x.rx ∧
      (∀ h, h ≠ g.val → t.group h = s.group h) ∧ t.tick = s.tick ∧ t.memory = s.memory ∧ t.attrs = s.attrs)) ∧
  (∀ (g : Fin 512) s x m, s.group g = some x → x.resize = none → x.born ≤ s.tick.toNat → m ∈ x.cfg → m ∉ x.tx →
    m ∉ x.held → m ∉ x.toHold → slotGoing s m = false → s.attrN .grpRestoreTicks g ≤ Tab.get 0 x.fit m →
    Gives (.memberReturn g) s (fun t => ∃ y r, t.group g = some y ∧ y.resize = some r ∧ r.start = s.tick.toNat ∧
      m ∈ r.newSet ∧ y.tx = x.tx ∧ y.cfg = x.cfg ∧ (∀ h, h ≠ g.val → t.group h = s.group h))) ∧
  (∀ (g : Fin 512) s x r, s.group g = some x → x.resize = some r →
    (s.tick.toNat < r.start + 3 → exec (.resizeSwitch g) s = .next s) ∧
    (r.start + 3 ≤ s.tick.toNat → Gives (.resizeSwitch g) s (fun t =>
      t.group g = some { x with tx := r.newSet, resize := none, fit := x.fit.filter (fun e => !r.newSet.contains e.1) } ∧
      (∀ h, h ≠ g.val → t.group h = s.group h) ∧ t.tick = s.tick ∧ t.memory = s.memory ∧
      Tab.get 0 t.acc (Attr.key .grpPmResizes g 0) = (Tab.get 0 s.acc (Attr.key .grpPmResizes g 0) + 1) % 2 ^ 32))) ∧
  (∀ (g : Fin 512) k h b q (phi : Fin 1728) s, let u := sluiceTo (s.now phi) s
    (u.groupNow g).bind Group.nextUnit = none → exec (.encapsulationUnitRx g k h b q phi) s = .next u) ∧
  (∀ (g : Fin 512) k h b q (phi : Fin 1728) s x h' b' q' pl, let u := sluiceTo (s.now phi) s
    u.groupNow g = some x → x.nextUnit = some (h', b', q', pl) →
    ((x.skipped ≠ k ∨ h' ≠ h ∨ b' ≠ b ∨ q' ≠ q) → exec (.encapsulationUnitRx g k h b q phi) s = .next u) ∧
    (x.skipped = k → h' = h → b' = b → q' = q → Gives (.encapsulationUnitRx g k h b q phi) s (fun t =>
      let y := (delineate x h).1.passBytes (8 + b.length)
      t.group g = some (tidyFrom y.rxq y).2 ∧
      (∀ j, j ≠ g.val → t.group j = u.group j) ∧ t.tick = s.tick ∧ t.memory = s.memory))) ∧
  (∀ x h, x.locked = true → encHecOk h = false →
    (delineate x h).1.locked = decide (x.bad ≠ 2) ∧ (delineate x h).2 = false) ∧
  (∀ x h, x.locked = true → encHecOk h = true → (delineate x h).1 = { x with bad := 0 } ∧ (delineate x h).2 = encValid h) ∧
  (∀ x h, x.locked = false → encValid h = true → (delineate x h).1.locked = decide (x.hunt = 2) ∧
    (delineate x h).2 = decide (x.hunt = 2)) ∧
  (∀ x h, x.locked = false → encValid h = false → (delineate x h).1 = { x with hunt := 0 } ∧ (delineate x h).2 = false) ∧
  (∀ op s sid e dma, firstFail (groupChecks op s sid e dma) = none ↔
    fieldAt e 16 2 ≤ 511 ∧ fieldAt e 18 1 ≤ 5 ∧
    (if op = 1 then fieldAt e 20 2 = 0 else 1 ≤ fieldAt e 20 2 ∧ fieldAt e 20 2 ≤ 256) ∧
    areaBad s sid (fieldAt e 24 8) (2 * fieldAt e 20 2) = false ∧
    (∀ w ∈ memberWords s sid e dma, w / 128 % 256 = 0) ∧ distinct ((memberWords s sid e dma).map memberOfWord) = true ∧
    ((s.group (fieldAt e 16 2)).isSome = true ↔ ¬ (op = 0 ∨ 5 < op))) ∧
  (∀ c dma s e op, ready 0x0C01 [(16, 3), (20, 2), (24, 8)] c s = some e → fieldAt e 18 1 = op →
    firstFail (groupChecks op s c.session e dma) = none →
    let g := fieldAt e 16 2
    let ms := (memberWords s c.session e dma).map memberOfWord
    let x := (s.group g).getD {}
    let stays := fun (t : State) => (∀ h, h ≠ g → t.group h = s.group h) ∧ t.tick = s.tick ∧ t.memory = s.memory
    (op = 0 → addedChecks s ms = false → Gives (.syGroupCreate c dma) s (fun t => stays t ∧
      t.group g = some { born := s.tick.toNat + 1, cfg := ms, tx := ms, rx := ms, demapSet := ms })) ∧
    (op = 1 → channelsOf s g = [] → Gives (.syGroupDelete c dma) s (fun t => stays t ∧ t.group g = none)) ∧
    (op = 2 → addedChecks s ms = false → x.cfg.length + ms.length ≤ 256 → Gives (.syGroupAddMembers c dma) s (fun t =>
      stays t ∧ t.group g = some { x with cfg := x.cfg ++ ms, held := nsUnion x.held ms })) ∧
    (op = 3 → (∀ m ∈ ms, m ∈ x.cfg) → nsDiff x.coming ms ≠ [] → Gives (.syGroupHold c dma) s (fun t => stays t ∧
      t.group g = some { x with
        toHold := nsUnion x.toHold ms, toRelease := nsDiff x.toRelease ms, cmds := x.cmds ++ [c] })) ∧
    (op = 4 → (∀ m ∈ ms, m ∈ x.cfg) → Gives (.syGroupRelease c dma) s (fun t => stays t ∧
      t.group g = some { x with
        toRelease := nsUnion x.toRelease ms, toHold := nsDiff x.toHold ms, cmds := x.cmds ++ [c] })) ∧
    (op = 5 → (∀ m ∈ ms, m ∈ x.cfg ∧ m ∉ x.tx ∧ m ∉ x.rx ∧ m ∉ x.coming) → Gives (.syGroupRemove c dma) s (fun t =>
      stays t ∧ ∃ y, t.group g = some y ∧ y.cfg = nsDiff x.cfg ms ∧ y.tx = x.tx ∧ y.rx = x.rx))) ∧
  (∀ c s e dma items, ready 0x0B01 (batchNamed ++ [(48, 4)]) c s = some e → 1 ≤ fieldAt e 16 4 → fieldAt e 16 4 ≤ 256 →
    areaBad s c.session (fieldAt e 24 8) (fieldAt e 20 4) = false →
    areaBad s c.session (fieldAt e 40 8) (fieldAt e 32 4) = false →
    parseItems (fieldAt e 16 4) (batchIn s c.session e dma.bytes) = some items →
    (items.map (itemRoom s)).sum ≤ fieldAt e 32 4 → (pmIsLatest s e = true ∨ pmIsPrevious s e = true) →
    let more : List Fld := [(28, 4, pmSequence s e), (32, 8, if pmIsLatest s e then s.attrN .pmLatchTick else s.pm.prevTick),
      (40, 8, if pmIsLatest s e then s.attrN .pmTaiS else s.pm.prevTai)]
    let r := runBatch c dma.slice (batchIn s c.session e dma.bytes) (fieldAt e 40 8)
      (runPmItem (s.rights c.session) (pmSequence s e)) items more { batchStart s c.session with
        latch := pmSequence s e, latchTick := if pmIsLatest s e then s.attrN .pmLatchTick else s.pm.prevTick
        latchTai := if pmIsLatest s e then s.attrN .pmTaiS else s.pm.prevTai } s
    exec (.syPmRead c dma) s = .next (answer c r) ∧ r.1.attrs = s.attrs ∧ r.1.acc = s.acc ∧
      (items.length ≤ dma.slice → ∃ b : BatchRun, b.good + b.bad = items.length ∧ r.2 = batchEnd b more))

/-- After a re-size the committed rates of the unshed channels fit the capacity, and shedding follows the shed order. (rests on R420, R421) -/
def Obligations.SheddingFitsTheCapacity : Prop :=
  (∀ g cap cause (s : State),
    let t := evalShedding g cap cause s
    guaranteed t g = guaranteed s g ∧
    sumCommitted t ((guaranteed t g).filter (fun c => (t.chan c).shed.isNone)) ≤ cap ∧
    (∀ c ∈ guaranteed s g, ∀ d ∈ guaranteed s g, shedKey s c < shedKey s d → (s.chan c).shed = none →
      (t.chan c).shed.isSome = true → (t.chan d).shed.isSome = true) ∧
    (∀ c, (s.chan c).shed = none → (t.chan c).shed = none ∨ (t.chan c).shed = some cause) ∧
    t.tick = s.tick ∧ t.memory = s.memory ∧ t.groups = s.groups) ∧
  (∀ (s : State) c d, s.attrN .chTieRank c < 256 → s.attrN .chTieRank d < 256 → c < 65536 → d < 65536 →
    (shedKey s c < shedKey s d ↔ s.attrN .chClass c < s.attrN .chClass d ∨ (s.attrN .chClass c = s.attrN .chClass d ∧
      (s.attrN .chTieRank c < s.attrN .chTieRank d ∨ (s.attrN .chTieRank c = s.attrN .chTieRank d ∧ c < d)))))

/-- Client lanes: locking, loss of lock, sweeps, dormancy, the lane table and eye scans follow chapter 13. (rests on R438, R439, R440, R441, R442, R443, R444, R446, R447, R448, R449, R455) -/
def Obligations.ClientLanesStartSweepAndRelock : Prop :=
  (∀ (l : Fin 64) s, laneState s l ≤ 1 ∨ laneState s l = 4 → exec (.laneLocked l) s = .next s) ∧
  (∀ (l : Fin 64) s, s.domRuns (laneDomain l) = true → (laneState s l = 2 ∧
        ((s.lane l).woken = none ∨ entryValid (laneEntry s l) = true)) ∨ (laneState s l = 3 ∧ (s.lane l).sweep = none) ∨
      (laneState s l = 5 ∧ (s.lane l).retryFrom = none) → Gives (.laneLocked l) s (fun t =>
    laneState t l = 4 ∧ (∀ k, k ≠ l.val → t.lane k = s.lane k) ∧ t.tick = s.tick ∧ t.memory = s.memory)) ∧
  (∀ (l : Fin 64) s, laneState s l ≠ 4 → exec (.laneLockLost l) s = .next s) ∧
  (∀ (l : Fin 64) s, laneState s l = 4 → Gives (.laneLockLost l) s (fun t =>
    laneState t l = 5 ∧ (t.lane l).settings = startEntry s l ∧ (t.lane l).attemptStart = s.tick.toNat ∧
    (t.lane l).attempts = 0 ∧ t.attr .laneRelocks l = (s.attr .laneRelocks l + 1) % 4294967296)) ∧
  (∀ (l : Fin 64) s, laneState s l ≠ 5 → exec (.relockAttemptTimeout l) s = .next s ∧ exec (.relockRetry l) s = .next s) ∧
  (∀ (l : Fin 64) s, laneState s l = 5 → (s.lane l).retryFrom = none →
    (s.lane l).attemptStart + 3907 ≤ s.tick.toNat → Gives (.relockAttemptTimeout l) s (fun t =>
      if (s.lane l).attempts < 2 then laneState t l = 5 ∧ (t.lane l).attempts = (s.lane l).attempts + 1 ∧
        (t.lane l).attemptStart = s.tick.toNat
      else if s.attr .laneAutoSweep l = 1 then laneState t l = 3 ∧ (t.lane l).sweep = some (ownSweep s l)
      else laneState t l = 5 ∧ (t.lane l).retryFrom = some (s.lane l).attemptStart)) ∧
  (∀ (l : Fin 64) s b, laneState s l = 5 → (s.lane l).retryFrom = some b → b + 78125 ≤ s.tick.toNat →
    Gives (.relockRetry l) s (fun t => (t.lane l).retryFrom = none ∧ (t.lane l).attemptStart = s.tick.toNat)) ∧
  (∀ (l : Fin 64) s, s.written.all (fun e => e.1 ≠ Attr.key .laneDormant l 0) = true ∨
      s.isDue (Attr.key .laneDormant l 0) = false →
    exec (.laneDormantEntry l) s = .next s ∧ exec (.laneDormantExit l) s = .next s) ∧
  (∀ (l : Fin 64) s, s.clk.ticking = true → s.isDue (Attr.key .laneDormant l 0) = true →
    (Attr.key .laneDormant l 0, 1) ∈ s.written → Gives (.laneDormantEntry l) s (fun t =>
    t.written = Tab.erase s.written (Attr.key .laneDormant l 0) ∧ t.tick = s.tick ∧ t.memory = s.memory ∧
    ∀ k ∈ laneMates s l, laneState t k = 1 ∧ t.attr .laneDormant k = 1)) ∧
  (∀ (l : Fin 64) s, s.clk.ticking = true → s.isDue (Attr.key .laneDormant l 0) = true →
    (Attr.key .laneDormant l 0, 0) ∈ s.written → Gives (.laneDormantExit l) s (fun t =>
    t.tick = s.tick ∧ t.memory = s.memory ∧ ∀ k ∈ laneMates s l, t.attr .laneDormant k = 0 ∧ (laneState s k = 1 →
      laneState t k = (if s.attr .laneIfFirst k = 0xFF then 0 else 2) ∧
      t.attr .laneGeneration k = (s.attr .laneGeneration k + 1) % 4294967296 ∧
      (s.attr .laneIfFirst k ≠ 0xFF → (t.lane k).settings = startEntry s k ∧ (t.lane k).woken = some s.tick.toNat)))) ∧
  (∀ (l : Fin 64) rs s,
    let ls := (laneMates s l).filter (fun k => decide (laneState s k = 3) && (s.lane k).sweep.isSome)
    (ls = [] ∨ rs.length ≠ ls.length → exec (.laneSweepDone l rs) s = .next s) ∧
    (ls ≠ [] → rs.length = ls.length → Gives (.laneSweepDone l rs) s (fun t => ∀ q ∈ ls.zip rs,
      (t.lane q.1).sweep = none ∧ laneState t q.1 = 3 ∧ (t.lane q.1).settings = sweptEntry (s.lane q.1).settings q.2 ∧
      t.attrN .laneCtleCode q.1 = bestCode (sweepScores q.2) ∧
      ∀ j, (s.lane q.1).sweep = some j → t.attr .laneEqSource q.1 = (if j.writeback then 0 else 1)))) ∧
  (∀ (l : Fin 64) rs s, (∀ k ∈ laneMates s l, ∀ j, (s.lane k).sweep = some j → j.writeback = false) →
    Gives (.laneSweepDone l rs) s (fun t => t.laneTable = s.laneTable)) ∧
  (∀ sc k, k < 37 → sc.getD k 0 ≤ sc.getD (bestCode sc) 0 ∧ (k < bestCode sc → sc.getD k 0 < sc.getD (bestCode sc) 0)) ∧
  (∀ c s e, ready 0x0D01 [(16, 2)] c s = some e →
    let l := fieldAt e 16 1
    l ≤ 63 → fieldAt e 17 1 ≤ 1 → s.attrN .laneIfFirst l = 0xFF ∨ s.attrN .laneIfFirst l = l →
    (∀ k ∈ laneMates s l, 2 ≤ laneState s k ∧ (s.lane k).sweep = none) → Gives (.syLaneSweep c) s (fun t =>
      ∀ k ∈ laneMates s l, laneState t k = 3 ∧ (t.lane k).sweep = some ⟨some c, fieldAt e 17 1 = 1⟩)) ∧
  (∀ c dma s e, ready 0x0D02 [(16, 3), (20, 4), (24, 8)] c s = some e →
    let n := fieldAt e 18 1
    let d := readArea s c.session (fieldAt e 24 8) (16 * n) dma
    1 ≤ n → fieldAt e 17 1 + n ≤ 64 → areaBad s c.session (fieldAt e 24 8) (16 * n) = false →
    (fieldAt e 16 1 = 0 → 2 ≤ s.attrN .sessionPermission c.session → exec (.syLaneTableWrite c dma) s =
      if (List.range n).any (fun k => entryBad (bytesAt d (16 * k) 16)) then .next (finish c .eRange [] s)
      else .next (finish c .ok [] { s with laneTable := laneTableWith s.laneTable (fieldAt e 20 4) (fieldAt e 17 1) d })) ∧
    (fieldAt e 16 1 = 1 → exec (.syLaneTableRead c) s = .next (finish c .ok [(20, 4, fieldAt s.laneTable 8 4)]
      (writeArea s c.session (fieldAt e 24 8) (bytesAt s.laneTable (32 + 16 * fieldAt e 17 1) (16 * n)))))) ∧
  (∀ t b f d, 16 * f + d.length ≤ 1024 → laneTableOk (laneTableWith t b f d) = true ∧
    bytesAt (laneTableWith t b f d) (32 + 16 * f) d.length = d) ∧
  (∀ c s e, ready 0x0D03 [(16, 3), (20, 6)] c s = some e →
    let l := fieldAt e 16 1
    l ≤ 63 → fieldAt e 17 1 ≤ 2 → 10 ≤ fieldAt e 18 1 → fieldAt e 18 1 ≤ 30 → -32 ≤ fieldInt e 20 1 → fieldInt e 21 1 ≤ 31 →
    1 ≤ fieldAt e 22 1 → fieldAt e 22 1 ≤ 64 → -63 ≤ fieldInt e 23 1 → fieldInt e 24 1 ≤ 63 → 1 ≤ fieldAt e 25 1 →
    fieldAt e 25 1 ≤ 127 → 1 ≤ scanPoints e → scanPoints e ≤ 4096 → laneState s l = 4 → (s.lane l).scan = none →
    (s.lane l).sweep = none → gated s 10 = false → s.attr .thermalLevel < 2 → exec (.syEyeScan c) s = .next (acceptIfNot c
      (s.setLane l { s.lane l with scan := some { cmd := c, points := scanPoints e, start := s.tick.toNat, gen := s.attrN .laneGeneration l, dwell := fieldAt e 18 1 } }))) ∧
  (∀ (l : Fin 64) n s, (s.lane l).scan = none → exec (.eyeScanDone l n) s = .next s) ∧
  (∀ (l : Fin 64) n s j, (s.lane l).scan = some j →
    (j.cut = false → n.length ≠ j.points → exec (.eyeScanDone l n) s = .next s) ∧
    (j.cut = true ∨ n.length = j.points → Gives (.eyeScanDone l n) s (fun t =>
      (t.lane l).scan = none ∧ (∃ b, (t.lane l).eye = some b ∧ b.gen = j.gen ∧ b.start = j.start ∧
        bytesAt b.data 0 (4 * min n.length j.points) = (n.take j.points).flatMap (fun k => leBytes 4 (min k (2 ^ j.dwell)))) ∧
      ∀ k, k ≠ l.val → t.lane k = s.lane k))) ∧
  (∀ c s e b, ready 0x0D04 [(16, 3), (20, 4), (24, 4), (28, 4), (32, 8)] c s = some e →
    let l := fieldAt e 16 1
    let n := fieldAt e 24 4
    l ≤ 63 → fieldAt e 17 1 ≤ 1 → fieldAt e 18 1 ≤ 1 → fieldAt e 20 4 % 64 = 0 → n % 64 = 0 → 64 ≤ n → n ≤ 65536 →
    ((s.sess c.session).onDie = true → n ≤ 8192) → areaBad s c.session (fieldAt e 32 8) n = false →
    (s.lane l).eye = some b → fieldAt e 20 4 + n ≤ b.data.length → b.gen = fieldAt e 28 4 → gated s 10 = false →
    (b.gen < s.attrN .laneGeneration l → exec (.syEyeRead c) s = .next (finish c .eStale [] s)) ∧
    (s.attrN .laneGeneration l ≤ b.gen → Gives (.syEyeRead c) s (fun t =>
      (t.lane l).eye = (if fieldAt e 18 1 = 1 then none else some b)) ∧
      (fieldAt e 18 1 = 0 → exec (.syEyeRead c) s = .next (finish c .ok [(16, 4, n), (24, 8, b.start)]
        (writeArea s c.session (fieldAt e 32 8) (bytesAt b.data (fieldAt e 20 4) n))))))

/-- A frame from a lane that carries traffic is counted and numbered, stamps are rounded to 250 ps, and SY_TS_READ takes the oldest records. (rests on R434, R450, R452, R453, R456) -/
def Obligations.PacketsAndStampsOfTheClient : Prop :=
  (∀ (l : Fin 64) b ps n1 n2 s, laneCarries s l = false → exec (.clientPacketRx l b ps n1 n2) s = .next s) ∧
  (∀ (l : Fin 64) b ps n1 n2 s, laneCarries s l = true → fcsOk (framePayload b) = false →
    exec (.clientPacketRx l b ps n1 n2) s = .next (s.count .laneIfRxFcsErrors (s.attrN .laneIfFirst l))) ∧
  (∀ (l : Fin 64) b ps n1 n2 s, laneCarries s l = true → fcsOk (framePayload b) = true →
    (isEsmc (framePayload b) = true ∨ (framePayload b).length < 64 ∨ 9728 < (framePayload b).length) →
    exec (.clientPacketRx l b ps n1 n2) s = .next (s.count .laneIfRxPackets (s.attrN .laneIfFirst l))) ∧
  (∀ (l : Fin 64) b ps n1 n2 s, laneCarries s l = true → fcsOk (framePayload b) = true → isEsmc (framePayload b) = false → 64 ≤ (framePayload b).length →
    (framePayload b).length ≤ 9728 → Gives (.clientPacketRx l b ps n1 n2) s (fun t => t.nextPkt = s.nextPkt + 1 ∧ t.tick = s.tick ∧
      (s.attrN .laneIfFirst l < 64 → s.attrN .memFlowDefaultChannel < 4096 →
        (∀ x ∈ s.cipher.exits, ∀ k, x.out = some k → k.chan < 4096) →
        Tab.get 0 t.acc (Attr.key .laneIfRxPackets (s.attrN .laneIfFirst l) 0) =
          (Tab.get 0 s.acc (Attr.key .laneIfRxPackets (s.attrN .laneIfFirst l) 0) + 1) % 2 ^ 64))) ∧
  (∀ l, framePayload (frameBlocks l) = l) ∧
  (∀ b, fcsOk b = true → (b.take (b.length - 4)).length + 4 = b.length ∧
    fieldAt b (b.length - 4) 4 = crc32 (b.take (b.length - 4))) ∧
  (∀ t, roundStamp t % 250 = 0 ∧ t ≤ roundStamp t * 100000000 + 12500000000 ∧
    roundStamp t * 100000000 ≤ t + 12500000000) ∧
  (∀ dir r (s : State), 8192 ≤ (stampQueue s dir).length → queueRecord dir r s = s.bump .clientTsOverflows) ∧
  (∀ dir r (s : State), (stampQueue s dir).length < 8192 →
    stampQueue (queueRecord dir r s) dir = stampQueue s dir ++ [r] ∧
    stampQueue (queueRecord dir r s) (if dir = 0 then 1 else 0) = stampQueue s (if dir = 0 then 1 else 0)) ∧
  (∀ c s e, ready 0x0D05 [(16, 1), (20, 4), (24, 8)] c s = some e →
    let dir := fieldAt e 16 1
    let n := fieldAt e 20 4
    dir ≤ 1 → 1 ≤ n → n ≤ 8192 → ((s.sess c.session).onDie = true → n ≤ 170) →
    areaBad s c.session (fieldAt e 24 8) (48 * n) = false → Gives (.syTsRead c) s (fun t =>
      stampQueue t dir = (stampQueue s dir).drop n ∧ stampQueue t (1 - dir) = stampQueue s (1 - dir) ∧
      t.tick = s.tick ∧ t.memory = s.memory ∧ t.attrs = s.attrs))

/-- DRAM reads and writes, fills, scrubs, flow-table items, settle and lookups do what chapter 14 says. (rests on R463, R468, R469, R472, R473, R477, R480, R481, R482, R484, R489, R491) -/
def Obligations.MemoryAndFlowCommands : Prop :=
  (∀ a n (s : State), isFilled s a = false → (readBurst a n s).1.1 = none) ∧
  (∀ a d (s : State), dramBytes (dramStore a d s) a d.length = d ∧
    (∀ x, x < a ∨ a + d.length ≤ x → Tab.get 0 (dramStore a d s).memory.dram x = Tab.get 0 s.memory.dram x) ∧
    (s.dramOk → (dramStore a d s).dramOk)) ∧
  (∀ s1 s2 key, (hashPair s1 s2 key).1 ≠ (hashPair s1 s2 key).2 ∧ (hashPair s1 s2 key).1 < 33554432 ∧
    (hashPair s1 s2 key).2 < 33554432) ∧
  (∀ n1 n2 s, s.memory.missq = [] → exec (.flowLookupComplete n1 n2) s = .next s) ∧
  (∀ n1 n2 s m rest x, s.memory.missq = m :: rest → let i := if m.second then m.h2 else m.h1
    cached s i = some x → entryMatches x.entry m.key m.gen = true → Gives (.flowLookupComplete n1 n2) s (fun t =>
      t.memory.missq.map (·.pkt.id) = (rest.map (·.pkt.id)).filter (fun n => n ≠ m.pkt.id) ∧
      (∃ y, cached t i = some y ∧ y.dirty = true ∧ y.entry = countIn x.entry m.pkt.bytes.length) ∧
      t.memory.dram = s.memory.dram ∧ t.tick = s.tick ∧
      ((∀ y ∈ s.cipher.exits, ∀ k, y.out = some k → k.chan < 4096) →
        Tab.get 0 t.acc (Attr.key .memFlowHits 0 0) = (Tab.get 0 s.acc (Attr.key .memFlowHits 0 0) + 1) % 2 ^ 64))) ∧
  (∀ c s e, ready 0x0E01 [(16, 8), (24, 8)] c s = some e →
    let a := fieldAt e 16 8
    let n := fieldAt e 24 8
    (2 ≤ s.attrN .sessionPermission c.session ∨ hostBase ≤ a ∨ a + n ≤ contextBase) → a % 1048576 = 0 → n % 1048576 = 0 →
    a + n ≤ dramSize → s.memory.fill = none → gated s 0 = false → gated s 1 = false →
    exec (.syMemFill c) s = .next (acceptIfNot c { s with memory := { s.memory with
      fill := some { cmd := c, first := addrBlock a, count := addrBlock n } } })) ∧
  (∀ s, s.memory.fill = none → exec .memFillDone s = .next s) ∧
  (∀ s j, s.memory.fill = some j → j.allowed ≠ j.count → exec .memFillDone s = .next s) ∧
  (∀ s j, s.memory.fill = some j → j.allowed = j.count → Gives .memFillDone s (fun t => t.memory.fill = none ∧ t.tick = s.tick)) ∧
  (∀ s j, s.memory.fill = some j → j.allowed = j.count → s.memory.link = [] → ddrReady s 0 = true → ddrReady s 1 = true →
    Gives .memFillDone s (fun t => t.memory.fill = none ∧
    (∀ b, bitOf t.memory.filled b = (decide (j.first + j.done ≤ b ∧ b < j.first + j.count) || bitOf s.memory.filled b)) ∧
    (∀ a, Tab.get 0 t.memory.dram a =
      if (j.first + j.done) * 1048576 ≤ a ∧ a < (j.first + j.count) * 1048576 then 0 else Tab.get 0 s.memory.dram a) ∧
    t.tick = s.tick ∧ t.attrs = s.attrs)) ∧
  (∀ n s, s.attr .thermalLevel ≠ 0 ∨ s.power.phase ≠ .active ∨ s.attr .memDdrState (addrChannel (s.attrN .memScrubPosition)) = 3 ∨
      s.tick.toNat * 33554432 < s.memory.scrubAt ∨ slotsFree s (addrChannel (s.attrN .memScrubPosition)) 5 = 0 →
    exec (.scrubRead n) s = .next s) ∧
  (∀ n s, let a := s.attrN .memScrubPosition
    s.attr .thermalLevel = 0 → s.power.phase = .active → s.attr .memDdrState (addrChannel a) ≠ 3 →
    s.memory.scrubAt ≤ s.tick.toNat * 33554432 → 0 < slotsFree s (addrChannel a) 5 →
    (isFilled s a = false → exec (.scrubRead n) s = .next (scrubAdvance ((addrBlock a + 1) * 1048576)
      (scrubPace (((addrBlock a + 1) * 1048576 - a) / 64) s))) ∧
    (isFilled s a = true → Gives (.scrubRead n) s (fun t =>
      t.attrN .memScrubPosition = (if a + 64 < contextBase then a + 64 else 0))) ∧
    (isFilled s a = true → ddrReady s (addrChannel a) = true → Gives (.scrubRead {}) s (fun t =>
      t.memory.dram = s.memory.dram))) ∧
  (∀ c s e, ready 0x0E02 [(16, 8), (24, 8)] c s = some e →
    let a := fieldAt e 16 8
    let n := fieldAt e 24 8
    a % 64 = 0 → n % 64 = 0 → 64 ≤ n → a + n ≤ dramSize → s.memory.scrub = none → gated s 0 = false → gated s 1 = false →
    exec (.syMemScrub c) s = .next (acceptIfNot c
      { s with memory := { s.memory with scrub := some { cmd := c, start := a, length := n, tick := s.tick.toNat } } })) ∧
  (∀ l s, s.memory.scrub = none → exec (.memScrubDone l) s = .next s) ∧
  (∀ l s j, s.memory.scrub = some j → let parts := blockSpans j.start j.length (fun b => bitOf s.memory.filled b)
    (j.room.1 < spanBursts parts 0 ∨ j.room.2 < spanBursts parts 1 → exec (.memScrubDone l) s = .next s) ∧
    (spanBursts parts 0 ≤ j.room.1 → spanBursts parts 1 ≤ j.room.2 →
      Gives (.memScrubDone l) s (fun t => t.memory.scrub = none ∧ t.tick = s.tick)) ∧
    (spanBursts parts 0 ≤ j.room.1 → spanBursts parts 1 ≤ j.room.2 → ddrReady s 0 = true → ddrReady s 1 = true →
      Gives (.memScrubDone []) s (fun t =>
        t.memory = { s.memory with scrub := none } ∧ t.tick = s.tick ∧ t.attrs = s.attrs))) ∧
  (∀ c dma bs s e, ready 0x0E03 batchNamed c s = some e →
    let n := fieldAt e 16 4
    let l := batchIn s c.session e dma.bytes
    let ops := (List.range n).map (fun k => fieldAt l (72 * k) 1)
    let items := (List.range n).map (fun k => (bytesAt l (72 * k) 72, bs.getD k {}))
    1 ≤ n → n ≤ 4096 → areaBad s c.session (fieldAt e 24 8) (fieldAt e 20 4) = false →
    areaBad s c.session (fieldAt e 40 8) (fieldAt e 32 4) = false → 72 * n ≤ fieldAt e 20 4 → (∀ o ∈ ops, 1 ≤ o ∧ o ≤ 5) →
    (ops.map (fun o => if o = 5 then 72 else 8)).sum ≤ fieldAt e 32 4 → gated s 0 = false → gated s 1 = false →
    let r := runBatchWhile c dma.slice l (fieldAt e 40 8) flowReady (flowItem (s.attrN .sessionPermission c.session)) items []
      (batchStart s c.session) s
    exec (.syFlow c dma bs) s = .next (answer c r) ∧
      ∃ b : BatchRun, ((b.good + b.bad = n ∧ r.2 = batchEnd b []) ∨ (b.good + b.bad < n ∧ r.2 = .more b l)) ∧
        (1 ≤ dma.slice → items.head?.any (flowReady s) = true → 1 ≤ b.good + b.bad)) ∧
  (∀ it d (s : State), fieldAt it 0 1 = 1 → entryMember d = 0 → (∀ x ∈ s.memory.link, x.1 ≠ flowAddr (fieldAt it 4 4)) →
    (ddrReady s (addrChannel (flowAddr (fieldAt it 4 4))) = true → (flowOp it d s).2.1 = .ok ∧
      dramBytes (flowOp it d s).1 (flowAddr (fieldAt it 4 4)) 64 =
        entryCtl (bytesAt it 8 64) (2 ^ (1 - s.attrN .memFlowCommittedGen)) (entryOverflow (bytesAt it 8 64)) ∧
      fieldAt it 4 4 ∈ (flowOp it d s).1.memory.touch) ∧
    (ddrReady s (addrChannel (flowAddr (fieldAt it 4 4))) = false → (flowOp it d s).2.1 = .eIntegrity ∧
      (flowOp it d s).1.memory.dram = s.memory.dram ∧ (flowOp it d s).1.memory.touch = s.memory.touch)) ∧
  (∀ it d (s : State), (fieldAt it 0 1 = 1 ∧ entryMember d ≠ 0) ∨ (fieldAt it 0 1 = 3 ∧ entryMember d ≠ 3) ∨
      (fieldAt it 0 1 = 2 ∧ bitOf (entryMember d) (1 - s.attrN .memFlowCommittedGen) = false) →
    (flowOp it d s).1 = s ∧ (flowOp it d s).2.1 = .eState) ∧
  (∀ it d (s : State), fieldAt it 0 1 = 2 → bitOf (entryMember d) (1 - s.attrN .memFlowCommittedGen) = true →
    s.attrN .memFlowCommittedGen ≤ 1 → d.length = 64 → (∀ x ∈ s.memory.link, x.1 ≠ flowAddr (fieldAt it 4 4)) →
    ddrReady s (addrChannel (flowAddr (fieldAt it 4 4))) = true →
    entryMember (dramBytes (flowOp it d s).1 (flowAddr (fieldAt it 4 4)) 64) =
      entryMember d - 2 ^ (1 - s.attrN .memFlowCommittedGen) ∧ fieldAt it 4 4 ∈ (flowOp it d s).1.memory.touch) ∧
  (∀ s, s.attr .memFlowSettlePending ≠ 1 → exec .settleDone s = .next s) ∧
  (∀ s, s.attr .memFlowSettlePending = 1 → Gives .settleDone s (fun t => t.tick = s.tick ∧
    t.attr .memFlowCommittedGen = s.attr .memFlowCommittedGen)) ∧
  (∀ s, s.attr .memFlowSettlePending = 1 → s.memory.toSettle.Nodup → s.memory.link = [] →
    (∀ ch, ch < 2 → (s.memory.toSettle.filter (fun i => i % 2 = ch)).length ≤ slotsFree s ch 4 / 2) →
    (∀ i ∈ s.memory.toSettle, ddrReady s (i % 2) = true ∧ isFilled s (flowAddr i) = true) →
    Gives .settleDone s (fun t => t.memory.touch = [] ∧ t.memory.toSettle = [] ∧
      t.attr .memFlowSettlePending = 0 ∧ ∀ i ∈ s.memory.toSettle,
        let d := mergedEntry s i (dramBytes s (flowAddr i) 64)
        dramBytes t (flowAddr i) 64 = if bitOf (entryMember d) (s.attrN .memFlowCommittedGen) then entryCtl d 3 (entryOverflow d)
          else entryCtl (List.replicate 64 0) 0 (entryOverflow d))) ∧
  (∀ c dma bs s e, ready 0x0E04 [(16, 1), (20, 4), (24, 8), (32, 8)] c s = some e →
    let n := fieldAt e 20 4
    let a := fieldAt e 24 8
    1 ≤ n → n ≤ 1024 → a % 64 = 0 → areaBad s c.session (fieldAt e 32 8) (64 * n) = false →
    spanGated s a (64 * n) = false → a + 64 * n ≤ dramSize →
    (fieldAt e 16 1 = 0 → (hostBase ≤ a ∨ a + 64 * n ≤ contextBase) →
      let r := readWords n a bs s
      exec (.syMemAccess c dma bs) s = .next (finish c (if r.1.length = 64 * n then .ok else .eIntegrity)
        [(16, 4, r.1.length / 64)] (if r.1 = [] then r.2 else writeArea r.2 c.session (fieldAt e 32 8) r.1))) ∧
    (fieldAt e 16 1 = 1 → hostBase ≤ a → (∀ k, k < n → isFilled s (a + 64 * k) = true) →
      let r := writeWords (chunks n 64 (readArea s c.session (fieldAt e 32 8) (64 * n) dma)) a bs s
      exec (.syMemAccess c dma bs) s = .next (finish c (if r.1 = n then .ok else .eIntegrity) [(16, 4, r.1)] r.2)))

/-- The chip-kill code: errors of any extent on one device are corrected and named; with none the burst is clean. (rests on R465, R466) -/
def Obligations.ChipKillCorrectsOneDevice : Prop :=
  ∀ d err, d < 10 → (∀ k, k / 8 ≠ d → byteAt err k = 0) → (∃ k, k / 8 = d ∧ byteAt err k ≠ 0) →
    decodeBurst 255 err = .corrected d ∧ decodeBurst d err = .corrected d ∧
    (∀ data : List Byte, data.length = 64 → burstData data err (some d) = data) ∧
    decodeBurst 255 [] = .clean

/-- The cipher stage: entry, SA loads, completion, deadlines, randomness and wheel resets follow R500 to R523. (rests on R500, R502, R503, R506, R508, R515, R517, R520, R521, R522, R523) -/
def Obligations.CipherStageServesPackets : Prop :=
  (∀ phi s, s.cipher.entry = [] → exec (.cipherPacketEntry phi) s = .next s) ∧
  (∀ now s, s.cipher.settleAt = none → cipherTo now s = s) ∧
  (∀ now s t, s.cipher.settleAt = some t → now ≤ t → cipherTo now s = s) ∧
  (∀ (phi : Fin 1728) s k r, s.cipher.entry = k :: r → k.chan < 4096 →
    let u := cipherTo (s.now phi) s
    let sa := if k.dir = 0 then k.sa else headerSa k.bytes
    let j := { k with sa := sa }
    let fails := fun (n : Nat) => Gives (.cipherPacketEntry phi) s (fun t =>
      t.cipher.entry = r ∧ t.cipher.nextSeq = u.cipher.nextSeq ∧ t.cipher.ready = u.cipher.ready ∧ t.tick = u.tick ∧
      t.memory = u.memory ∧
      Tab.get 0 t.acc (Attr.key .cipRecords n 0) = (Tab.get 0 u.acc (Attr.key .cipRecords n 0) + 1) % 2 ^ 64)
    (k.dir ≠ 0 → headerBad k.bytes = true → fails 7) ∧
    (k.dir = 0 ∨ headerBad k.bytes = false →
      (u.resident sa = none → u.cipher.loads.any (fun l => l.sa = sa) = true → Gives (.cipherPacketEntry phi) s (fun t =>
        t.cipher = { u.cipher with entry := r, loads := u.cipher.loads.map (fun l =>
          if l.sa = sa then { l with waiting := l.waiting ++ [j] } else l) } ∧ t.memory = u.memory)) ∧
      (u.resident sa = none → u.cipher.loads.all (fun l => l.sa ≠ sa) = true → Gives (.cipherPacketEntry phi) s (fun t =>
        t.cipher = { u.cipher with entry := r, loads := u.cipher.loads ++ [⟨sa, false, [j]⟩] } ∧ t.memory = u.memory)) ∧
      (∀ x n, u.resident sa = some x → contextFails u j x.ctx = some n → fails n) ∧
      (∀ x, u.resident sa = some x → contextFails u j x.ctx = none → k.dir = 0 →
        (k.bytes.length < 4 + ctxHdrLen x.ctx ∨ 9700 < k.bytes.length) → fails (if k.bytes.length < 4 + ctxHdrLen x.ctx then 7 else 8)) ∧
      (∀ x, u.resident sa = some x → contextFails u j x.ctx = none →
        (k.dir ≠ 0 ∨ (4 + ctxHdrLen x.ctx ≤ k.bytes.length ∧ k.bytes.length ≤ 9700)) →
        Gives (.cipherPacketEntry phi) s (fun t =>
        let seq := u.cipher.nextSeq
        t.cipher.entry = r ∧ t.cipher.nextSeq = seq + 1 ∧ t.memory = u.memory ∧ t.cipher.wheels = u.cipher.wheels ∧
        (∃ y, t.resident sa = some y ∧ y.ctx = x.ctx ∧ y.key = x.key ∧ u.cipher.useClock < y.used) ∧
        t.cipher.demand = u.cipher.demand + cogClocks j x.ctx ∧ t.cipher.exits = u.cipher.exits ++ [⟨seq, k.chan, k.dir, false, none⟩] ∧
        (∃ p, t.cipher.ready = u.cipher.ready ++ [p] ∧ p.pkt = j ∧ p.seq = seq ∧ p.tick = s.tick.toNat ∧ p.ctx = x.ctx ∧
          p.cost = cogClocks j x.ctx ∧ p.pn = (if k.dir = 0 then nextPn u sa x.ctx else headerPn k.bytes)) ∧
        Tab.get 0 t.cipher.handed sa = Tab.get 0 u.cipher.handed sa + (if k.dir = 0 then 1 else 0))))) ∧
  (∀ s k c, contextFails s k c = none ↔ ctxState c = 1 ∧ k.sa ∉ s.cipher.fresh ∧ ctxDir c = k.dir ∧ ctxChannel c = k.chan ∧
    ctxEpoch c = s.attrN .secEpoch ∧ ctxForeign s k.sa = false ∧ (k.dir = 0 → nextPn s k.sa c < ctxPnLimit c)) ∧
  (∀ sa c s, nextPn (handPn sa c s) sa c = nextPn s sa c + 1 ∧ ∀ x, x ≠ sa → nextPn (handPn sa c s) x c = nextPn s x c) ∧
  (∀ phi (sa : Fin 1048576) b0 b1 b2 s, s.cipher.loads.all (fun l => l.sa ≠ sa) = true ∨ 16 ≤ s.cipher.loadsDone ∨
    loadReady s sa = false → exec (.saLoadDone phi sa b0 b1 b2) s = .next s) ∧
  (∀ (phi : Fin 1728) (sa : Fin 1048576) s l, s.cipher.loads.find? (fun l => l.sa = sa.val) = some l → s.cipher.loadsDone < 16 →
    loadReady s sa = true →
    let u := cipherTo (s.now phi) s
    let c := dramCtx u sa
    (∀ key, l.deleted = false → isFilled u (contextAddr sa) = true → isFilled u (wrapAddr sa) = true → ddrReady u 0 = true →
      ddrReady u 1 = true → ctxOk c = true → ctxServes u sa c = true →
      contextKey u sa c (dramBytes u (wrapAddr sa) 64) = .ok key → Gives (.saLoadDone phi sa {} {} {}) s (fun t =>
        (∃ x, t.resident sa = some x ∧ x.ctx = c ∧ x.key.value = key ∧ x.sub.value = aesBlock key (List.replicate 16 0)) ∧
        t.cipher.loads = u.cipher.loads.filter (fun x => x.sa ≠ sa.val) ∧ t.memory.dram = u.memory.dram ∧
        t.memory.filled = u.memory.filled)) ∧
    (∀ b0 b1 b2, l.deleted = true ∨ isFilled u (contextAddr sa) = false → Gives (.saLoadDone phi sa b0 b1 b2) s (fun t =>
      t.cipher.resident = u.cipher.resident ∧ t.cipher.nextSeq = u.cipher.nextSeq ∧
      t.cipher.loads = u.cipher.loads.filter (fun x => x.sa ≠ sa.val))) ∧
    (l.deleted = false → isFilled u (contextAddr sa) = true → isFilled u (wrapAddr sa) = true → ddrReady u 0 = true →
      ddrReady u 1 = true → ctxOk c = false ∨ ctxServes u sa c = false → Gives (.saLoadDone phi sa {} {} {}) s (fun t =>
        t.cipher.resident = u.cipher.resident ∧ t.cipher.nextSeq = u.cipher.nextSeq))) ∧
  (∀ (phi : Fin 1728) (n : Fin 96) s p stop,
    let u := cipherTo (s.now phi) s
    ((u.wheel (n / 8)).cog (n % 8)).run = some (p, stop) →
    (s.now phi < stop → exec (.cipherPacketDone phi [n]) s = .next (settleDue (s.now phi) u)) ∧
    (stop ≤ s.now phi → p.pkt.chan < 4096 → (∀ e ∈ u.cipher.exits, ∀ k, e.out = some k → k.chan < 4096) →
      Gives (.cipherPacketDone phi [n]) s (fun t => t.tick = u.tick ∧ t.memory = u.memory ∧
      let r := if p.pkt.dir = 0 ∨ tagMatches p = true then 0 else 1
      Tab.get 0 t.acc (Attr.key .cipRecords r 0) = (Tab.get 0 u.acc (Attr.key .cipRecords r 0) + 1) % 2 ^ 64))) ∧
  (∀ phi l s, exec (.cipherPacketDone phi l) s =
    .next (settleDue (s.now phi) (l.foldl (fun s (n : Fin 96) => finishCog (s.now phi) s n) (cipherTo (s.now phi) s)))) ∧
  (∀ v m, (maskWith m v).value = v) ∧
  (∀ s, s.clk.ticking = false → exec .cipherDeadline s = .next s) ∧
  (∀ s, s.clk.ticking = true → Gives .cipherDeadline s (fun t => t.tick = s.tick ∧ t.memory = s.memory ∧ ∀ w, w < 12 →
    (t.wheel w).queue.map (·.seq) = (s.wheel w).queue.map (·.seq) ∧
    (∀ p ∈ (t.wheel w).queue, p.tick + 2 ≤ s.tick.toNat → p.late = true))) ∧
  (∀ (w : Fin 12) s, vaultRuns s = true → s.attr .cipEntropyState = 1 → (s.wheel w).seeded + 65536 ≤ s.tick.toNat →
    Gives (.drbgReseed w) s (fun t => (t.wheel w).seeded = s.tick.toNat ∧
      (∃ x, (t.wheel w).rng = (s.wheel w).rng.seed x) ∧ (t.wheel w).queue = (s.wheel w).queue ∧ (t.wheel w).cogs = (s.wheel w).cogs ∧ ∀ v, v ≠ w.val → t.wheel v = s.wheel v)) ∧
  (∀ (w : Fin 12) s, vaultRuns s = false ∨ s.attr .cipEntropyState ≠ 1 ∨ s.tick.toNat < (s.wheel w).seeded + 65536 →
    exec (.drbgReseed w) s = .next s) ∧
  (∀ l k s, vaultRuns s = true → s.attr .cipEntropyState = 1 → entropyTest l = some k → Gives (.entropyFail l) s (fun t =>
    t.attr .cipEntropyState = 2 ∧ t.cipher.entropyTick = s.tick.toNat ∧ t.cipher.wheels = s.cipher.wheels)) ∧
  (∀ l s, vaultRuns s = false ∨ s.attr .cipEntropyState ≠ 1 ∨ entropyTest l = none → exec (.entropyFail l) s = .next s) ∧
  (∀ (w : Fin 12) s, vaultRuns s = true → s.attr .cipEntropyState = 2 → (s.wheel w).stopped = false →
    (s.wheel w).seeded + 1048576 ≤ s.tick.toNat → Gives (.drbgExhausted w) s (fun t => (t.wheel w).stopped = true ∧
      (t.wheel w).queue = [] ∧ (t.wheel w).cogs = [] ∧ ∀ v, v ≠ w.val → t.wheel v = s.wheel v)) ∧
  (∀ phi l s, vaultRuns s = true → s.attr .cipEntropyState = 2 → s.cipher.entropyTick + 781250 ≤ s.tick.toNat →
    Gives (.entropyRetest phi l) s (fun t => if startUpPasses l = true then t.attr .cipEntropyState = 1 ∧
      (∀ w, w < 12 → (t.wheel w).seeded = s.tick.toNat ∧ (t.wheel w).stopped = false)
      else t.attr .cipEntropyState = 2 ∧ t.cipher.entropyTick = s.tick.toNat)) ∧
  (∀ x s, vaultRuns s = true → s.attr .cipEntropyState = 0 → Gives (.entropyStartUpTestsPass x) s (fun t =>
    if startUpPasses x.samples = true then t.attr .cipEntropyState = 1 ∧ ∀ w, w < 12 → (t.wheel w).seeded = s.tick.toNat
    else t = s)) ∧
  (∀ x s, vaultRuns s = false ∨ s.attr .cipEntropyState ≠ 0 → exec (.entropyStartUpTestsPass x) s = .next s) ∧
  (∀ (phi : Fin 1728) (x : ShareCheck) s,
    let u := cipherTo (s.now phi) s
    let due := s.domRuns (wheelDomain x.wheel) = true ∧ (u.wheel x.wheel).reset = none ∧
      ((u.wheel x.wheel).cog x.cog).run ≠ none ∧ shareFails x = true
    (¬ due → exec (.wheelReset phi x) s = .next s) ∧
    (due → Gives (.wheelReset phi x) s (fun t => (t.wheel x.wheel).reset = some ⟨1, []⟩ ∧ (t.wheel x.wheel).cogs = [] ∧
      (t.wheel x.wheel).rng = {} ∧ (t.wheel x.wheel).hold = [] ∧ wheelCogs t x.wheel = [] ∧ t.tick = s.tick ∧ t.memory = s.memory))) ∧
  (∀ phi (w : Fin 12) l s, (s.wheel w).reset = none → exec (.wheelKatDone phi w l) s = .next s) ∧
  (∀ phi (w : Fin 12) l s r, (s.wheel w).reset = some r → Gives (.wheelKatDone phi w l) s (fun t => (t.wheel w).reset = none ∧
    (∀ i, i < 8 → (i ∈ (t.wheel w).retired ↔ ∀ j ∈ l, j.val ≠ i)) ∧
    ((t.wheel w).stopped = true ↔ s.attr .cipEntropyState = 2) ∧
    (s.attr .cipEntropyState ≠ 2 → (t.wheel w).seeded = s.tick.toNat)))

/-- SY_SA creates, deletes and reads contexts, SY_CIPHER_RECORDS takes the oldest records, SY_CIPHER_WHEEL_RESET resets a wheel. (rests on R499, R501, R518, R522, R527, R528, R529) -/
def Obligations.CipherCommands : Prop :=
  (∀ (s : State) sa, s.memory.link = [] → isFilled s (contextAddr sa) = true → ddrReady s 0 = true → ddrReady s 1 = true →
    (readCtx sa s).1 = some (dramCtx s sa) ∧ ∀ n, (writeCtx (fun a d => writeAt a 4 d) sa n s).1 = true) ∧
  (∀ (s : State) sa n, (readCtx sa s).2.memory.dram = s.memory.dram ∧
    (n.length = 128 → (writeCtx (fun a d => writeAt a 4 d) sa n s).1 = true →
      dramCtx (writeCtx (fun a d => writeAt a 4 d) sa n s).2 sa = n)) ∧
  (∀ c s e, ready 0x0F01 [(16, 4), (20, 4), (24, 4), (28, 2), (30, 1), (32, 2), (40, 8), (48, 8)] c s = some e →
    let dir := fieldAt e 17 1
    let sa := fieldAt e 20 4
    let n := newContext s e
    fieldAt e 16 1 = 0 → 2 ≤ s.attrN .sessionPermission c.session → dir ≤ 1 → fieldAt e 18 1 ≤ 7 → fieldAt e 19 1 ≤ 128 →
    sa ≤ 1048575 → fieldAt e 28 2 ≤ 8191 → fieldAt e 30 1 ≤ 15 → fieldAt e 32 2 ≤ 4095 →
    (dir = 0 → fieldAt e 18 1 ≤ 1 ∧ 0 < fieldAt e 40 8 ∧ fieldAt e 40 8 < fieldAt e 48 8 ∧ s.cipher.encrypts.length < 8192) →
    (dir = 1 → fieldAt e 40 8 = 0 ∧ fieldAt e 48 8 = 0 ∧ (ctxPin n = true → s.cipher.pinned.length < 4096)) →
    isFilled s (contextAddr sa) = true → vaultLocked s = false → s.attr .secCtxSweepPending ≠ 1 →
    (ctxFromSlot n = true → ctxStays n = true → s.slot (ctxSlot n) ≠ none) →
    let r := readCtx sa s
    (r.1 = none → exec (.sySaCreate c) s = .next (finish c .eIntegrity [] r.2)) ∧
    (∀ old, r.1 = some old → (ctxGood old = true → exec (.sySaCreate c) s = .next (finish c .eState [] r.2)) ∧
      (ctxGood old = false →
        let k := createKey sa n r.2
        let w := writeCtx (fun a d => writeAt a 4 d) sa n k.2
        (∀ st, k.1 = .error st → exec (.sySaCreate c) s = .next (finish c st [] k.2)) ∧
        (∀ key, k.1 = .ok key → w.1 = false → exec (.sySaCreate c) s = .next (finish c .eIntegrity [] w.2)) ∧
        (∀ key, k.1 = .ok key → w.1 = true → Gives (.sySaCreate c) s (fun t =>
          dramCtx t sa = n ∧ n.length = 128 ∧ sa ∈ t.cipher.fresh ∧
          (dir = 0 → sa ∈ t.cipher.encrypts) ∧ (dir = 1 → ctxPin n = true → sa ∈ t.cipher.pinned) ∧
          (ctxStays n = true → ∃ x, t.resident sa = some x ∧ x.ctx = n ∧ x.key.value = key) ∧
          (ctxStays n = false → t.resident sa = none) ∧ t.tick = s.tick ∧ t.attrs = s.attrs ∧
          t.memory.filled = s.memory.filled ∧
          ∀ a, a < contextAddr sa ∨ contextAddr sa + 128 ≤ a → Tab.get 0 t.memory.dram a = Tab.get 0 s.memory.dram a))))) ∧
  (∀ (s : State) e, fieldAt e 16 1 = 0 → fieldAt e 17 1 ≤ 1 → ctxOk (newContext s e) = true ∧ ctxState (newContext s e) = 1 ∧
    ctxDir (newContext s e) = fieldAt e 17 1 ∧ ctxChannel (newContext s e) = fieldAt e 32 2 % 4096 ∧
    ctxPnStart (newContext s e) = fieldAt e 40 8 ∧ ctxPnLimit (newContext s e) = fieldAt e 48 8) ∧
  (∀ c s e, ready 0x0F01 [(16, 1), (20, 4)] c s = some e → fieldAt e 20 4 ≤ 1048575 →
    let sa := fieldAt e 20 4
    let r := readCtx sa s
    let gone := if isFilled s (contextAddr sa) = true then Status.eIntegrity else Status.eState
    (fieldAt e 16 1 = 1 → 2 ≤ s.attrN .sessionPermission c.session → r.1 = none →
      exec (.sySaDelete c) s = .next (finish c gone [] r.2)) ∧
    (fieldAt e 16 1 = 2 → r.1 = none → exec (.sySaRead c) s = .next (finish c gone [] r.2)) ∧
    (∀ x, r.1 = some x →
      let good := entryEpochPort e = 5 ∧ entryEpoch e = ctxEpoch x ∧ ctxForeign s sa = false
      let bad := if ctxGood x = true then Status.eStale else Status.eState
      (fieldAt e 16 1 = 1 → 2 ≤ s.attrN .sessionPermission c.session →
        (ctxGood x = true → good → Gives (.sySaDelete c) s (fun t => sa ∈ t.cipher.deletes ∧ t.memory = r.2.memory ∧
          t.memory.dram = s.memory.dram ∧ t.cipher.resident = s.cipher.resident ∧ t.tick = s.tick ∧ t.attrs = s.attrs)) ∧
        (ctxGood x = false ∨ ¬ good → exec (.sySaDelete c) s = .next (finish c bad [] r.2))) ∧
      (fieldAt e 16 1 = 2 →
        (ctxGood x = true → good → exec (.sySaRead c) s = .next (finish c .ok (saFields r.2 1 sa x) r.2)) ∧
        (ctxGood x = false ∨ ¬ good → exec (.sySaRead c) s = .next (finish c bad [] r.2))))) ∧
  (∀ (s : State) sa,
    let put := fun (a : Nat) (d : List Byte) (s : State) => writeAt a 4 d s
    let t := deleteContext put s sa
    t.resident sa = none ∧ ((writeCtx put sa deletedCtx s).1 = true → ctxState (dramCtx t sa) = 0) ∧
    sa ∉ t.cipher.encrypts ∧ sa ∉ t.cipher.pinned ∧ (∀ l ∈ t.cipher.loads, l.sa = sa → l.deleted = true) ∧
    (∀ x, x ≠ sa → t.resident x = s.resident x) ∧ (s.dramOk → t.dramOk)) ∧
  (∀ c s e, ready 0x0F02 [(20, 4), (24, 8)] c s = some e →
    let n := fieldAt e 20 4
    1 ≤ n → n ≤ 16384 → ((s.sess c.session).onDie = true → n ≤ 256) → areaBad s c.session (fieldAt e 24 8) (32 * n) = false →
    Gives (.syCipherRecords c) s (fun t => t.cipher = { s.cipher with records := s.cipher.records.drop n } ∧
      t.memory = s.memory ∧ t.attrs = s.attrs)) ∧
  (∀ c phi s e, ready 0x0F03 [(16, 1)] c s = some e → fieldAt e 16 1 ≤ 11 →
    let old := match (s.wheel (fieldAt e 16 1)).reset with | some r => r.cmds | none => []
    Gives (.syCipherWheelReset c phi) s (fun t => (t.wheel (fieldAt e 16 1)).reset = some ⟨0, old ++ [c]⟩ ∧
      (t.wheel (fieldAt e 16 1)).cogs = [] ∧ t.tick = s.tick ∧ t.memory = s.memory)) ∧
  (∀ c phi s e, ready 0x0F03 [(16, 1)] c s = some e → 11 < fieldAt e 16 1 →
    exec (.syCipherWheelReset c phi) s = .next (finish c .eRange [] s))

/-- Key slots load, export and erase, key-wrap slots are written, and the public-key engine runs as R537 to R555 say. (rests on R537, R538, R539, R540, R541, R544, R546, R549, R550, R551, R554, R555) -/
def Obligations.KeyVaultCommands : Prop :=
  (∀ c s e, ready 0x1001 [(16, 1), (17, 1)] c s = some e → fieldAt e 17 1 ≤ 15 → vaultRuns s = true →
    let i := fieldAt e 17 1
    (fieldAt e 16 1 = 0 → s.root i = none → entropyFailed s = false → vaultLocked s = false → Gives (.syRootGenerate c) s (fun t =>
      t.root i = some { key := (drbg 32 s).1, origin := 1 } ∧ (∀ j, j ≠ i → t.root j = s.root j) ∧
      t.vault.slots = s.vault.slots ∧ t.vault.rng = (drbgFresh s).vault.rng.next 32 ∧ t.memory = s.memory ∧ t.attrs = s.attrs)) ∧
    (fieldAt e 16 1 = 0 → (s.root i).isSome = true ∨ entropyFailed s = true ∨ vaultLocked s = true →
      exec (.syRootGenerate c) s = .next (finish c .eState [] s)) ∧
    (fieldAt e 16 1 = 2 → exec (.syRootErase c) s = .next (finish c .ok (rootFields none)
      (s.setRoot i ((s.root i).map (fun k => { k with erasing := true })))))) ∧
  (∀ c s e w, ready 0x1001 [(16, 1), (17, 1), (18, 1), (20, 40)] c s = some e → fieldAt e 16 1 = 1 → fieldAt e 17 1 ≤ 15 →
    fieldAt e 18 1 ≤ 15 → fieldAt e 17 1 ≠ fieldAt e 18 1 → s.root (fieldAt e 17 1) = none → s.root (fieldAt e 18 1) = some w →
    vaultLocked s = false → vaultRuns s = true →
    let u := updCipher (fun c => { c with loadsDone := c.loadsDone + 1 }) s
    (unwrapFree s = true → s.vault.unwraps = [] →
      exec (.syRootImport c) s = .next (match keyUnwrap w.key (bytesAt e 20 40) with
        | none => finish c .eIntegrity [] u
        | some k => finish c .ok (rootFields (some { key := k, origin := 2 }))
            (u.setRoot (fieldAt e 17 1) (some { key := k, origin := 2 })))) ∧
    (unwrapFree s = false ∨ s.vault.unwraps ≠ [] → Gives (.syRootImport c) s (fun t =>
      t.vault = { s.vault with unwraps := s.vault.unwraps ++ [c] } ∧ t.cipher = s.cipher ∧ t.tick = s.tick))) ∧
  (∀ c s e w, ready 0x1002 [(16, 1), (17, 1), (18, 1), (20, 2), (24, 40)] c s = some e → fieldAt e 16 1 = 0 →
    fieldAt e 17 1 ≤ 15 → fieldAt e 18 1 ≤ 1 → fieldAt e 20 2 ≤ 8191 → s.slot (fieldAt e 20 2) = none →
    s.root (fieldAt e 17 1) = some w → vaultLocked s = false → vaultRuns s = true →
    let u := updCipher (fun c => { c with loadsDone := c.loadsDone + 1 }) s
    (unwrapFree s = true → s.vault.unwraps = [] →
      exec (.syKeySlotLoad c) s = .next (match keyUnwrap w.key (bytesAt e 24 40) with
        | none => finish c .eIntegrity [] u
        | some k =>
          let x : SlotKey := { key := k, exportable := bitOf (fieldAt e 18 1) 0 }
          finish c .ok (slotFields (some x)) (u.setSlot (fieldAt e 20 2) (some x)))) ∧
    (unwrapFree s = false ∨ s.vault.unwraps ≠ [] → Gives (.syKeySlotLoad c) s (fun t =>
      t.vault = { s.vault with unwraps := s.vault.unwraps ++ [c] } ∧ t.cipher = s.cipher ∧ t.tick = s.tick))) ∧
  (∀ (s : State), s.cipher.loads ≠ [] → unwrapsDue s = s) ∧
  (∀ c s e, ready 0x1002 [(16, 1), (20, 2)] c s = some e → fieldAt e 16 1 = 1 → fieldAt e 20 2 ≤ 8191 → vaultRuns s = true →
    exec (.syKeySlotErase c) s = .next (finish c .ok (slotFields none)
      (s.setSlot (fieldAt e 20 2) ((s.slot (fieldAt e 20 2)).map (fun k => { k with erasing := true }))))) ∧
  (∀ c s e k w, ready 0x1002 [(16, 1), (17, 1), (20, 2)] c s = some e → fieldAt e 16 1 = 2 → fieldAt e 17 1 ≤ 15 →
    fieldAt e 20 2 ≤ 8191 → s.slot (fieldAt e 20 2) = some k → s.root (fieldAt e 17 1) = some w → vaultLocked s = false →
    vaultRuns s = true → exec (.syKeySlotExport c) s = .next (if k.exportable then
      finish c .ok (slotFields (some k) ++ [(24, 40, leNat (padTo 40 (keyWrap w.key k.key)))]) s
      else finish c .eState [] s)) ∧
  (∀ s, s.vault.roots.all (fun x => match x.2 with | some k => !k.erasing | none => true) = true →
    s.vault.slots.all (fun x => match x.2 with | some k => !k.erasing | none => true) = true →
    exec .keyEraseEffect s = .next s) ∧
  (∀ s, Gives .keyEraseEffect s (fun t => t.memory = s.memory ∧ t.attrs = s.attrs ∧ t.tick = s.tick ∧
    (∀ i k, s.root i = some k → k.erasing = true → loadUnderRoot s i = false → t.root i = none ∧
      ∀ sa x, t.resident sa = some x → ctxFromSlot x.ctx = true ∨ ctxRoot x.ctx ≠ i) ∧
    (∀ i k, s.slot i = some k → k.erasing = true → loadUnderSlot s i = false → t.slot i = none ∧
      ∀ sa x, t.resident sa = some x → ctxFromSlot x.ctx = false ∨ ctxSlot x.ctx ≠ i))) ∧
  (∀ c (dma : BatchIn) s e, ready 0x1003 batchNamed c s = some e →
    let n := fieldAt e 16 4
    let l := batchIn s c.session e dma.bytes
    let items := (List.range n).map (fun k => bytesAt l (48 * k) 48)
    1 ≤ n → n ≤ 4096 → areaBad s c.session (fieldAt e 24 8) (fieldAt e 20 4) = false →
    areaBad s c.session (fieldAt e 40 8) (fieldAt e 32 4) = false → 48 * n ≤ fieldAt e 20 4 → 8 * n ≤ fieldAt e 32 4 →
    vaultRuns s = true → gated s 0 = false → gated s 1 = false →
    let r := runBatchWhile c dma.slice l (fieldAt e 40 8) storeReady storeItem items [] (batchStart s c.session) s
    exec (.syKeyStore c dma) s = .next (answer c r) ∧
      ∃ b : BatchRun, ((b.good + b.bad = n ∧ r.2 = batchEnd b []) ∨ (b.good + b.bad < n ∧ r.2 = .more b l)) ∧
        (1 ≤ dma.slice → items.head?.any (storeReady s) = true → 1 ≤ b.good + b.bad)) ∧
  (∀ (s : State) it,
    let sa := fieldAt it 0 4
    let root := fieldAt it 4 1
    let flags := fieldAt it 5 1
    let verify := bitOf flags 0
    let r := storeItem s it
    let u := if verify = true then updCipher (fun c => { c with loadsDone := c.loadsDone + 1 }) s else s
    let w := writeAt (wrapAddr sa) 4 (if bitOf flags 1 then List.replicate 64 0 else wrapSlot 1 root sa (bytesAt it 8 40)) u
    (r.1, r.2.1) =
      if 3 < flags ∨ fieldAt it 6 2 ≠ 0 then (s, .eBadParam)
      else if 1048575 < sa ∨ 15 < root then (s, .eRange)
      else if isFilled s (wrapAddr sa) = false ∨ (verify = true ∧ s.root root = none) ∨ vaultLocked s = true then (s, .eState)
      else if verify = true ∧ (s.root root).bind (fun k => keyUnwrap k.key (bytesAt it 8 40)) = none then (u, .eIntegrity)
      else if w.1 = true then (w.2, .ok) else (w.2, .eIntegrity)) ∧
  (∀ (s : State) a d, d.length = 64 → (∀ x ∈ s.memory.link, x.1 ≠ a) →
    (ddrReady s (addrChannel a) = true → (writeAt a 4 d s).1 = true ∧ dramBytes (writeAt a 4 d s).2 a 64 = d ∧
      ∀ x, x < a ∨ a + 64 ≤ x → Tab.get 0 (writeAt a 4 d s).2.memory.dram x = Tab.get 0 s.memory.dram x) ∧
    (ddrReady s (addrChannel a) = false → (writeAt a 4 d s).1 = false ∧ (writeAt a 4 d s).2.memory.dram = s.memory.dram)) ∧
  (∀ f r sa b, (wrapSlot f r sa b).length = 64) ∧
  (∀ s, s.fwServing = false ∨ s.attr .secCtxSweepPending ≠ 1 → exec .contextRebuild s = .next s) ∧
  (∀ s, s.fwServing = true → s.attr .secCtxSweepPending = 1 →
    let u := rebuildTick s
    let done := rebuildNeeds u ≤ u.memory.rebuild.1 ∧ rebuildNeeds u ≤ u.memory.rebuild.2
    (¬ done → exec .contextRebuild s = .next u ∧ u.attr .secCtxSweepPending = 1 ∧ u.memory.dram = s.memory.dram) ∧
    (done → Gives .contextRebuild s (fun t => t.attr .secCtxSweepPending = 0 ∧ t.tick = s.tick ∧
      ∀ sa ∈ filledContexts s, t.resident sa = none ∧ sa ∉ t.cipher.encrypts ∧ sa ∉ t.cipher.pinned ∧
        (s.memory.link = [] → ddrReady s 0 = true → ddrReady s 1 = true → ctxState (dramCtx t sa) = 0)))) ∧
  (∀ (s : State) sa, sa < 1048576 → (sa ∈ filledContexts s ↔ isFilled s (contextAddr sa) = true)) ∧
  (∀ op s sid e, firstFail (pkChecks op s sid e) = none ↔ fieldAt e 18 1 ≤ 3 ∧ (bitOf (fieldAt e 18 1) 0 = true → op = 4) ∧
    (bitOf (fieldAt e 18 1) 1 = true → op = 3 ∧ fieldAt e 19 1 = 0) ∧ fieldAt e 16 1 ≤ 5 ∧ fieldAt e 17 1 ≤ 7 ∧ fieldAt e 22 1 ≤ 32 ∧
    areaBad s sid (fieldAt e 24 8) 320 = false ∧ s.vault.queue.length < 16 ∧ gated s 11 = false ∧
    vaultRuns s = true ∧ (vaultLocked s = true → op = 5)) ∧
  (∀ c dma s e, firstFail (pkChecks (fieldAt e 16 1) s c.session e) = none →
    let i := fieldAt e 17 1
    let t := acceptIfNot c { s with vault := { s.vault with queue := s.vault.queue ++ [
      { cmd := c, entry := e, buffer := readArea s c.session (fieldAt e 24 8) 320 dma,
        start := if s.vault.queue.isEmpty then some s.tick.toNat else none }] } }
    (ready 0x1004 [(16, 1), (17, 1), (18, 1), (22, 1), (24, 8)] c s = some e →
      (fieldAt e 16 1 = 0 → s.pk i = none → entropyFailed s = false → exec (.syPkGenerate c dma) s = .next t) ∧
      (fieldAt e 16 1 = 1 → s.pk i = none → exec (.syPkImport c dma) s = .next t) ∧
      (fieldAt e 16 1 = 2 → (s.pk i).isSome = true → entropyFailed s = false → exec (.syPkSign c dma) s = .next t) ∧
      (fieldAt e 16 1 = 4 → (bitOf (fieldAt e 18 1) 0 = true ∨ (s.pk i).isSome = true) → exec (.syPkVerify c dma) s = .next t) ∧
      (fieldAt e 16 1 = 5 → exec (.syPkErase c dma) s = .next t)) ∧
    (ready 0x1004 [(16, 1), (17, 1), (18, 1), (22, 1), (24, 8), (19, 1), (20, 2)] c s = some e → fieldAt e 16 1 = 3 →
      fieldAt e 19 1 ≤ 1 → fieldAt e 20 2 ≤ (if fieldAt e 19 1 = 0 then 8191 else 15) → (s.pk i).isSome = true →
      destLoaded s e = false → exec (.syPkAgree c dma) s = .next t)) ∧
  (∀ s, s.vault.queue = [] → exec .pkOperationEnd s = .next s) ∧
  (∀ s x r b, s.vault.queue = x :: r → x.start = some b →
    (s.tick.toNat < b + (x.again + 1) * pkTicks (fieldAt x.entry 16 1) → exec .pkOperationEnd s = .next s) ∧
    (vaultRuns s = true → b + (x.again + 1) * pkTicks (fieldAt x.entry 16 1) ≤ s.tick.toNat → x.failed = false →
      (fieldAt x.entry 16 1 = 5 → Gives .pkOperationEnd s (fun t => t.pk (fieldAt x.entry 17 1) = none ∧
        t.vault.queue.length = r.length)) ∧
      (fieldAt x.entry 16 1 = 1 → s.pk (fieldAt x.entry 17 1) = none → Gives .pkOperationEnd s (fun t =>
        if scalarBad (bytesAt x.buffer 96 48) then t.vault.pks = s.vault.pks
        else ∃ k, t.pk (fieldAt x.entry 17 1) = some k ∧ k.scalar = bytesAt x.buffer 96 48 ∧ k.origin = 2)))) ∧
  (∀ x (s t : State) st fs, runPk x s = (.final st fs, t) → st ≠ .ok → t = s) ∧
  [0, 1, 2, 3, 4, 5].map pkTicks = [156, 156, 156, 156, 296, 15]

/-- Tamper trips latch, lock and erase by their policy; the commands of SY_TAMPER do what Table 15 of chapter 16 says. (rests on R558, R559, R560, R561, R562, R567, R570) -/
def Obligations.TamperFollowsItsPolicies : Prop :=
  (∀ l s, l.all (fun x => match tamperSensor s x with | some k => !sensorActive s k | none => true) = true →
    exec (.tamperTrip l) s = .next s) ∧
  (∀ s k, s.isCN = true → sensorActive s k = false) ∧
  (∀ x k s, tamperSensor s x = some k → sensorActive s k = true → Gives (.tamperTrip [x]) s (fun t =>
    t.attrN .secTamperLatch = (s.attrN .secTamperLatch ||| 2 ^ k) ∧
    t.attr .secTamperCount k = (s.attr .secTamperCount k + 1) % 65536 ∧
    (s.attr .secTamperFirst = 0xFF → t.attrN .secTamperFirst = k) ∧
    (s.attr .secTamperFirst ≠ 0xFF → t.attr .secTamperFirst = s.attr .secTamperFirst) ∧
    (1 ≤ s.attrN .secTamperPolicy k → t.attr .secTamperLocked = 1) ∧
    (s.attrN .secTamperPolicy k = 0 → t.attr .secTamperLocked = s.attr .secTamperLocked) ∧
    (s.attrN .secTamperPolicy k < 2 → t.vault.roots = s.vault.roots ∧ t.vault.slots = s.vault.slots ∧
      t.vault.pks = s.vault.pks ∧ t.cipher = s.cipher) ∧
    (s.attrN .secTamperPolicy k = 2 → t.vault.roots = [] ∧ t.vault.slots = [] ∧ t.vault.pks = [] ∧
      t.vault.erased = s.vault.erased ++ [(k, !barAlive s)] ∧ (barAlive s = true → t.cipher.resident = [])) ∧
    t.tick = s.tick ∧ t.memory = s.memory)) ∧
  (∀ s, s.vault.erased = [] ∨ s.fwServing = false → exec .tamperEpochAdvance s = .next s) ∧
  (∀ s x r, s.vault.erased = x :: r → s.fwServing = true → s.isCN = false → Gives .tamperEpochAdvance s (fun t =>
    t.attr .secEpoch = (s.attr .secEpoch + 1) % 4294967296 ∧ t.attr .secCtxSweepPending = 1 ∧ t.vault.erased = r ∧
    t.vault.trips = s.vault.trips.drop ((s.vault.trips.takeWhile (fun y => y.policy ≠ 2)).length + 1) ∧ t.tick = s.tick ∧
    t.memory = { s.memory with rebuild := (0, 0) })) ∧
  (∀ c s e, ready 0x1005 [(16, 1), (17, 1), (18, 1)] c s = some e → fieldAt e 16 1 = 0 → fieldAt e 17 1 ≤ 5 → fieldAt e 18 1 ≤ 2 →
    let t := s.setAttr .secTamperPolicy (fieldAt e 17 1) 0 (fieldAt e 18 1)
    exec (.syTamperSetPolicy c) s = .next (
      if s.attr .secTamperPolicySealed = 1 ∧ fieldAt e 18 1 < s.attrN .secTamperPolicy (fieldAt e 17 1) then finish c .eState [] s
      else finish c .ok (tamperFields t) t)) ∧
  (∀ c s e, ready 0x1005 [(16, 1)] c s = some e →
    (fieldAt e 16 1 = 1 → Gives (.syTamperSealPolicies c) s (fun t => t.attr .secTamperPolicySealed = 1 ∧
      t.vault = s.vault ∧ t.memory = s.memory ∧ ∀ k, t.attr .secTamperPolicy k = s.attr .secTamperPolicy k)) ∧
    (fieldAt e 16 1 = 3 → s.attr .secTamperLatch ≠ 0 → exec (.syTamperUnlock c) s = .next (finish c .eState [] s)) ∧
    (fieldAt e 16 1 = 3 → s.attr .secTamperLatch = 0 → Gives (.syTamperUnlock c) s (fun t =>
      t.attr .secTamperLocked ≠ 1 ∧ t.vault = s.vault ∧ t.cipher = s.cipher)) ∧
    (fieldAt e 16 1 = 4 → Gives (.syTamperEraseNow c) s (fun t => t.attr .secTamperLocked = 1 ∧
      bitOf (t.attrN .secTamperLatch) 6 = true ∧ t.vault.roots = [] ∧ t.vault.slots = [] ∧ t.vault.pks = [] ∧
      t.vault.erased = s.vault.erased ++ [(6, !barAlive s)] ∧ t.memory = s.memory))) ∧
  (∀ c (m : Fin 64) s e, ready 0x1005 [(16, 1), (17, 1)] c s = some e → fieldAt e 16 1 = 2 →
    (fieldAt e 17 1 ≤ 5 ∨ fieldAt e 17 1 = 255) →
    let t := clearLatch (if fieldAt e 17 1 = 255 then 255 else 2 ^ fieldAt e 17 1) m.val s
    exec (.syTamperClearLatch c m) s = .next (finish c .ok (tamperFields t) t)) ∧
  (∀ n m (s : State), (clearLatch n m s).attrN .secTamperPresent = m ∧ ∀ k, k < 8 →
    bitOf ((clearLatch n m s).attrN .secTamperLatch) k =
      (bitOf (s.attrN .secTamperLatch) k && (!bitOf n k || bitOf m k))) ∧
  (∀ (s : State), (clearLatch 255 0 s).attr .secTamperLatch = 0 ∧ (clearLatch 255 0 s).attr .secTamperFirst = 255 ∧
    (clearLatch 255 0 s).attr .secTamperFirstTick = 0)

/-- Reference monitors, waits, hold-off, quality levels and selection of the timing port follow R572 to R589. (rests on R572, R575, R576, R577, R578, R579, R580, R581, R582, R587, R589, R603) -/
def Obligations.ReferencesAreJudgedAndFollowed : Prop :=
  (∀ (k : RefLook) s, s.domRuns 53 = false ∨ refBad s k = false ∨ ((s.ref k.ref).good = false ∧ s.timing.holdOff = none) →
    exec (.refFailed k) s = .next s) ∧
  (∀ (k : RefLook) s, s.domRuns 53 = true → refBad s k = true → (s.ref k.ref).good = true → Gives (.refFailed k) s (fun t =>
    let i := k.ref
    (t.ref i).good = false ∧ (t.ref i).wait = none ∧ (∀ j, j ≠ i.val → t.ref j = s.ref j) ∧
    t.attr .timRefFailures i = (s.attr .timRefFailures i + 1) % 4294967296 ∧
    (if selectedRef s = i ∧ 1 ≤ s.attr .timState ∧ s.attr .timState ≤ 3 then t.attr .timState = 3 ∧
        t.timing.holdOff = some (s.tick.toNat + 1 + msTicks (s.attrN .timHoldOffMs)) ∧
        t.timing.failQl = (if s.attr .timState = 3 ∧ s.timing.holdOff ≠ none then s.timing.failQl else refQl s i)
      else t.timing.holdOff = s.timing.holdOff ∧
        (s.timing.holdOff = none ∨ selectedRef s ≠ i → t.attr .timState = s.attr .timState)) ∧
    t.attr .timSelected = s.attr .timSelected ∧ t.tick = s.tick ∧ t.memory = s.memory)) ∧
  (∀ (k : RefLook) s, refFit s k = false ∨ (s.ref k.ref).good = true ∨ refPresent s k.ref = false →
    exec (.refGood k) s = .next s) ∧
  (∀ (k : RefLook) s, refFit s k = true → (s.ref k.ref).good = false → refPresent s k.ref = true → Gives (.refGood k) s (fun t =>
    let i := k.ref
    (t.ref i).good = true ∧ (t.ref i).served = true ∧
      (t.ref i).wait = (if selectedRef s = i ∧ holdOffRuns s = true then none
        else some (s.tick.toNat + 1 + sTicks (if (s.ref i).served then s.attrN .timWtrS else 1))) ∧
      (∀ j, j ≠ i.val → t.ref j = s.ref j) ∧ t.attr .timState = s.attr .timState)) ∧
  (∀ (i : Fin 4) n s, s.attr .timRefType i ≠ 1 ∨ refPresent s i = false → exec (.refinPulseEdge i n) s = .next s) ∧
  (∀ (i : Fin 4) n s, s.attr .timRefType i = 1 → refPresent s i = true →
    let now := s.tick.toNat * 1280000 + n
    ((s.ref i).edge = none → Gives (.refinPulseEdge i n) s (fun t => t.ref i = { s.ref i with edge := some now, edges := 0 })) ∧
    (∀ e, (s.ref i).edge = some e →
      (now + 10000000 < e + 1000000000000 → exec (.refinPulseEdge i n) s = .next s) ∧
      (e + 1000000000000 + 10000000 < now → Gives (.refinPulseEdge i n) s (fun t =>
        t.ref i = { s.ref i with edge := some now, edges := 0 })) ∧
      (e + 1000000000000 ≤ now + 10000000 → now ≤ e + 1000000000000 + 10000000 → Gives (.refinPulseEdge i n) s (fun t =>
        (t.ref i).edge = some now ∧ (t.ref i).valid = some now ∧ (t.ref i).edges = (s.ref i).edges + 1 ∧
        ((t.ref i).good = true ↔ (s.ref i).good = true ∨ 2 ≤ (s.ref i).edges))))) ∧
  (∀ s i, i < 14 → refEligible s i = true → refEligible s (bestRef s) = true ∧ bestRef s < 14 ∧
    refOrder s (bestRef s) ≤ refOrder s i) ∧
  (∀ s i, refEligible s i = true → refPresent s i = true ∧ (s.ref i).good = true ∧ (s.ref i).wait = none ∧
    s.attr .timRefPriority i ≠ 0 ∧ qlRank (refQl s i) ≤ qlRank (s.attrN .timLocalQl) ∧ qlRank (refQl s i) ≤ 4) ∧
  (∀ s b, s.timing.holdOff = none ∨ (s.timing.holdOff = some b ∧ s.tick.toNat < b) → exec .holdOffExpiry s = .next s) ∧
  (∀ s b, s.timing.holdOff = some b → b ≤ s.tick.toNat → (s.ref (selectedRef s)).good = false → selectedRef s ≠ 255 →
    s.attr .timSelectMode = 0 → s.attr .clockPllCoast ≠ 1 → bestRef s = 255 → Gives .holdOffExpiry s (fun t =>
      t.timing.holdOff = none ∧ t.attr .timSelected = 255 ∧
      t.attrN .timState = (if s.attr .timHoldoverValid = 1 then 4 else 0) ∧
      t.attr .timSwitches = (s.attr .timSwitches + 1) % 4294967296)) ∧
  (∀ y s, (s.attrN .timState = 0 → (loopSet y s).attr .timFreqOffsetPpt = s.attr .timHostFreqPpt) ∧
    (s.attrN .timState = 4 → (loopSet y s).attr .timFreqOffsetPpt = (holdoverY s).getD 0 + s.attr .timHostFreqPpt) ∧
    ((s.attrN .timState = 1 ∨ s.attrN .timState = 2) →
      (loopSet y s).attr .timPhaseErrorPs = roundDiv s.timing.err 100000000) ∧
    (s.attrN .timState ≠ 1 → s.attrN .timState ≠ 2 → (loopSet y s).attr .timPhaseErrorPs = 0)) ∧
  (∀ (i : Fin 14) s, (s.ref i).wait = none → exec (.wtrExpiry i) s = .next s) ∧
  (∀ (i : Fin 14) s b, (s.ref i).wait = some b → exec (.wtrExpiry i) s =
    .next (if b ≤ s.tick.toNat then s.setRef i { s.ref i with wait := none } else s)) ∧
  (∀ (l : Fin 64) f s, laneCarries s l = false ∨ fcsOk f = false ∨ isEsmc f = false → exec (.esmcPduRx l f) s = .next s) ∧
  (∀ (l : Fin 64) f s, laneCarries s l = true → fcsOk f = true → isEsmc f = true →
    (esmcValid f = false → exec (.esmcPduRx l f) s = .next (s.bump .laneIfEsmcBad (s.attrN .laneIfFirst l))) ∧
    (esmcValid f = true → Gives (.esmcPduRx l f) s (fun t =>
      Tab.get {} t.timing.esmc (s.attrN .laneIfFirst l) = ⟨some ((byteAt f 27).toNat % 16), s.tick.toNat⟩ ∧ t.tick = s.tick))) ∧
  (∀ (l : Fin 64) s e, Tab.get {} s.timing.esmc l = e →
    (e.ql = none ∨ s.tick.toNat < e.tick + 3906250 → exec (.esmcTimeout l) s = .next s) ∧
    (e.ql ≠ none → e.tick + 3906250 ≤ s.tick.toNat → Gives (.esmcTimeout l) s (fun t =>
      (Tab.get {} t.timing.esmc l).ql = none ∧
      t.attr .laneIfEsmcTimeouts l = (s.attr .laneIfEsmcTimeouts l + 1) % 4294967296))) ∧
  (∀ (l : Fin 64) s, Tab.get 0 s.timing.eventOwed l = 0 → exec (.esmcEventPdu l) s = .next s) ∧
  (∀ (l : Fin 64) s, Tab.get 0 s.timing.eventOwed l ≠ 0 → Gives (.esmcEventPdu l) s (fun t => Tab.get 0 t.timing.eventOwed l = 0 ∧
    t.tick = s.tick ∧ t.attrs = s.attrs ∧
    t.out = s.out ++ (if s.attr .laneIfEsmcTx l = 1 ∧ ifConfigured s l = true ∧ laneCarries s l = true
      then [.esmc l (esmcPdu (s.attrN .laneIfEsmcMac l) (ifaceQl s l) true)] else []))) ∧
  (∀ s, s.timing.dayOwed = false → exec .ageingDayClose s = .next s) ∧
  (∀ s, s.timing.dayOwed = true → Gives .ageingDayClose s (fun t => t.timing.dayOwed = false ∧ t.timing.daySeconds = 0 ∧
    t.timing.day = s.timing.day + 1 ∧ (s.timing.daySeconds < 72000 → t.timing.means = s.timing.means ∧ t.attrs = s.attrs) ∧
    (72000 ≤ s.timing.daySeconds → 1 ≤ s.attrN .timHoldoverAgeDays → t.timing.means.length ≤ s.attrN .timHoldoverAgeDays ∧
      t.timing.means.getLast? = some (s.timing.day, roundDiv s.timing.daySum s.timing.daySeconds)))) ∧
  (∀ c s e, ready 0x1101 [(16, 1), (17, 1)] c s = some e →
    let m := fieldAt e 16 1
    let r := fieldAt e 17 1
    (m = 1 ∨ m = 2 → r ≤ 13 → exec (.syRefSelect c) s = .next (if refPresent s r then
        finish c .ok [] ((s.setAttr .timSelectMode 0 0 m).setAttr .timSelectRef 0 0 r) else finish c .eState [] s)) ∧
    (m = 0 ∨ m = 3 ∨ m = 4 → exec (.syRefSelect c) s = .next (finish c .ok [] (s.setAttr .timSelectMode 0 0 m))) ∧
    (4 < m → exec (.syRefSelect c) s = .next (finish c .eRange [] s)))

/-- Time sets, phase steps, the calendar, output alignment and the holdover table follow R590 to R603. (rests on R591, R592, R593, R595, R596, R599, R600, R603) -/
def Obligations.TimeOfDayAndOutputs : Prop :=
  (∀ c s e, ready 0x1102 [(16, 1), (24, 8), (32, 2), (34, 5)] c s = some e →
    let y := fieldAt e 32 2
    (fieldAt e 16 1 = 0 → y = 0 → fieldAt e 34 5 = 0 → fieldAt e 24 8 < 2 ^ 48 → exec (.syTimeSet c) s =
      .next (acceptIfNot c { s with timing := { s.timing with sets := s.timing.sets ++ [(c, fieldAt e 24 8)] } })) ∧
    (fieldAt e 16 1 = 1 → fieldAt e 24 8 = 0 → 1970 ≤ y → y ≤ 9999 → exec (.syTimeSet c) s =
      if badDate y (fieldAt e 34 1) (fieldAt e 35 1) (fieldAt e 36 1) (fieldAt e 37 1) (fieldAt e 38 1)
      then .next (finish c .eDate [] s)
      else .next (acceptIfNot c { s with timing := { s.timing with sets := s.timing.sets ++
        [(c, taiOfDate (s.attrN .timTimeUtcOffsetS) y (fieldAt e 34 1) (fieldAt e 35 1) (fieldAt e 36 1) (fieldAt e 37 1)
          (fieldAt e 38 1))] } }))) ∧
  (∀ y, leapYear y = true ↔ y % 4 = 0 ∧ (y % 100 = 0 → y % 400 = 0)) ∧
  (∀ y, 1970 ≤ y → yearDays (y + 1) = yearDays y + (if leapYear y then 366 else 365)) ∧
  yearDays 1970 = 0 ∧
  (∀ y, (List.range 12).foldl (fun n m => n + monthDays y (m + 1)) 0 = if leapYear y then 366 else 365) ∧
  (∀ s, edgeAhead s = none ∨ s.timing.ppsDone = true ∨ s.clk.ticking = false → exec .timeSetApply s = .next s) ∧
  (∀ s o l x, edgeAhead s = some o → s.timing.ppsDone = false → s.clk.ticking = true → s.timing.sets = l ++ [x] →
    Gives .timeSetApply s (fun t => t.timing.sets = [] ∧
      t.attr .timTimeValid = (if s.attr .clockPllCoast = 1 then s.attr .timTimeValid else 1) ∧
      t.timing.shift = (x.2 : Int) - (secondsOf (s.timing.tai + o) : Int) ∧ t.timing.tai = s.timing.tai ∧ t.tick = s.tick)) ∧
  (∀ c s e, ready 0x1103 [(16, 8)] c s = some e → (fieldInt e 16 8).natAbs ≤ 500000000000 →
    exec (.syTimeStep c) s = .next (if pulseFollowed s = true ∨ s.attr .clockPllCoast = 1 then finish c .eState [] s
      else acceptIfNot c { s with timing := { s.timing with steps := s.timing.steps ++ [(c, fieldInt e 16 8, nextBoundary s)] } })) ∧
  (∀ s, s.timing.steps.all (fun x => decide (s.tick.toNat < x.2.2)) = true → exec .timeStepApply s = .next s) ∧
  (∀ s x, s.timing.steps = [x] → x.2.2 ≤ s.tick.toNat → Gives .timeStepApply s (fun t => t.timing.steps = [] ∧
    (t.timing.tai : Int) = ((s.timing.tai : Int) - x.2.1 * 100000000) % (2 ^ 48 * 100000000000000000000) ∧
    t.tick = s.tick ∧ t.memory = s.memory ∧ t.attrs = s.attrs)) ∧
  (∀ c s e, ready 0x1104 [] c s = some e → Gives (.syTimeGet c) s (fun t => t.timing = s.timing ∧ t.attrs = s.attrs ∧
    t.tick = s.tick ∧ t.memory = s.memory ∧ t.vault = s.vault)) ∧
  (∀ c s e, ready 0x1105 [(16, 4), (20, 4), (24, 4), (32, 8)] c s = some e →
    let kind := fieldAt e 16 1
    let mode := fieldAt e 18 1
    let type := fieldAt e 19 1
    let w := fieldAt e 20 4
    let p := fieldAt e 24 4
    let t := acceptIfNot c { s with timing := { s.timing with aligns := s.timing.aligns ++ [
      { cmd := c, kind := kind, index := fieldAt e 17 1, mode := mode, type := type, width := w, period := p,
        residue := fieldAt e 32 8, due := nextBoundary s }] } }
    s.attr .clockPllCoast ≠ 1 →
    (kind = 0 → fieldAt e 17 1 ≤ 3 → mode = 0 → type = 0 → w = 0 → p = 0 → fieldAt e 32 8 = 0 → gated s 4 = false →
      exec (.syOutAlign c) s = .next (if s.attr .timClkOutFreq (fieldAt e 17 1) = 7 then finish c .eState [] s else t)) ∧
    (kind = 1 → fieldAt e 17 1 ≤ 1 → 8 ≤ w → w ≤ 500000000 → gated s 5 = false →
      (type = 0 → mode ≤ 1 → p = 0 → fieldAt e 32 8 = 0 → exec (.syOutAlign c) s = .next t) ∧
      (type = 1 → mode = 0 → 1 ≤ p → p ≤ 781250 → w < 1280 * p → exec (.syOutAlign c) s = .next t))) ∧
  (∀ s, s.timing.aligns.all (fun a => !a.inForce) = true → exec .outAlignDone s = .next s) ∧
  (∀ s, Gives .outAlignDone s (fun t => t.timing.aligns = s.timing.aligns.filter (fun a => !a.inForce) ∧
    t.attrs = s.attrs ∧ t.tick = s.tick ∧ t.memory = s.memory)) ∧
  (∀ c dma s e, ready 0x1106 [(16, 1), (24, 8)] c s = some e → areaBad s c.session (fieldAt e 24 8) 396 = false →
    let r := readArea s c.session (fieldAt e 24 8) 396 dma
    (fieldAt e 16 1 = 0 → fieldAt r 6 2 = 0 → 2 ≤ fieldAt r 5 1 → fieldAt r 5 1 ≤ 32 → bytesAt r 0 4 = asciiBytes "ZHOT" →
      fieldAt r 4 1 = 1 → rawsRise (tablePoints r) = true → exec (.syHoldoverTableWrite c dma) s =
        if fieldAt r 392 4 = crc32c (bytesAt r 0 392) then
          .next (finish c .ok [] { s with timing := { s.timing with table := r } })
        else .next (finish c .eIntegrity [] s)) ∧
    (fieldAt e 16 1 = 1 → exec (.syHoldoverTableRead c) s =
      .next (finish c .ok [] (writeArea s c.session (fieldAt e 24 8) (padTo 396 s.timing.table)))))

/-- Housekeeping rounds, the bezel and output protection act as R607 to R621 say. (rests on R607, R608, R609, R610, R611, R613, R614, R615, R617, R618, R620, R622) -/
def Obligations.SensorsReferencesAndOutputs : Prop :=
  (∀ r s, running s = false → exec (.housekeepingRound r) s = .next s) ∧
  (∀ r s, running s = true → Gives (.housekeepingRound r) s (fun t => t.tick = s.tick ∧ t.memory = s.memory ∧
    let refs := (hkMeans r 0 4).map Int.toNat
    let rails := (hkMeans r 4 8).map Int.toNat
    let vin := (hkMean r 12).toNat
    let sites := hkMeans r 14 24
    (∀ k, k < 4 → t.attr .hkRefMv k = ((refs.getD k 0 : Nat) : Int)) ∧ t.attr .hkVinMv = vin ∧ t.attr .hkV18Mv = (hkMean r 13).toNat ∧
    (∀ k, k < 8 → t.attr (railAttr k) = if k ∈ s.power.railsUp then ((rails.getD k 0 : Nat) : Int) else 0) ∧
    (∀ k, k < 24 → t.attr .hkSiteC k = wrapS 16 (sites.getD k 0)) ∧
    t.attrN .thermalLevel = thermalNext s (sites.getD (hottestSite sites) 0) ∧
    t.power.bandgapRun = (if refs.getD 1 0 < 100 * ((refs.getD 0 0 : Int) - (refs.getD 1 0 : Nat)).natAbs then
      s.power.bandgapRun + 1 else 0) ∧
    (t.power.bandgapB = true ↔ s.power.bandgapB = true ∨ 2 ≤ t.power.bandgapRun) ∧
    t.power.vinLow = (decide (vin < 10800) || (s.power.vinLow && decide (s.power.vinRun < 1))) ∧
    t.hk.start = s.tick.toNat ∧
    (s.hk.snap = .idle → t.hk.snap = .idle ∧ t.attr .hkSnapshot = s.attr .hkSnapshot) ∧
    (s.hk.snap = .waiting → t.hk.snap = .running ∧ t.attr .hkSnapshot = s.attr .hkSnapshot) ∧
    (s.hk.snap = .running → t.hk.seq = (s.hk.seq + 1) % 2 ^ 32 ∧ t.hk.queued = false ∧
      t.hk.snap = (if s.hk.queued then .running else .idle)))) ∧
  (∀ s, gated s 3 = true ∨ s.bezel.run ≠ none → exec .snsSequenceStart s = .next s) ∧
  (∀ s, gated s 3 = false → s.bezel.run = none → s.written = [] →
    (s.attr .bezelMode ≠ 0 → s.bezel.queued = false → exec .snsSequenceStart s = .next s) ∧
    (s.attr .bezelMode = 0 ∨ s.bezel.queued = true → Gives .snsSequenceStart s (fun t => t.attrs = s.attrs ∧ t.tick = s.tick ∧
      t.bezel.run = (List.range 12).find? (fun i => decide (s.attr .snsEnable i = 1)) ∧ t.bezel.queued = false ∧
      (∀ i, t.bezel.run = some i → t.bezel.since = s.tick.toNat ∧
        (t.bezel.cut = true ↔ s.attr .snsShorted i = 1 ∨ s.attr .snsShorted (s.attrN .snsRefPin i) = 1))))) ∧
  (∀ v s, s.bezel.run = none ∨ gated s 3 = true → exec (.snsConversionEnd v) s = .next s) ∧
  (∀ v s i, s.bezel.run = some i → (s.tick.toNat + 1) * 1280 < s.bezel.since * 1280 + senseUs s i * 1000 →
    exec (.snsConversionEnd v) s = .next s) ∧
  (∀ v s i, s.bezel.run = some i → i < 12 → gated s 3 = false → s.written = [] →
    s.bezel.since * 1280 + senseUs s i * 1000 ≤ (s.tick.toNat + 1) * 1280 → Gives (.snsConversionEnd v) s (fun t =>
    t.attr .snsStatus i = senseStatus s i v ∧ t.attr .snsRawTick i = s.tick.toNat ∧
    (senseStatus s i v ≠ 0 → t.attr .snsRaw i = s.attr .snsRaw i) ∧
    (∀ n, senseStatus s i v = 0 → senseCount (decide (s.attr .snsChop i = 1)) v = some n → t.attr .snsRaw i = n) ∧
    (∀ j, j < 12 → j ≠ i → t.attr .snsRaw j = s.attr .snsRaw j ∧ t.attr .snsStatus j = s.attr .snsStatus j) ∧
    (∀ j, (List.range 12).find? (fun j => decide (i < j) && decide (s.attr .snsEnable j = 1)) = some j →
      t.bezel.run = some j ∧ t.bezel.since = s.tick.toNat ∧ t.bezel.queued = s.bezel.queued))) ∧
  (∀ s i v, senseStatus s i v = 0 → ∃ n, senseCount (decide (s.attr .snsChop i = 1)) v = some n ∧ n < 16777216) ∧
  (∀ (l : SenseLevel) s, gated s 3 = true → exec (.snsShortFlag l) s = .next s ∧ exec (.snsShortRelease l) s = .next s) ∧
  (∀ (l : SenseLevel) s, s.attr .snsShorted l.pin = 1 ∨ l.mv ≤ 2500 ∨ l.us < 10 → exec (.snsShortFlag l) s = .next s) ∧
  (∀ (l : SenseLevel) s, s.attr .snsShorted l.pin = 0 ∨ 2000 ≤ l.mv ∨ l.us < 100000 → exec (.snsShortRelease l) s = .next s) ∧
  (∀ (l : SenseLevel) s, gated s 3 = false → s.attr .snsShorted l.pin = 0 → 2500 < l.mv → 10 ≤ l.us →
    Gives (.snsShortFlag l) s (fun t => t.attr .snsShorted l.pin = 1 ∧
      (∀ q, q ≠ l.pin.val → q < 12 → t.attr .snsShorted q = s.attr .snsShorted q) ∧ t.bezel.run = s.bezel.run ∧
      (t.bezel.cut = true ↔ s.bezel.cut = true ∨ pinInUse s l.pin = true))) ∧
  (∀ (l : SenseLevel) s, gated s 3 = false → s.attr .snsShorted l.pin = 1 → l.mv < 2000 → 100000 ≤ l.us →
    Gives (.snsShortRelease l) s (fun t => t.attr .snsShorted l.pin = 0 ∧
      (∀ q, q ≠ l.pin.val → q < 12 → t.attr .snsShorted q = s.attr .snsShorted q) ∧ t.bezel = s.bezel)) ∧
  (∀ c s e, ready 0x1201 [] c s = some e →
    (gated s 3 = true ∨ s.attrRead .bezelMode 0 0 ≠ 1 → exec (.sySnsTrigger c) s = .next (finish c .eState [] s)) ∧
    (gated s 3 = false → s.attrRead .bezelMode 0 0 = 1 →
      (s.bezel.run = none → exec (.sySnsTrigger c) s = .next (finish c .ok [(16, 1, 0)] (sequenceStart s))) ∧
      (s.bezel.run ≠ none → s.bezel.queued = false → exec (.sySnsTrigger c) s =
        .next (finish c .ok [(16, 1, 1)] { s with bezel := { s.bezel with queued := true } })) ∧
      (s.bezel.run ≠ none → s.bezel.queued = true → exec (.sySnsTrigger c) s =
        .next (finish c .ok [(16, 1, 2)] (raise 0x1202 6 noIndex [] (s.bump .bezelOverruns)))))) ∧
  (∀ c s e, ready 0x1202 [] c s = some e →
    (s.hk.snap = .idle → exec (.syHkSnapshot c) s =
      .next (finish c .ok [(16, 1, 0)] { s with hk := { s.hk with snap := .waiting } })) ∧
    (s.hk.snap ≠ .idle → s.hk.queued = false → exec (.syHkSnapshot c) s =
      .next (finish c .ok [(16, 1, 1)] { s with hk := { s.hk with queued := true } })) ∧
    (s.hk.snap ≠ .idle → s.hk.queued = true → exec (.syHkSnapshot c) s =
      .next (finish c .ok [(16, 1, 2)] (raise 0x1207 6 noIndex [] (s.bump .hkOverruns))))) ∧
  (∀ (j : Fin 15) look s, faultDeclared s j look = false → exec (.outputFault j look) s = .next s) ∧
  (∀ (j : Fin 15) look s, faultDeclared s j look = true → outputFaulty s j = true →
    Gives (.outputFault j look) s (fun t => Tab.get 0 t.pins.window j = 0 ∧ t.attrs = s.attrs ∧ t.pins.next = s.pins.next)) ∧
  (∀ (j : Fin 15) look s, faultDeclared s j look = true → outputFaulty s j = false →
    Gives (.outputFault j look) s (fun t => outputFaulty t j = true ∧
      (∀ k, k < 15 → k ≠ j.val → outputFaulty t k = outputFaulty s k ∧ t.attr .pinsCause k = s.attr .pinsCause k) ∧
      t.attr .pinsCause j = faultCause s j look ∧
      Tab.get 0 t.pins.next j = s.tick.toNat + msTicks 100 ∧ Tab.get 0 t.pins.episode j = 0)) ∧
  (∀ (j : Fin 15) look s, faultDeclared s j look = true ↔ barAlive s = true ∧ outputGated s j = false ∧
    (j.val = 14 → look.driven = false) ∧
    (if swingChecked s j = true then look.swing < 500 ∧ 1000 ≤ look.ns else 16 ≤ look.mismatches)) ∧
  (∀ (j : Fin 15) s, outputFaulty s j = false ∨ s.tick.toNat < Tab.get 0 s.pins.next j →
    exec (.pinRetryWindow j) s = .next s) ∧
  (∀ (j : Fin 15) s, outputFaulty s j = true → Tab.get 0 s.pins.next j ≤ s.tick.toNat → Gives (.pinRetryWindow j) s (fun t =>
    Tab.get 0 t.pins.next j = Tab.get 0 s.pins.next j + msTicks 100 ∧
    (outputHeld s j = true → t.pins.window = s.pins.window ∧ t.attrs = s.attrs) ∧
    (outputHeld s j = false → Tab.get 0 t.pins.window j = s.tick.toNat + 1 ∧
      t.attr .pinsRetries j = (s.attr .pinsRetries j + 1) % 4294967296 ∧
      Tab.get 0 t.pins.episode j = Tab.get 0 s.pins.episode j + 1))) ∧
  (∀ (j : Fin 15) s, outputHeld s j = true → Gives (.pinRecovered j) s (fun t =>
    t.attrs = s.attrs ∧ Tab.get 0 t.pins.window j = 0 ∧ t.pins.next = s.pins.next)) ∧
  (∀ (j : Fin 15) s, outputHeld s j = false → windowOver s j = false → exec (.pinRecovered j) s = .next s) ∧
  (∀ (j : Fin 15) s, outputHeld s j = false → windowOver s j = true → Gives (.pinRecovered j) s (fun t =>
    outputFaulty t j = false ∧ (∀ k, k < 15 → k ≠ j.val → outputFaulty t k = outputFaulty s k) ∧
    t.attr .pinsCause j = 0xFF ∧ Tab.get 0 t.pins.window j = 0 ∧ t.bezel = s.bezel)) ∧
  (∀ c s e, ready 0x1203 [(16, 4)] c s = some e → fieldAt e 16 4 < 2 ^ 15 → Gives (.syPinRetry c) s (fun t =>
    t.pins.next = s.pins.next ∧
    ∀ j, j < 15 → t.attr .pinsRetries j =
      (if bitOf (fieldAt e 16 4) j = true ∧ outputFaulty s j = true ∧ outputHeld s j = false then
        (s.attr .pinsRetries j + 1) % 4294967296 else s.attr .pinsRetries j) ∧
      Tab.get 0 t.pins.window j =
        (if bitOf (fieldAt e 16 4) j = true ∧ outputFaulty s j = true ∧ outputHeld s j = false then s.tick.toNat + 1
          else Tab.get 0 s.pins.window j))) ∧
  (∀ c s e, ready 0x1203 [(16, 4)] c s = some e → 2 ^ 15 ≤ fieldAt e 16 4 →
    exec (.syPinRetry c) s = .next (finish c .eBadParam [] s))

/-- Tarnish plans, the wear ledger and counter dumps follow R629 to R641. (rests on R626, R629, R630, R631, R635, R637, R641, R644) -/
def Obligations.TarnishPlansAndDumps : Prop :=
  (∀ d m g k o, 0 < k → (tarnRange d).1 ≤ o → o ≤ (tarnRange d).2 →
    (tarnRange d).1 ≤ o + (planRule d m g k o).1 ∧ o + (planRule d m g k o).1 ≤ (tarnRange d).2 ∧
    (m < g → (planRule d m g k o).2 = false → ((planRule d m g k o).1 = tarnLimit d ∨
        (g - m ≤ k * (planRule d m g k o).1 ∧ k * ((planRule d m g k o).1 - 1) < g - m))) ∧
    (g ≤ m → m < g + 2 * k → planRule d m g k o = (0, false)) ∧
    (g ≤ m → g + 2 * k ≤ m → (tarnRange d).1 < o → planRule d m g k o = (-1, false))) ∧
  (∀ s, s.tarnish.startOwed = false ∨ s.tarnish.plan.isSome = true → exec .tarnishPlanStart s = .next s) ∧
  (∀ s, s.tarnish.startOwed = true → s.tarnish.plan = none → Gives .tarnishPlanStart s (fun t =>
    ∃ pl, t.tarnish.plan = some pl ∧ t.tarnish.startOwed = false ∧ t.tarnish.restart = false ∧ pl.start = s.tick.toNat ∧
      pl.made = 0 ∧ (pl.steps = [] ↔ pl.phase = 2) ∧ (pl.phase = 2 → pl.settle = 10) ∧ (pl.phase = 1 ∨ pl.phase = 2) ∧
      (∀ x ∈ pl.steps, x.domain < 6 ∧ 3600 ≤ (s.tarn x.domain).count) ∧
      (∀ x ∈ pl.planned, x.1 < 6 ∧ x.2 = (s.tarn x.1).low ∧ (t.tarn x.1).count = 0) ∧
      (∀ d, d < 12 → (bitOf pl.skipped d = true ↔ (s.tarn d).count < 3600)) ∧
      (∀ d, d < 12 → (t.tarn d).offset = (s.tarn d).offset) ∧
      t.attr .tarnishPlansSkipped = (s.attr .tarnishPlansSkipped +
        (((List.range 12).countP (fun d => decide ((s.tarn d).count < 3600)) : Nat) : Int)) % 4294967296)) ∧
  (∀ s, s.tarnish.plan = none → exec .tarnishSettleEnd s = .next s ∧ exec .tarnishStep s = .next s) ∧
  (∀ s pl, s.tarnish.plan = some pl → pl.phase ≠ 2 ∨ pl.ready = false → exec .tarnishSettleEnd s = .next s) ∧
  (∀ s pl, s.tarnish.plan = some pl → pl.phase = 2 → pl.ready = true → pl.steps = [] → pl.lows = [] →
    Gives .tarnishSettleEnd s (fun t => t.tarnish.plan = none ∧ t.tarnish.plans = (s.tarnish.plans + 1) % 2 ^ 32 ∧
      t.attr .tarnishNextPlanS = 86400 ∧ t.tarnish.cmds = [])) ∧
  (∀ s pl, s.tarnish.plan = some pl → pl.phase = 2 → pl.ready = true → Gives .tarnishSettleEnd s (fun t =>
    (∀ d, d < 12 → (t.tarn d).offset = (s.tarn d).offset) ∧ t.power.railSteps = s.power.railSteps ∧
    ∀ q, t.tarnish.plan = some q → q.phase = 3 ∧ q.steps ≠ [] ∧ q.start = pl.start)) ∧
  (∀ s pl, s.tarnish.plan = some pl → pl.steps = [] ∨ s.tick.toNat < pl.next → exec .tarnishStep s = .next s) ∧
  (∀ s pl x l, s.tarnish.plan = some pl → pl.steps = x :: l → l ≠ [] → pl.next ≤ s.tick.toNat →
    (x.domain < 6 ∨ 10 ≤ x.domain → Gives .tarnishStep s (fun t =>
      t.tarnish.plan = some { pl with steps := l, next := s.tick.toNat + 16, made := pl.made + 1 } ∧
      (t.tarn x.domain).offset = (s.tarn x.domain).offset + (if x.up then 1 else -1) ∧
      (∀ d, d ≠ x.domain → t.tarn d = s.tarn d) ∧
      (x.domain < 6 → Tab.get 0 t.power.railSteps (tarnRail x.domain) = (t.tarn x.domain).offset) ∧
      (10 ≤ x.domain → t.attr .fecIterCapTarnish (tarnPort x.domain) = 12 - (t.tarn x.domain).offset))) ∧
    (6 ≤ x.domain → x.domain < 10 → Gives .tarnishStep s (fun t =>
      if (s.core (tarnPort x.domain) x.core).swapAt = some s.tick.toNat then
        t.tarnish.plan = some { pl with next := s.tick.toNat + 1 } ∧ t.tarnish.cores = s.tarnish.cores
      else t.tarnish.plan = some { pl with steps := l, next := s.tick.toNat + 16, made := pl.made + 1 } ∧
        Tab.get 0 t.tarnish.cores (12 * tarnPort x.domain + x.core) =
          Tab.get 0 s.tarnish.cores (12 * tarnPort x.domain + x.core) + (if x.up then 1 else -1)))) ∧
  (∀ s, s.tarnish.writeOwed = false ∨ fwBackground s = false → exec .ledgerWrite s = .next s) ∧
  (∀ s, s.tarnish.writeOwed = true → fwBackground s = true → Gives .ledgerWrite s (fun t =>
    t.tarnish.writeOwed = false ∧ t.tarnish.seq = (s.tarnish.seq + 1) % 2 ^ 32 ∧ t.tarnish.nvm = ledgerBytes t ∧
    t.attrs = s.attrs ∧ t.tarnish.doms = s.tarnish.doms ∧ t.tarnish.plan = s.tarnish.plan)) ∧
  (∀ s, (∀ d, d < 12 → (s.tarn d).history.length ≤ 64) → ledgerGood (ledgerBytes s) = true) ∧
  (∀ c s e, ready 0x1301 [] c s = some e → exec (.syTarnishPlan c) s =
    .next (if s.attr .tarnishEnable = 0 ∨ s.tarnish.plan.isSome = true ∨ s.tarnish.startOwed = true then finish c .eState [] s
      else acceptIfNot c { s with tarnish := { s.tarnish with cmds := s.tarnish.cmds ++ [c] } })) ∧
  (∀ c s e, ready 0x1302 [(16, 1), (24, 8)] c s = some e →
    ¬ (s.attr .sessionPermission c.session = 0 ∧ s.attr .sessionPerfRead c.session = 0) →
    areaBad s c.session (fieldAt e 24 8) 2048 = false →
    (fieldAt e 16 1 = 0 → Gives (.syPerfDump c) s (fun t =>
      t.perf.dumps = s.perf.dumps ++ [(c, fieldAt e 24 8)] ∧ t.perf.live = s.perf.live ∧ t.tick = s.tick)) ∧
    (fieldAt e 16 1 = 1 → s.perf.snapTaken = false → exec (.syPerfDump c) s = .next (finish c .eState [] s)) ∧
    (fieldAt e 16 1 = 1 → s.perf.snapTaken = true → exec (.syPerfDump c) s =
      .next (finish c .ok [(16, 8, s.bar.snapTick.toNat)]
        (writeArea s c.session (fieldAt e 24 8) (dumpBytes (perfSnap s))))))

/-- Every step keeps the tick count at 0 while ticks have not begun, and the external memory in its canonical form. (rests on R183, R67, R468) -/
def Obligations.EveryStepKeepsTheClockAndDram : Prop :=
  ∀ s t, s.clockOk → s.dramOk → step s = .next t → t.clockOk ∧ t.dramOk

/-- The state after reset has the tick count at 0 and the external memory in canonical form. (rests on R183, R468) -/
def Obligations.ResetKeepsTheInvariants : Prop :=
  State.reset.clockOk ∧ State.reset.dramOk ∧ State.reset.tick = 0 ∧ State.reset.pending = []
end

