-- ==== Sys2Proof/Laws/Tab.lean ====
section
/-!
SUPPORT. Sys2Proof/Laws/Tab.lean: the laws of sparse tables: what is read after a write, an insertion and a removal, and that they
keep the canonical form.
-/
namespace Sys2Proof

variable {β : Type}

@[simp] theorem Tab.get_nil (d : β) (n : Nat) : Tab.get d [] n = d := rfl

theorem Tab.get_erase (d : β) (t : Tab β) (n m : Nat) :
    Tab.get d (Tab.erase t n) m = if m = n then d else Tab.get d t m := by
  induction t with
  | nil => simp [Tab.erase, Tab.get]
  | cons p t ih =>
    obtain ⟨k, v⟩ := p
    by_cases h : n = k <;> by_cases h' : m = k <;> by_cases h'' : m = n <;> simp_all [Tab.erase, Tab.get]

theorem Tab.get_ins (d : β) (t : Tab β) (n m : Nat) (v : β) :
    Tab.get d (Tab.ins t n v) m = if m = n then v else Tab.get d t m := by
  induction t with
  | nil => simp [Tab.ins, Tab.get]
  | cons p t ih =>
    obtain ⟨k, w⟩ := p
    simp only [Tab.ins]
    split
    · simp [Tab.get]
    · split
      · subst_vars
        by_cases h : m = k <;> simp [Tab.get, h]
      · by_cases h : m = k
        · have : m ≠ n := by omega
          simp [Tab.get, h]; omega
        · simp [Tab.get, h, ih]

/-- A write is read back, and leaves every other number as it was. -/
@[simp] theorem Tab.get_put [DecidableEq β] (d : β) (t : Tab β) (n m : Nat) (v : β) :
    Tab.get d (Tab.put d t n v) m = if m = n then v else Tab.get d t m := by
  unfold Tab.put
  split
  · next h => rw [Tab.get_erase, h]
  · rw [Tab.get_ins]

@[simp] theorem Tab.get_upd [DecidableEq β] (d : β) (t : Tab β) (n m : Nat) (f : β → β) :
    Tab.get d (Tab.upd d t n f) m = if m = n then f (Tab.get d t n) else Tab.get d t m := by
  simp [Tab.upd]

/-! ### The canonical form -/

theorem Tab.above_mono {t : Tab β} {a b : Nat} (h : Tab.above b t = true) (hab : a ≤ b) : Tab.above a t = true := by
  cases t with
  | nil => rfl
  | cons p t =>
    obtain ⟨k, v⟩ := p
    simp only [Tab.above, Bool.and_eq_true, decide_eq_true_eq] at h ⊢
    exact ⟨by omega, h.2⟩

theorem Tab.above_erase {t : Tab β} {b : Nat} (n : Nat) (h : Tab.above b t = true) :
    Tab.above b (Tab.erase t n) = true := by
  induction t generalizing b with
  | nil => rfl
  | cons p t ih =>
    obtain ⟨k, v⟩ := p
    simp only [Tab.above, Bool.and_eq_true, decide_eq_true_eq] at h
    simp only [Tab.erase]
    split
    · exact ih (Tab.above_mono h.2 (by omega))
    · simp [Tab.above, h.1, ih h.2]

theorem Tab.above_ins {t : Tab β} {b n : Nat} {v : β} (h : Tab.above b t = true) (hn : b < n) :
    Tab.above b (Tab.ins t n v) = true := by
  induction t generalizing b with
  | nil => simp [Tab.ins, Tab.above, hn]
  | cons p t ih =>
    obtain ⟨k, w⟩ := p
    simp only [Tab.above, Bool.and_eq_true, decide_eq_true_eq] at h
    simp only [Tab.ins]
    split
    · simp [Tab.above, hn, h.2]; assumption
    · split
      · subst_vars; simp [Tab.above, h.1, h.2]
      · simp [Tab.above, h.1, ih h.2 (by omega)]

theorem Tab.mem_erase {t : Tab β} {n : Nat} {p : Nat × β} (h : p ∈ Tab.erase t n) : p ∈ t := by
  induction t with
  | nil => exact h
  | cons q t ih =>
    obtain ⟨k, v⟩ := q
    simp only [Tab.erase] at h
    split at h
    · exact List.mem_cons_of_mem _ (ih h)
    · simp only [List.mem_cons] at h ⊢
      exact h.imp id ih

theorem Tab.mem_ins {t : Tab β} {n : Nat} {v : β} {p : Nat × β} (h : p ∈ Tab.ins t n v) : p = (n, v) ∨ p ∈ t := by
  induction t with
  | nil => simpa [Tab.ins] using h
  | cons q t ih =>
    obtain ⟨k, w⟩ := q
    simp only [Tab.ins] at h
    split at h
    · simpa using h
    · split at h
      · simp only [List.mem_cons] at h ⊢
        exact h.imp id Or.inr
      · simp only [List.mem_cons] at h ⊢
        rcases h with h | h
        · exact .inr (.inl h)
        · exact (ih h).imp id .inr

/-- The canonical form, entry by entry. -/
theorem Tab.wf_cons [DecidableEq β] (d : β) (k : Nat) (v : β) (t : Tab β) :
    Tab.wf d ((k, v) :: t) = true ↔ Tab.above k t = true ∧ v ≠ d ∧ ∀ p ∈ t, p.2 ≠ d := by
  simp [Tab.wf]

theorem Tab.wf_iff_mem [DecidableEq β] {d : β} {t : Tab β} (h : Tab.wf d t = true) : ∀ p ∈ t, p.2 ≠ d := by
  cases t with
  | nil => simp
  | cons q t =>
    obtain ⟨k, v⟩ := q
    rw [Tab.wf_cons] at h
    simp only [List.mem_cons, forall_eq_or_imp]
    exact h.2

theorem Tab.wf_of [DecidableEq β] {d : β} {t : Tab β} (h : t = [] ∨ ∃ k v r, t = (k, v) :: r ∧ Tab.above k r = true)
    (hm : ∀ p ∈ t, p.2 ≠ d) : Tab.wf d t = true := by
  rcases h with rfl | ⟨k, v, r, rfl, ha⟩
  · rfl
  · rw [Tab.wf_cons]
    simp only [List.mem_cons, forall_eq_or_imp] at hm
    exact ⟨ha, hm⟩

theorem Tab.wf_tail [DecidableEq β] {d : β} {k : Nat} {v : β} {t : Tab β} (h : Tab.wf d ((k, v) :: t) = true) :
    Tab.wf d t = true := by
  rw [Tab.wf_cons] at h
  cases t with
  | nil => rfl
  | cons q t =>
    obtain ⟨k', v'⟩ := q
    simp only [Tab.above, Bool.and_eq_true, decide_eq_true_eq] at h
    exact Tab.wf_of (.inr ⟨k', v', t, rfl, h.1.2⟩) h.2.2

theorem Tab.wf_erase [DecidableEq β] {d : β} {t : Tab β} (n : Nat) (h : Tab.wf d t = true) :
    Tab.wf d (Tab.erase t n) = true := by
  induction t with
  | nil => rfl
  | cons p t ih =>
    obtain ⟨k, v⟩ := p
    simp only [Tab.erase]
    split
    · exact ih (Tab.wf_tail h)
    · rw [Tab.wf_cons] at h ⊢
      exact ⟨Tab.above_erase n h.1, h.2.1, fun q hq => h.2.2 q (Tab.mem_erase hq)⟩

theorem Tab.wf_ins [DecidableEq β] {d : β} {t : Tab β} {n : Nat} {v : β} (h : Tab.wf d t = true) (hv : v ≠ d) :
    Tab.wf d (Tab.ins t n v) = true := by
  apply Tab.wf_of
  · cases t with
    | nil => exact .inr ⟨n, v, [], rfl, rfl⟩
    | cons p t =>
      obtain ⟨k, w⟩ := p
      rw [Tab.wf_cons] at h
      simp only [Tab.ins]
      split
      · exact .inr ⟨n, v, _, rfl, by simpa [Tab.above, h.1] using ‹n < k›⟩
      · split
        · subst_vars; exact .inr ⟨k, v, t, rfl, h.1⟩
        · exact .inr ⟨k, w, _, rfl, Tab.above_ins h.1 (by omega)⟩
  · intro p hp
    rcases Tab.mem_ins hp with rfl | hp
    · exact hv
    · exact Tab.wf_iff_mem h p hp

/-- A write keeps the canonical form. -/
theorem Tab.wf_put [DecidableEq β] {d : β} {t : Tab β} (n : Nat) (v : β) (h : Tab.wf d t = true) :
    Tab.wf d (Tab.put d t n v) = true := by
  unfold Tab.put
  split
  · exact Tab.wf_erase n h
  · exact Tab.wf_ins h ‹_›

end Sys2Proof
end

