-- ==== Sys2Proof/Laws/Bytes.lean ====
section
/-!
SUPPORT. Sys2Proof/Laws/Bytes.lean: the laws of byte strings and of sparse byte memories: what is read back, sizes, and the range of
check words.
-/
namespace Sys2Proof

@[simp] theorem leBytes_length (n v : Nat) : (leBytes n v).length = n := by
  induction n generalizing v with
  | zero => rfl
  | succ n ih => simp [leBytes, ih]

/-- A number read back from its bytes. -/
theorem leNat_leBytes (n v : Nat) : leNat (leBytes n v) = v % 256 ^ n := by
  induction n generalizing v with
  | zero => simp [leBytes, leNat, Nat.mod_one]
  | succ n ih =>
    simp only [leBytes, leNat, ih, BitVec.toNat_ofNat]
    show v % 256 + 256 * (v / 256 % 256 ^ n) = v % 256 ^ (n + 1)
    rw [Nat.pow_succ, Nat.mul_comm (256 ^ n) 256, Nat.mod_mul]

theorem bytesAt_append_right (a b : List Byte) : bytesAt (a ++ b) a.length b.length = b := by
  simp [bytesAt]

/-- A field that stands at the end of a string reads back. -/
theorem fieldAt_append (a : List Byte) (n v : Nat) : fieldAt (a ++ leBytes n v) a.length n = v % 256 ^ n := by
  have h := bytesAt_append_right a (leBytes n v)
  rw [leBytes_length] at h
  rw [fieldAt, h, leNat_leBytes]

theorem crcBit_lt {poly c : Nat} (hp : poly < 2 ^ 32) (hc : c < 2 ^ 32) : crcBit poly c < 2 ^ 32 := by
  unfold crcBit
  split
  · exact Nat.xor_lt_two_pow (by omega) hp
  · omega

theorem crcByte_lt {poly c : Nat} (b : Byte) (hp : poly < 2 ^ 32) (hc : c < 2 ^ 32) : crcByte poly c b < 2 ^ 32 := by
  unfold crcByte
  have hb : b.toNat < 2 ^ 32 := Nat.lt_of_lt_of_le b.isLt (by decide)
  have h := Nat.xor_lt_two_pow hc hb
  repeat first | assumption | apply crcBit_lt hp

theorem crc32cFrom_lt (l : List Byte) {c : Nat} (hc : c < 2 ^ 32) : crc32cFrom c l < 2 ^ 32 := by
  unfold crc32cFrom
  induction l generalizing c with
  | nil => exact hc
  | cons b t ih => exact ih (crcByte_lt b (by decide) hc)

/-- A check word has 32 bits. -/
theorem crc32c_lt (l : List Byte) : crc32c l < 2 ^ 32 :=
  Nat.xor_lt_two_pow (crc32cFrom_lt l (by decide)) (by decide)

namespace Machine

/-- Bytes written into a sparse memory read back, and every other byte reads as before. -/
theorem get_memWrite (m : Tab Byte) (o : Nat) (l : List Byte) (k : Nat) :
    Tab.get 0 (memWrite m o l) k = if o ≤ k ∧ k < o + l.length then l.getD (k - o) 0 else Tab.get 0 m k := by
  induction l generalizing m o with
  | nil =>
    have : ¬(o ≤ k ∧ k < o + ([] : List Byte).length) := by simp only [List.length_nil]; omega
    simp only [memWrite, if_neg this]
  | cons b t ih =>
    simp only [memWrite, ih, Tab.get_put, List.length_cons]
    by_cases h1 : o + 1 ≤ k ∧ k < o + 1 + t.length
    · have h2 : o ≤ k ∧ k < o + (t.length + 1) := by omega
      have h3 : k - o = k - (o + 1) + 1 := by omega
      simp only [if_pos h1, if_pos h2, h3, List.getD_cons_succ]
    · simp only [if_neg h1]
      by_cases h4 : k = o
      · subst h4
        have h2 : k ≤ k ∧ k < k + (t.length + 1) := by omega
        simp only [if_true, if_pos h2, Nat.sub_self, List.getD_cons_zero]
      · have h2 : ¬(o ≤ k ∧ k < o + (t.length + 1)) := by omega
        simp only [if_neg h4, if_neg h2]

/-- An image window into which a block was written reads as the block (R101). -/
theorem windowBlock_memWrite (s : State) (l : List Byte) (hl : l.length = 4096)
    (h : s.bar.imageWindow = memWrite [] 0 l) : windowBlock s = l := by
  apply List.ext_getElem
  · simp [windowBlock, hl]
  · intro k h1 h2
    have hk : k < 4096 := by simpa [windowBlock] using h1
    have hc : 0 ≤ k ∧ k < 0 + l.length := by omega
    simp only [windowBlock, h, List.getElem_map, List.getElem_range, get_memWrite, if_pos hc, Nat.sub_zero,
      List.getD_eq_getElem?_getD, List.getElem?_eq_getElem h2, Option.getD_some]

/-- A block that ends in its check word passes R80. -/
theorem blockGood_append (a : List Byte) (h : a.length = 4092) : blockGood (a ++ leBytes 4 (crc32c a)) = true := by
  have h1 := fieldAt_append a 4 (crc32c a)
  have h3 : crc32c a < 256 ^ 4 := crc32c_lt a
  rw [h, Nat.mod_eq_of_lt h3] at h1
  have h2 : (a ++ leBytes 4 (crc32c a)).take 4092 = a := by rw [← h]; exact List.take_left
  simp [blockGood, h, h1, h2]

end Machine

end Sys2Proof
end

