-- ==== Sys2Proof/Laws/State.lean ====
section
/-!
SUPPORT. Sys2Proof/Laws/State.lean: what each named update of the state leaves in each field of it, one lemma per field and update, and
what the accessors read after an update, so that no proof unfolds a record update.
-/
set_option Elab.async false
set_option linter.unusedVariables false

namespace Sys2Proof.Machine

variable (s : State)

/-! ### `State.setAttr` -/

@[simp] theorem State.setAttr_pending (a : Attr) (i j : Nat) (v : Int) : (s.setAttr a i j v).pending = s.pending := rfl
@[simp] theorem State.setAttr_free (a : Attr) (i j : Nat) (v : Int) : (s.setAttr a i j v).free = s.free := rfl
@[simp] theorem State.setAttr_out (a : Attr) (i j : Nat) (v : Int) : (s.setAttr a i j v).out = s.out := rfl
@[simp] theorem State.setAttr_tick (a : Attr) (i j : Nat) (v : Int) : (s.setAttr a i j v).tick = s.tick := rfl
@[simp] theorem State.setAttr_attrs (a : Attr) (i j : Nat) (v : Int) : (s.setAttr a i j v).attrs = Tab.put (resetValue s.fuse a i) s.attrs (a.key i j) v := rfl
@[simp] theorem State.setAttr_written (a : Attr) (i j : Nat) (v : Int) : (s.setAttr a i j v).written = s.written := rfl
@[simp] theorem State.setAttr_fresh (a : Attr) (i j : Nat) (v : Int) : (s.setAttr a i j v).fresh = s.fresh := rfl
@[simp] theorem State.setAttr_acc (a : Attr) (i j : Nat) (v : Int) : (s.setAttr a i j v).acc = s.acc := rfl
@[simp] theorem State.setAttr_fuse (a : Attr) (i j : Nat) (v : Int) : (s.setAttr a i j v).fuse = s.fuse := rfl
@[simp] theorem State.setAttr_power (a : Attr) (i j : Nat) (v : Int) : (s.setAttr a i j v).power = s.power := rfl
@[simp] theorem State.setAttr_sealed (a : Attr) (i j : Nat) (v : Int) : (s.setAttr a i j v).sealed = s.sealed := rfl
@[simp] theorem State.setAttr_nor (a : Attr) (i j : Nat) (v : Int) : (s.setAttr a i j v).nor = s.nor := rfl
@[simp] theorem State.setAttr_boot (a : Attr) (i j : Nat) (v : Int) : (s.setAttr a i j v).boot = s.boot := rfl
@[simp] theorem State.setAttr_clk (a : Attr) (i j : Nat) (v : Int) : (s.setAttr a i j v).clk = s.clk := rfl
@[simp] theorem State.setAttr_bar (a : Attr) (i j : Nat) (v : Int) : (s.setAttr a i j v).bar = s.bar := rfl
@[simp] theorem State.setAttr_pcie (a : Attr) (i j : Nat) (v : Int) : (s.setAttr a i j v).pcie = s.pcie := rfl
@[simp] theorem State.setAttr_sessions (a : Attr) (i j : Nat) (v : Int) : (s.setAttr a i j v).sessions = s.sessions := rfl
@[simp] theorem State.setAttr_gates (a : Attr) (i j : Nat) (v : Int) : (s.setAttr a i j v).gates = s.gates := rfl
@[simp] theorem State.setAttr_convs (a : Attr) (i j : Nat) (v : Int) : (s.setAttr a i j v).convs = s.convs := rfl
@[simp] theorem State.setAttr_cellRecords (a : Attr) (i j : Nat) (v : Int) : (s.setAttr a i j v).cellRecords = s.cellRecords := rfl
@[simp] theorem State.setAttr_factoryTrims (a : Attr) (i j : Nat) (v : Int) : (s.setAttr a i j v).factoryTrims = s.factoryTrims := rfl
@[simp] theorem State.setAttr_tables (a : Attr) (i j : Nat) (v : Int) : (s.setAttr a i j v).tables = s.tables := rfl
@[simp] theorem State.setAttr_commits (a : Attr) (i j : Nat) (v : Int) : (s.setAttr a i j v).commits = s.commits := rfl
@[simp] theorem State.setAttr_millraces (a : Attr) (i j : Nat) (v : Int) : (s.setAttr a i j v).millraces = s.millraces := rfl
@[simp] theorem State.setAttr_txs (a : Attr) (i j : Nat) (v : Int) : (s.setAttr a i j v).txs = s.txs := rfl
@[simp] theorem State.setAttr_fecs (a : Attr) (i j : Nat) (v : Int) : (s.setAttr a i j v).fecs = s.fecs := rfl
@[simp] theorem State.setAttr_lines (a : Attr) (i j : Nat) (v : Int) : (s.setAttr a i j v).lines = s.lines := rfl
@[simp] theorem State.setAttr_groups (a : Attr) (i j : Nat) (v : Int) : (s.setAttr a i j v).groups = s.groups := rfl
@[simp] theorem State.setAttr_chans (a : Attr) (i j : Nat) (v : Int) : (s.setAttr a i j v).chans = s.chans := rfl
@[simp] theorem State.setAttr_cifs (a : Attr) (i j : Nat) (v : Int) : (s.setAttr a i j v).cifs = s.cifs := rfl
@[simp] theorem State.setAttr_mapq (a : Attr) (i j : Nat) (v : Int) : (s.setAttr a i j v).mapq = s.mapq := rfl
@[simp] theorem State.setAttr_egressq (a : Attr) (i j : Nat) (v : Int) : (s.setAttr a i j v).egressq = s.egressq := rfl
@[simp] theorem State.setAttr_lanes (a : Attr) (i j : Nat) (v : Int) : (s.setAttr a i j v).lanes = s.lanes := rfl
@[simp] theorem State.setAttr_laneTable (a : Attr) (i j : Nat) (v : Int) : (s.setAttr a i j v).laneTable = s.laneTable := rfl
@[simp] theorem State.setAttr_stamps0 (a : Attr) (i j : Nat) (v : Int) : (s.setAttr a i j v).stamps0 = s.stamps0 := rfl
@[simp] theorem State.setAttr_stamps1 (a : Attr) (i j : Nat) (v : Int) : (s.setAttr a i j v).stamps1 = s.stamps1 := rfl
@[simp] theorem State.setAttr_nextPkt (a : Attr) (i j : Nat) (v : Int) : (s.setAttr a i j v).nextPkt = s.nextPkt := rfl
@[simp] theorem State.setAttr_memory (a : Attr) (i j : Nat) (v : Int) : (s.setAttr a i j v).memory = s.memory := rfl
@[simp] theorem State.setAttr_cipher (a : Attr) (i j : Nat) (v : Int) : (s.setAttr a i j v).cipher = s.cipher := rfl
@[simp] theorem State.setAttr_timing (a : Attr) (i j : Nat) (v : Int) : (s.setAttr a i j v).timing = s.timing := rfl
@[simp] theorem State.setAttr_vault (a : Attr) (i j : Nat) (v : Int) : (s.setAttr a i j v).vault = s.vault := rfl
@[simp] theorem State.setAttr_bezel (a : Attr) (i j : Nat) (v : Int) : (s.setAttr a i j v).bezel = s.bezel := rfl
@[simp] theorem State.setAttr_hk (a : Attr) (i j : Nat) (v : Int) : (s.setAttr a i j v).hk = s.hk := rfl
@[simp] theorem State.setAttr_pins (a : Attr) (i j : Nat) (v : Int) : (s.setAttr a i j v).pins = s.pins := rfl
@[simp] theorem State.setAttr_tarnish (a : Attr) (i j : Nat) (v : Int) : (s.setAttr a i j v).tarnish = s.tarnish := rfl
@[simp] theorem State.setAttr_perf (a : Attr) (i j : Nat) (v : Int) : (s.setAttr a i j v).perf = s.perf := rfl
@[simp] theorem State.setAttr_pm (a : Attr) (i j : Nat) (v : Int) : (s.setAttr a i j v).pm = s.pm := rfl

/-! ### `State.bump` -/

@[simp] theorem State.bump_pending (a : Attr) (i j : Nat) (n : Int) : (s.bump a i j n).pending = s.pending := rfl
@[simp] theorem State.bump_free (a : Attr) (i j : Nat) (n : Int) : (s.bump a i j n).free = s.free := rfl
@[simp] theorem State.bump_out (a : Attr) (i j : Nat) (n : Int) : (s.bump a i j n).out = s.out := rfl
@[simp] theorem State.bump_tick (a : Attr) (i j : Nat) (n : Int) : (s.bump a i j n).tick = s.tick := rfl
@[simp] theorem State.bump_written (a : Attr) (i j : Nat) (n : Int) : (s.bump a i j n).written = s.written := rfl
@[simp] theorem State.bump_fresh (a : Attr) (i j : Nat) (n : Int) : (s.bump a i j n).fresh = s.fresh := rfl
@[simp] theorem State.bump_acc (a : Attr) (i j : Nat) (n : Int) : (s.bump a i j n).acc = s.acc := rfl
@[simp] theorem State.bump_fuse (a : Attr) (i j : Nat) (n : Int) : (s.bump a i j n).fuse = s.fuse := rfl
@[simp] theorem State.bump_power (a : Attr) (i j : Nat) (n : Int) : (s.bump a i j n).power = s.power := rfl
@[simp] theorem State.bump_sealed (a : Attr) (i j : Nat) (n : Int) : (s.bump a i j n).sealed = s.sealed := rfl
@[simp] theorem State.bump_nor (a : Attr) (i j : Nat) (n : Int) : (s.bump a i j n).nor = s.nor := rfl
@[simp] theorem State.bump_boot (a : Attr) (i j : Nat) (n : Int) : (s.bump a i j n).boot = s.boot := rfl
@[simp] theorem State.bump_clk (a : Attr) (i j : Nat) (n : Int) : (s.bump a i j n).clk = s.clk := rfl
@[simp] theorem State.bump_bar (a : Attr) (i j : Nat) (n : Int) : (s.bump a i j n).bar = s.bar := rfl
@[simp] theorem State.bump_pcie (a : Attr) (i j : Nat) (n : Int) : (s.bump a i j n).pcie = s.pcie := rfl
@[simp] theorem State.bump_sessions (a : Attr) (i j : Nat) (n : Int) : (s.bump a i j n).sessions = s.sessions := rfl
@[simp] theorem State.bump_gates (a : Attr) (i j : Nat) (n : Int) : (s.bump a i j n).gates = s.gates := rfl
@[simp] theorem State.bump_convs (a : Attr) (i j : Nat) (n : Int) : (s.bump a i j n).convs = s.convs := rfl
@[simp] theorem State.bump_cellRecords (a : Attr) (i j : Nat) (n : Int) : (s.bump a i j n).cellRecords = s.cellRecords := rfl
@[simp] theorem State.bump_factoryTrims (a : Attr) (i j : Nat) (n : Int) : (s.bump a i j n).factoryTrims = s.factoryTrims := rfl
@[simp] theorem State.bump_tables (a : Attr) (i j : Nat) (n : Int) : (s.bump a i j n).tables = s.tables := rfl
@[simp] theorem State.bump_commits (a : Attr) (i j : Nat) (n : Int) : (s.bump a i j n).commits = s.commits := rfl
@[simp] theorem State.bump_millraces (a : Attr) (i j : Nat) (n : Int) : (s.bump a i j n).millraces = s.millraces := rfl
@[simp] theorem State.bump_txs (a : Attr) (i j : Nat) (n : Int) : (s.bump a i j n).txs = s.txs := rfl
@[simp] theorem State.bump_fecs (a : Attr) (i j : Nat) (n : Int) : (s.bump a i j n).fecs = s.fecs := rfl
@[simp] theorem State.bump_lines (a : Attr) (i j : Nat) (n : Int) : (s.bump a i j n).lines = s.lines := rfl
@[simp] theorem State.bump_groups (a : Attr) (i j : Nat) (n : Int) : (s.bump a i j n).groups = s.groups := rfl
@[simp] theorem State.bump_chans (a : Attr) (i j : Nat) (n : Int) : (s.bump a i j n).chans = s.chans := rfl
@[simp] theorem State.bump_cifs (a : Attr) (i j : Nat) (n : Int) : (s.bump a i j n).cifs = s.cifs := rfl
@[simp] theorem State.bump_mapq (a : Attr) (i j : Nat) (n : Int) : (s.bump a i j n).mapq = s.mapq := rfl
@[simp] theorem State.bump_egressq (a : Attr) (i j : Nat) (n : Int) : (s.bump a i j n).egressq = s.egressq := rfl
@[simp] theorem State.bump_lanes (a : Attr) (i j : Nat) (n : Int) : (s.bump a i j n).lanes = s.lanes := rfl
@[simp] theorem State.bump_laneTable (a : Attr) (i j : Nat) (n : Int) : (s.bump a i j n).laneTable = s.laneTable := rfl
@[simp] theorem State.bump_stamps0 (a : Attr) (i j : Nat) (n : Int) : (s.bump a i j n).stamps0 = s.stamps0 := rfl
@[simp] theorem State.bump_stamps1 (a : Attr) (i j : Nat) (n : Int) : (s.bump a i j n).stamps1 = s.stamps1 := rfl
@[simp] theorem State.bump_nextPkt (a : Attr) (i j : Nat) (n : Int) : (s.bump a i j n).nextPkt = s.nextPkt := rfl
@[simp] theorem State.bump_memory (a : Attr) (i j : Nat) (n : Int) : (s.bump a i j n).memory = s.memory := rfl
@[simp] theorem State.bump_cipher (a : Attr) (i j : Nat) (n : Int) : (s.bump a i j n).cipher = s.cipher := rfl
@[simp] theorem State.bump_timing (a : Attr) (i j : Nat) (n : Int) : (s.bump a i j n).timing = s.timing := rfl
@[simp] theorem State.bump_vault (a : Attr) (i j : Nat) (n : Int) : (s.bump a i j n).vault = s.vault := rfl
@[simp] theorem State.bump_bezel (a : Attr) (i j : Nat) (n : Int) : (s.bump a i j n).bezel = s.bezel := rfl
@[simp] theorem State.bump_hk (a : Attr) (i j : Nat) (n : Int) : (s.bump a i j n).hk = s.hk := rfl
@[simp] theorem State.bump_pins (a : Attr) (i j : Nat) (n : Int) : (s.bump a i j n).pins = s.pins := rfl
@[simp] theorem State.bump_tarnish (a : Attr) (i j : Nat) (n : Int) : (s.bump a i j n).tarnish = s.tarnish := rfl
@[simp] theorem State.bump_perf (a : Attr) (i j : Nat) (n : Int) : (s.bump a i j n).perf = s.perf := rfl
@[simp] theorem State.bump_pm (a : Attr) (i j : Nat) (n : Int) : (s.bump a i j n).pm = s.pm := rfl

/-! ### `State.count` -/

@[simp] theorem State.count_pending (a : Attr) (i j n : Nat) : (s.count a i j n).pending = s.pending := rfl
@[simp] theorem State.count_free (a : Attr) (i j n : Nat) : (s.count a i j n).free = s.free := rfl
@[simp] theorem State.count_out (a : Attr) (i j n : Nat) : (s.count a i j n).out = s.out := rfl
@[simp] theorem State.count_tick (a : Attr) (i j n : Nat) : (s.count a i j n).tick = s.tick := rfl
@[simp] theorem State.count_attrs (a : Attr) (i j n : Nat) : (s.count a i j n).attrs = s.attrs := rfl
@[simp] theorem State.count_written (a : Attr) (i j n : Nat) : (s.count a i j n).written = s.written := rfl
@[simp] theorem State.count_fresh (a : Attr) (i j n : Nat) : (s.count a i j n).fresh = s.fresh := rfl
@[simp] theorem State.count_acc (a : Attr) (i j n : Nat) : (s.count a i j n).acc = Tab.upd 0 s.acc (a.key i j) (fun v => (v + n) % 2 ^ (8 * a.row.kind.size)) := rfl
@[simp] theorem State.count_fuse (a : Attr) (i j n : Nat) : (s.count a i j n).fuse = s.fuse := rfl
@[simp] theorem State.count_power (a : Attr) (i j n : Nat) : (s.count a i j n).power = s.power := rfl
@[simp] theorem State.count_sealed (a : Attr) (i j n : Nat) : (s.count a i j n).sealed = s.sealed := rfl
@[simp] theorem State.count_nor (a : Attr) (i j n : Nat) : (s.count a i j n).nor = s.nor := rfl
@[simp] theorem State.count_boot (a : Attr) (i j n : Nat) : (s.count a i j n).boot = s.boot := rfl
@[simp] theorem State.count_clk (a : Attr) (i j n : Nat) : (s.count a i j n).clk = s.clk := rfl
@[simp] theorem State.count_bar (a : Attr) (i j n : Nat) : (s.count a i j n).bar = s.bar := rfl
@[simp] theorem State.count_pcie (a : Attr) (i j n : Nat) : (s.count a i j n).pcie = s.pcie := rfl
@[simp] theorem State.count_sessions (a : Attr) (i j n : Nat) : (s.count a i j n).sessions = s.sessions := rfl
@[simp] theorem State.count_gates (a : Attr) (i j n : Nat) : (s.count a i j n).gates = s.gates := rfl
@[simp] theorem State.count_convs (a : Attr) (i j n : Nat) : (s.count a i j n).convs = s.convs := rfl
@[simp] theorem State.count_cellRecords (a : Attr) (i j n : Nat) : (s.count a i j n).cellRecords = s.cellRecords := rfl
@[simp] theorem State.count_factoryTrims (a : Attr) (i j n : Nat) : (s.count a i j n).factoryTrims = s.factoryTrims := rfl
@[simp] theorem State.count_tables (a : Attr) (i j n : Nat) : (s.count a i j n).tables = s.tables := rfl
@[simp] theorem State.count_commits (a : Attr) (i j n : Nat) : (s.count a i j n).commits = s.commits := rfl
@[simp] theorem State.count_millraces (a : Attr) (i j n : Nat) : (s.count a i j n).millraces = s.millraces := rfl
@[simp] theorem State.count_txs (a : Attr) (i j n : Nat) : (s.count a i j n).txs = s.txs := rfl
@[simp] theorem State.count_fecs (a : Attr) (i j n : Nat) : (s.count a i j n).fecs = s.fecs := rfl
@[simp] theorem State.count_lines (a : Attr) (i j n : Nat) : (s.count a i j n).lines = s.lines := rfl
@[simp] theorem State.count_groups (a : Attr) (i j n : Nat) : (s.count a i j n).groups = s.groups := rfl
@[simp] theorem State.count_chans (a : Attr) (i j n : Nat) : (s.count a i j n).chans = s.chans := rfl
@[simp] theorem State.count_cifs (a : Attr) (i j n : Nat) : (s.count a i j n).cifs = s.cifs := rfl
@[simp] theorem State.count_mapq (a : Attr) (i j n : Nat) : (s.count a i j n).mapq = s.mapq := rfl
@[simp] theorem State.count_egressq (a : Attr) (i j n : Nat) : (s.count a i j n).egressq = s.egressq := rfl
@[simp] theorem State.count_lanes (a : Attr) (i j n : Nat) : (s.count a i j n).lanes = s.lanes := rfl
@[simp] theorem State.count_laneTable (a : Attr) (i j n : Nat) : (s.count a i j n).laneTable = s.laneTable := rfl
@[simp] theorem State.count_stamps0 (a : Attr) (i j n : Nat) : (s.count a i j n).stamps0 = s.stamps0 := rfl
@[simp] theorem State.count_stamps1 (a : Attr) (i j n : Nat) : (s.count a i j n).stamps1 = s.stamps1 := rfl
@[simp] theorem State.count_nextPkt (a : Attr) (i j n : Nat) : (s.count a i j n).nextPkt = s.nextPkt := rfl
@[simp] theorem State.count_memory (a : Attr) (i j n : Nat) : (s.count a i j n).memory = s.memory := rfl
@[simp] theorem State.count_cipher (a : Attr) (i j n : Nat) : (s.count a i j n).cipher = s.cipher := rfl
@[simp] theorem State.count_timing (a : Attr) (i j n : Nat) : (s.count a i j n).timing = s.timing := rfl
@[simp] theorem State.count_vault (a : Attr) (i j n : Nat) : (s.count a i j n).vault = s.vault := rfl
@[simp] theorem State.count_bezel (a : Attr) (i j n : Nat) : (s.count a i j n).bezel = s.bezel := rfl
@[simp] theorem State.count_hk (a : Attr) (i j n : Nat) : (s.count a i j n).hk = s.hk := rfl
@[simp] theorem State.count_pins (a : Attr) (i j n : Nat) : (s.count a i j n).pins = s.pins := rfl
@[simp] theorem State.count_tarnish (a : Attr) (i j n : Nat) : (s.count a i j n).tarnish = s.tarnish := rfl
@[simp] theorem State.count_perf (a : Attr) (i j n : Nat) : (s.count a i j n).perf = s.perf := rfl
@[simp] theorem State.count_pm (a : Attr) (i j n : Nat) : (s.count a i j n).pm = s.pm := rfl

/-! ### `State.countMax` -/

@[simp] theorem State.countMax_pending (a : Attr) (i j n : Nat) : (s.countMax a i j n).pending = s.pending := rfl
@[simp] theorem State.countMax_free (a : Attr) (i j n : Nat) : (s.countMax a i j n).free = s.free := rfl
@[simp] theorem State.countMax_out (a : Attr) (i j n : Nat) : (s.countMax a i j n).out = s.out := rfl
@[simp] theorem State.countMax_tick (a : Attr) (i j n : Nat) : (s.countMax a i j n).tick = s.tick := rfl
@[simp] theorem State.countMax_attrs (a : Attr) (i j n : Nat) : (s.countMax a i j n).attrs = s.attrs := rfl
@[simp] theorem State.countMax_written (a : Attr) (i j n : Nat) : (s.countMax a i j n).written = s.written := rfl
@[simp] theorem State.countMax_fresh (a : Attr) (i j n : Nat) : (s.countMax a i j n).fresh = s.fresh := rfl
@[simp] theorem State.countMax_acc (a : Attr) (i j n : Nat) : (s.countMax a i j n).acc = Tab.upd 0 s.acc (a.key i j) (fun v => max v n) := rfl
@[simp] theorem State.countMax_fuse (a : Attr) (i j n : Nat) : (s.countMax a i j n).fuse = s.fuse := rfl
@[simp] theorem State.countMax_power (a : Attr) (i j n : Nat) : (s.countMax a i j n).power = s.power := rfl
@[simp] theorem State.countMax_sealed (a : Attr) (i j n : Nat) : (s.countMax a i j n).sealed = s.sealed := rfl
@[simp] theorem State.countMax_nor (a : Attr) (i j n : Nat) : (s.countMax a i j n).nor = s.nor := rfl
@[simp] theorem State.countMax_boot (a : Attr) (i j n : Nat) : (s.countMax a i j n).boot = s.boot := rfl
@[simp] theorem State.countMax_clk (a : Attr) (i j n : Nat) : (s.countMax a i j n).clk = s.clk := rfl
@[simp] theorem State.countMax_bar (a : Attr) (i j n : Nat) : (s.countMax a i j n).bar = s.bar := rfl
@[simp] theorem State.countMax_pcie (a : Attr) (i j n : Nat) : (s.countMax a i j n).pcie = s.pcie := rfl
@[simp] theorem State.countMax_sessions (a : Attr) (i j n : Nat) : (s.countMax a i j n).sessions = s.sessions := rfl
@[simp] theorem State.countMax_gates (a : Attr) (i j n : Nat) : (s.countMax a i j n).gates = s.gates := rfl
@[simp] theorem State.countMax_convs (a : Attr) (i j n : Nat) : (s.countMax a i j n).convs = s.convs := rfl
@[simp] theorem State.countMax_cellRecords (a : Attr) (i j n : Nat) : (s.countMax a i j n).cellRecords = s.cellRecords := rfl
@[simp] theorem State.countMax_factoryTrims (a : Attr) (i j n : Nat) : (s.countMax a i j n).factoryTrims = s.factoryTrims := rfl
@[simp] theorem State.countMax_tables (a : Attr) (i j n : Nat) : (s.countMax a i j n).tables = s.tables := rfl
@[simp] theorem State.countMax_commits (a : Attr) (i j n : Nat) : (s.countMax a i j n).commits = s.commits := rfl
@[simp] theorem State.countMax_millraces (a : Attr) (i j n : Nat) : (s.countMax a i j n).millraces = s.millraces := rfl
@[simp] theorem State.countMax_txs (a : Attr) (i j n : Nat) : (s.countMax a i j n).txs = s.txs := rfl
@[simp] theorem State.countMax_fecs (a : Attr) (i j n : Nat) : (s.countMax a i j n).fecs = s.fecs := rfl
@[simp] theorem State.countMax_lines (a : Attr) (i j n : Nat) : (s.countMax a i j n).lines = s.lines := rfl
@[simp] theorem State.countMax_groups (a : Attr) (i j n : Nat) : (s.countMax a i j n).groups = s.groups := rfl
@[simp] theorem State.countMax_chans (a : Attr) (i j n : Nat) : (s.countMax a i j n).chans = s.chans := rfl
@[simp] theorem State.countMax_cifs (a : Attr) (i j n : Nat) : (s.countMax a i j n).cifs = s.cifs := rfl
@[simp] theorem State.countMax_mapq (a : Attr) (i j n : Nat) : (s.countMax a i j n).mapq = s.mapq := rfl
@[simp] theorem State.countMax_egressq (a : Attr) (i j n : Nat) : (s.countMax a i j n).egressq = s.egressq := rfl
@[simp] theorem State.countMax_lanes (a : Attr) (i j n : Nat) : (s.countMax a i j n).lanes = s.lanes := rfl
@[simp] theorem State.countMax_laneTable (a : Attr) (i j n : Nat) : (s.countMax a i j n).laneTable = s.laneTable := rfl
@[simp] theorem State.countMax_stamps0 (a : Attr) (i j n : Nat) : (s.countMax a i j n).stamps0 = s.stamps0 := rfl
@[simp] theorem State.countMax_stamps1 (a : Attr) (i j n : Nat) : (s.countMax a i j n).stamps1 = s.stamps1 := rfl
@[simp] theorem State.countMax_nextPkt (a : Attr) (i j n : Nat) : (s.countMax a i j n).nextPkt = s.nextPkt := rfl
@[simp] theorem State.countMax_memory (a : Attr) (i j n : Nat) : (s.countMax a i j n).memory = s.memory := rfl
@[simp] theorem State.countMax_cipher (a : Attr) (i j n : Nat) : (s.countMax a i j n).cipher = s.cipher := rfl
@[simp] theorem State.countMax_timing (a : Attr) (i j n : Nat) : (s.countMax a i j n).timing = s.timing := rfl
@[simp] theorem State.countMax_vault (a : Attr) (i j n : Nat) : (s.countMax a i j n).vault = s.vault := rfl
@[simp] theorem State.countMax_bezel (a : Attr) (i j n : Nat) : (s.countMax a i j n).bezel = s.bezel := rfl
@[simp] theorem State.countMax_hk (a : Attr) (i j n : Nat) : (s.countMax a i j n).hk = s.hk := rfl
@[simp] theorem State.countMax_pins (a : Attr) (i j n : Nat) : (s.countMax a i j n).pins = s.pins := rfl
@[simp] theorem State.countMax_tarnish (a : Attr) (i j n : Nat) : (s.countMax a i j n).tarnish = s.tarnish := rfl
@[simp] theorem State.countMax_perf (a : Attr) (i j n : Nat) : (s.countMax a i j n).perf = s.perf := rfl
@[simp] theorem State.countMax_pm (a : Attr) (i j n : Nat) : (s.countMax a i j n).pm = s.pm := rfl

/-! ### `State.setWritten` -/

@[simp] theorem State.setWritten_pending (a : Attr) (i j : Nat) (v : Int) : (s.setWritten a i j v).pending = s.pending := rfl
@[simp] theorem State.setWritten_free (a : Attr) (i j : Nat) (v : Int) : (s.setWritten a i j v).free = s.free := rfl
@[simp] theorem State.setWritten_out (a : Attr) (i j : Nat) (v : Int) : (s.setWritten a i j v).out = s.out := rfl
@[simp] theorem State.setWritten_tick (a : Attr) (i j : Nat) (v : Int) : (s.setWritten a i j v).tick = s.tick := rfl
@[simp] theorem State.setWritten_attrs (a : Attr) (i j : Nat) (v : Int) : (s.setWritten a i j v).attrs = s.attrs := rfl
@[simp] theorem State.setWritten_written (a : Attr) (i j : Nat) (v : Int) : (s.setWritten a i j v).written = Tab.ins s.written (a.key i j) v := rfl
@[simp] theorem State.setWritten_fresh (a : Attr) (i j : Nat) (v : Int) : (s.setWritten a i j v).fresh = nsIns s.fresh (a.key i j) := rfl
@[simp] theorem State.setWritten_acc (a : Attr) (i j : Nat) (v : Int) : (s.setWritten a i j v).acc = s.acc := rfl
@[simp] theorem State.setWritten_fuse (a : Attr) (i j : Nat) (v : Int) : (s.setWritten a i j v).fuse = s.fuse := rfl
@[simp] theorem State.setWritten_power (a : Attr) (i j : Nat) (v : Int) : (s.setWritten a i j v).power = s.power := rfl
@[simp] theorem State.setWritten_sealed (a : Attr) (i j : Nat) (v : Int) : (s.setWritten a i j v).sealed = s.sealed := rfl
@[simp] theorem State.setWritten_nor (a : Attr) (i j : Nat) (v : Int) : (s.setWritten a i j v).nor = s.nor := rfl
@[simp] theorem State.setWritten_boot (a : Attr) (i j : Nat) (v : Int) : (s.setWritten a i j v).boot = s.boot := rfl
@[simp] theorem State.setWritten_clk (a : Attr) (i j : Nat) (v : Int) : (s.setWritten a i j v).clk = s.clk := rfl
@[simp] theorem State.setWritten_bar (a : Attr) (i j : Nat) (v : Int) : (s.setWritten a i j v).bar = s.bar := rfl
@[simp] theorem State.setWritten_pcie (a : Attr) (i j : Nat) (v : Int) : (s.setWritten a i j v).pcie = s.pcie := rfl
@[simp] theorem State.setWritten_sessions (a : Attr) (i j : Nat) (v : Int) : (s.setWritten a i j v).sessions = s.sessions := rfl
@[simp] theorem State.setWritten_gates (a : Attr) (i j : Nat) (v : Int) : (s.setWritten a i j v).gates = s.gates := rfl
@[simp] theorem State.setWritten_convs (a : Attr) (i j : Nat) (v : Int) : (s.setWritten a i j v).convs = s.convs := rfl
@[simp] theorem State.setWritten_cellRecords (a : Attr) (i j : Nat) (v : Int) : (s.setWritten a i j v).cellRecords = s.cellRecords := rfl
@[simp] theorem State.setWritten_factoryTrims (a : Attr) (i j : Nat) (v : Int) : (s.setWritten a i j v).factoryTrims = s.factoryTrims := rfl
@[simp] theorem State.setWritten_tables (a : Attr) (i j : Nat) (v : Int) : (s.setWritten a i j v).tables = s.tables := rfl
@[simp] theorem State.setWritten_commits (a : Attr) (i j : Nat) (v : Int) : (s.setWritten a i j v).commits = s.commits := rfl
@[simp] theorem State.setWritten_millraces (a : Attr) (i j : Nat) (v : Int) : (s.setWritten a i j v).millraces = s.millraces := rfl
@[simp] theorem State.setWritten_txs (a : Attr) (i j : Nat) (v : Int) : (s.setWritten a i j v).txs = s.txs := rfl
@[simp] theorem State.setWritten_fecs (a : Attr) (i j : Nat) (v : Int) : (s.setWritten a i j v).fecs = s.fecs := rfl
@[simp] theorem State.setWritten_lines (a : Attr) (i j : Nat) (v : Int) : (s.setWritten a i j v).lines = s.lines := rfl
@[simp] theorem State.setWritten_groups (a : Attr) (i j : Nat) (v : Int) : (s.setWritten a i j v).groups = s.groups := rfl
@[simp] theorem State.setWritten_chans (a : Attr) (i j : Nat) (v : Int) : (s.setWritten a i j v).chans = s.chans := rfl
@[simp] theorem State.setWritten_cifs (a : Attr) (i j : Nat) (v : Int) : (s.setWritten a i j v).cifs = s.cifs := rfl
@[simp] theorem State.setWritten_mapq (a : Attr) (i j : Nat) (v : Int) : (s.setWritten a i j v).mapq = s.mapq := rfl
@[simp] theorem State.setWritten_egressq (a : Attr) (i j : Nat) (v : Int) : (s.setWritten a i j v).egressq = s.egressq := rfl
@[simp] theorem State.setWritten_lanes (a : Attr) (i j : Nat) (v : Int) : (s.setWritten a i j v).lanes = s.lanes := rfl
@[simp] theorem State.setWritten_laneTable (a : Attr) (i j : Nat) (v : Int) : (s.setWritten a i j v).laneTable = s.laneTable := rfl
@[simp] theorem State.setWritten_stamps0 (a : Attr) (i j : Nat) (v : Int) : (s.setWritten a i j v).stamps0 = s.stamps0 := rfl
@[simp] theorem State.setWritten_stamps1 (a : Attr) (i j : Nat) (v : Int) : (s.setWritten a i j v).stamps1 = s.stamps1 := rfl
@[simp] theorem State.setWritten_nextPkt (a : Attr) (i j : Nat) (v : Int) : (s.setWritten a i j v).nextPkt = s.nextPkt := rfl
@[simp] theorem State.setWritten_memory (a : Attr) (i j : Nat) (v : Int) : (s.setWritten a i j v).memory = s.memory := rfl
@[simp] theorem State.setWritten_cipher (a : Attr) (i j : Nat) (v : Int) : (s.setWritten a i j v).cipher = s.cipher := rfl
@[simp] theorem State.setWritten_timing (a : Attr) (i j : Nat) (v : Int) : (s.setWritten a i j v).timing = s.timing := rfl
@[simp] theorem State.setWritten_vault (a : Attr) (i j : Nat) (v : Int) : (s.setWritten a i j v).vault = s.vault := rfl
@[simp] theorem State.setWritten_bezel (a : Attr) (i j : Nat) (v : Int) : (s.setWritten a i j v).bezel = s.bezel := rfl
@[simp] theorem State.setWritten_hk (a : Attr) (i j : Nat) (v : Int) : (s.setWritten a i j v).hk = s.hk := rfl
@[simp] theorem State.setWritten_pins (a : Attr) (i j : Nat) (v : Int) : (s.setWritten a i j v).pins = s.pins := rfl
@[simp] theorem State.setWritten_tarnish (a : Attr) (i j : Nat) (v : Int) : (s.setWritten a i j v).tarnish = s.tarnish := rfl
@[simp] theorem State.setWritten_perf (a : Attr) (i j : Nat) (v : Int) : (s.setWritten a i j v).perf = s.perf := rfl
@[simp] theorem State.setWritten_pm (a : Attr) (i j : Nat) (v : Int) : (s.setWritten a i j v).pm = s.pm := rfl

/-! ### `State.setSess` -/

@[simp] theorem State.setSess_pending (i : Nat) (x : Session) : (s.setSess i x).pending = s.pending := rfl
@[simp] theorem State.setSess_free (i : Nat) (x : Session) : (s.setSess i x).free = s.free := rfl
@[simp] theorem State.setSess_out (i : Nat) (x : Session) : (s.setSess i x).out = s.out := rfl
@[simp] theorem State.setSess_tick (i : Nat) (x : Session) : (s.setSess i x).tick = s.tick := rfl
@[simp] theorem State.setSess_attrs (i : Nat) (x : Session) : (s.setSess i x).attrs = s.attrs := rfl
@[simp] theorem State.setSess_written (i : Nat) (x : Session) : (s.setSess i x).written = s.written := rfl
@[simp] theorem State.setSess_fresh (i : Nat) (x : Session) : (s.setSess i x).fresh = s.fresh := rfl
@[simp] theorem State.setSess_acc (i : Nat) (x : Session) : (s.setSess i x).acc = s.acc := rfl
@[simp] theorem State.setSess_fuse (i : Nat) (x : Session) : (s.setSess i x).fuse = s.fuse := rfl
@[simp] theorem State.setSess_power (i : Nat) (x : Session) : (s.setSess i x).power = s.power := rfl
@[simp] theorem State.setSess_sealed (i : Nat) (x : Session) : (s.setSess i x).sealed = s.sealed := rfl
@[simp] theorem State.setSess_nor (i : Nat) (x : Session) : (s.setSess i x).nor = s.nor := rfl
@[simp] theorem State.setSess_boot (i : Nat) (x : Session) : (s.setSess i x).boot = s.boot := rfl
@[simp] theorem State.setSess_clk (i : Nat) (x : Session) : (s.setSess i x).clk = s.clk := rfl
@[simp] theorem State.setSess_bar (i : Nat) (x : Session) : (s.setSess i x).bar = s.bar := rfl
@[simp] theorem State.setSess_pcie (i : Nat) (x : Session) : (s.setSess i x).pcie = s.pcie := rfl
@[simp] theorem State.setSess_sessions (i : Nat) (x : Session) : (s.setSess i x).sessions = Tab.put {} s.sessions i x := rfl
@[simp] theorem State.setSess_gates (i : Nat) (x : Session) : (s.setSess i x).gates = s.gates := rfl
@[simp] theorem State.setSess_convs (i : Nat) (x : Session) : (s.setSess i x).convs = s.convs := rfl
@[simp] theorem State.setSess_cellRecords (i : Nat) (x : Session) : (s.setSess i x).cellRecords = s.cellRecords := rfl
@[simp] theorem State.setSess_factoryTrims (i : Nat) (x : Session) : (s.setSess i x).factoryTrims = s.factoryTrims := rfl
@[simp] theorem State.setSess_tables (i : Nat) (x : Session) : (s.setSess i x).tables = s.tables := rfl
@[simp] theorem State.setSess_commits (i : Nat) (x : Session) : (s.setSess i x).commits = s.commits := rfl
@[simp] theorem State.setSess_millraces (i : Nat) (x : Session) : (s.setSess i x).millraces = s.millraces := rfl
@[simp] theorem State.setSess_txs (i : Nat) (x : Session) : (s.setSess i x).txs = s.txs := rfl
@[simp] theorem State.setSess_fecs (i : Nat) (x : Session) : (s.setSess i x).fecs = s.fecs := rfl
@[simp] theorem State.setSess_lines (i : Nat) (x : Session) : (s.setSess i x).lines = s.lines := rfl
@[simp] theorem State.setSess_groups (i : Nat) (x : Session) : (s.setSess i x).groups = s.groups := rfl
@[simp] theorem State.setSess_chans (i : Nat) (x : Session) : (s.setSess i x).chans = s.chans := rfl
@[simp] theorem State.setSess_cifs (i : Nat) (x : Session) : (s.setSess i x).cifs = s.cifs := rfl
@[simp] theorem State.setSess_mapq (i : Nat) (x : Session) : (s.setSess i x).mapq = s.mapq := rfl
@[simp] theorem State.setSess_egressq (i : Nat) (x : Session) : (s.setSess i x).egressq = s.egressq := rfl
@[simp] theorem State.setSess_lanes (i : Nat) (x : Session) : (s.setSess i x).lanes = s.lanes := rfl
@[simp] theorem State.setSess_laneTable (i : Nat) (x : Session) : (s.setSess i x).laneTable = s.laneTable := rfl
@[simp] theorem State.setSess_stamps0 (i : Nat) (x : Session) : (s.setSess i x).stamps0 = s.stamps0 := rfl
@[simp] theorem State.setSess_stamps1 (i : Nat) (x : Session) : (s.setSess i x).stamps1 = s.stamps1 := rfl
@[simp] theorem State.setSess_nextPkt (i : Nat) (x : Session) : (s.setSess i x).nextPkt = s.nextPkt := rfl
@[simp] theorem State.setSess_memory (i : Nat) (x : Session) : (s.setSess i x).memory = s.memory := rfl
@[simp] theorem State.setSess_cipher (i : Nat) (x : Session) : (s.setSess i x).cipher = s.cipher := rfl
@[simp] theorem State.setSess_timing (i : Nat) (x : Session) : (s.setSess i x).timing = s.timing := rfl
@[simp] theorem State.setSess_vault (i : Nat) (x : Session) : (s.setSess i x).vault = s.vault := rfl
@[simp] theorem State.setSess_bezel (i : Nat) (x : Session) : (s.setSess i x).bezel = s.bezel := rfl
@[simp] theorem State.setSess_hk (i : Nat) (x : Session) : (s.setSess i x).hk = s.hk := rfl
@[simp] theorem State.setSess_pins (i : Nat) (x : Session) : (s.setSess i x).pins = s.pins := rfl
@[simp] theorem State.setSess_tarnish (i : Nat) (x : Session) : (s.setSess i x).tarnish = s.tarnish := rfl
@[simp] theorem State.setSess_perf (i : Nat) (x : Session) : (s.setSess i x).perf = s.perf := rfl
@[simp] theorem State.setSess_pm (i : Nat) (x : Session) : (s.setSess i x).pm = s.pm := rfl

/-! ### `State.occurs` -/

@[simp] theorem State.occurs_pending (event place n : Nat) : (s.occurs event place n).pending = s.pending := rfl
@[simp] theorem State.occurs_free (event place n : Nat) : (s.occurs event place n).free = s.free := rfl
@[simp] theorem State.occurs_out (event place n : Nat) : (s.occurs event place n).out = s.out := rfl
@[simp] theorem State.occurs_tick (event place n : Nat) : (s.occurs event place n).tick = s.tick := rfl
@[simp] theorem State.occurs_attrs (event place n : Nat) : (s.occurs event place n).attrs = s.attrs := rfl
@[simp] theorem State.occurs_written (event place n : Nat) : (s.occurs event place n).written = s.written := rfl
@[simp] theorem State.occurs_fresh (event place n : Nat) : (s.occurs event place n).fresh = s.fresh := rfl
@[simp] theorem State.occurs_acc (event place n : Nat) : (s.occurs event place n).acc = s.acc := rfl
@[simp] theorem State.occurs_fuse (event place n : Nat) : (s.occurs event place n).fuse = s.fuse := rfl
@[simp] theorem State.occurs_power (event place n : Nat) : (s.occurs event place n).power = s.power := rfl
@[simp] theorem State.occurs_sealed (event place n : Nat) : (s.occurs event place n).sealed = s.sealed := rfl
@[simp] theorem State.occurs_nor (event place n : Nat) : (s.occurs event place n).nor = s.nor := rfl
@[simp] theorem State.occurs_boot (event place n : Nat) : (s.occurs event place n).boot = s.boot := rfl
@[simp] theorem State.occurs_clk (event place n : Nat) : (s.occurs event place n).clk = s.clk := rfl
@[simp] theorem State.occurs_bar (event place n : Nat) : (s.occurs event place n).bar = s.bar := rfl
@[simp] theorem State.occurs_pcie (event place n : Nat) : (s.occurs event place n).pcie = s.pcie := rfl
@[simp] theorem State.occurs_sessions (event place n : Nat) : (s.occurs event place n).sessions = s.sessions := rfl
@[simp] theorem State.occurs_gates (event place n : Nat) : (s.occurs event place n).gates = s.gates := rfl
@[simp] theorem State.occurs_convs (event place n : Nat) : (s.occurs event place n).convs = s.convs := rfl
@[simp] theorem State.occurs_cellRecords (event place n : Nat) : (s.occurs event place n).cellRecords = s.cellRecords := rfl
@[simp] theorem State.occurs_factoryTrims (event place n : Nat) : (s.occurs event place n).factoryTrims = s.factoryTrims := rfl
@[simp] theorem State.occurs_tables (event place n : Nat) : (s.occurs event place n).tables = s.tables := rfl
@[simp] theorem State.occurs_commits (event place n : Nat) : (s.occurs event place n).commits = s.commits := rfl
@[simp] theorem State.occurs_millraces (event place n : Nat) : (s.occurs event place n).millraces = s.millraces := rfl
@[simp] theorem State.occurs_txs (event place n : Nat) : (s.occurs event place n).txs = s.txs := rfl
@[simp] theorem State.occurs_fecs (event place n : Nat) : (s.occurs event place n).fecs = s.fecs := rfl
@[simp] theorem State.occurs_lines (event place n : Nat) : (s.occurs event place n).lines = s.lines := rfl
@[simp] theorem State.occurs_groups (event place n : Nat) : (s.occurs event place n).groups = s.groups := rfl
@[simp] theorem State.occurs_chans (event place n : Nat) : (s.occurs event place n).chans = s.chans := rfl
@[simp] theorem State.occurs_cifs (event place n : Nat) : (s.occurs event place n).cifs = s.cifs := rfl
@[simp] theorem State.occurs_mapq (event place n : Nat) : (s.occurs event place n).mapq = s.mapq := rfl
@[simp] theorem State.occurs_egressq (event place n : Nat) : (s.occurs event place n).egressq = s.egressq := rfl
@[simp] theorem State.occurs_lanes (event place n : Nat) : (s.occurs event place n).lanes = s.lanes := rfl
@[simp] theorem State.occurs_laneTable (event place n : Nat) : (s.occurs event place n).laneTable = s.laneTable := rfl
@[simp] theorem State.occurs_stamps0 (event place n : Nat) : (s.occurs event place n).stamps0 = s.stamps0 := rfl
@[simp] theorem State.occurs_stamps1 (event place n : Nat) : (s.occurs event place n).stamps1 = s.stamps1 := rfl
@[simp] theorem State.occurs_nextPkt (event place n : Nat) : (s.occurs event place n).nextPkt = s.nextPkt := rfl
@[simp] theorem State.occurs_memory (event place n : Nat) : (s.occurs event place n).memory = s.memory := rfl
@[simp] theorem State.occurs_cipher (event place n : Nat) : (s.occurs event place n).cipher = s.cipher := rfl
@[simp] theorem State.occurs_timing (event place n : Nat) : (s.occurs event place n).timing = s.timing := rfl
@[simp] theorem State.occurs_vault (event place n : Nat) : (s.occurs event place n).vault = s.vault := rfl
@[simp] theorem State.occurs_bezel (event place n : Nat) : (s.occurs event place n).bezel = s.bezel := rfl
@[simp] theorem State.occurs_hk (event place n : Nat) : (s.occurs event place n).hk = s.hk := rfl
@[simp] theorem State.occurs_pins (event place n : Nat) : (s.occurs event place n).pins = s.pins := rfl
@[simp] theorem State.occurs_tarnish (event place n : Nat) : (s.occurs event place n).tarnish = s.tarnish := rfl
@[simp] theorem State.occurs_pm (event place n : Nat) : (s.occurs event place n).pm = s.pm := rfl

/-! ### `State.emit` -/

@[simp] theorem State.emit_pending (o : Out) : (s.emit o).pending = s.pending := rfl
@[simp] theorem State.emit_free (o : Out) : (s.emit o).free = s.free := rfl
@[simp] theorem State.emit_out (o : Out) : (s.emit o).out = s.out ++ [o] := rfl
@[simp] theorem State.emit_tick (o : Out) : (s.emit o).tick = s.tick := rfl
@[simp] theorem State.emit_attrs (o : Out) : (s.emit o).attrs = s.attrs := rfl
@[simp] theorem State.emit_written (o : Out) : (s.emit o).written = s.written := rfl
@[simp] theorem State.emit_fresh (o : Out) : (s.emit o).fresh = s.fresh := rfl
@[simp] theorem State.emit_acc (o : Out) : (s.emit o).acc = s.acc := rfl
@[simp] theorem State.emit_fuse (o : Out) : (s.emit o).fuse = s.fuse := rfl
@[simp] theorem State.emit_power (o : Out) : (s.emit o).power = s.power := rfl
@[simp] theorem State.emit_sealed (o : Out) : (s.emit o).sealed = s.sealed := rfl
@[simp] theorem State.emit_nor (o : Out) : (s.emit o).nor = s.nor := rfl
@[simp] theorem State.emit_boot (o : Out) : (s.emit o).boot = s.boot := rfl
@[simp] theorem State.emit_clk (o : Out) : (s.emit o).clk = s.clk := rfl
@[simp] theorem State.emit_bar (o : Out) : (s.emit o).bar = s.bar := rfl
@[simp] theorem State.emit_pcie (o : Out) : (s.emit o).pcie = s.pcie := rfl
@[simp] theorem State.emit_sessions (o : Out) : (s.emit o).sessions = s.sessions := rfl
@[simp] theorem State.emit_gates (o : Out) : (s.emit o).gates = s.gates := rfl
@[simp] theorem State.emit_convs (o : Out) : (s.emit o).convs = s.convs := rfl
@[simp] theorem State.emit_cellRecords (o : Out) : (s.emit o).cellRecords = s.cellRecords := rfl
@[simp] theorem State.emit_factoryTrims (o : Out) : (s.emit o).factoryTrims = s.factoryTrims := rfl
@[simp] theorem State.emit_tables (o : Out) : (s.emit o).tables = s.tables := rfl
@[simp] theorem State.emit_commits (o : Out) : (s.emit o).commits = s.commits := rfl
@[simp] theorem State.emit_millraces (o : Out) : (s.emit o).millraces = s.millraces := rfl
@[simp] theorem State.emit_txs (o : Out) : (s.emit o).txs = s.txs := rfl
@[simp] theorem State.emit_fecs (o : Out) : (s.emit o).fecs = s.fecs := rfl
@[simp] theorem State.emit_lines (o : Out) : (s.emit o).lines = s.lines := rfl
@[simp] theorem State.emit_groups (o : Out) : (s.emit o).groups = s.groups := rfl
@[simp] theorem State.emit_chans (o : Out) : (s.emit o).chans = s.chans := rfl
@[simp] theorem State.emit_cifs (o : Out) : (s.emit o).cifs = s.cifs := rfl
@[simp] theorem State.emit_mapq (o : Out) : (s.emit o).mapq = s.mapq := rfl
@[simp] theorem State.emit_egressq (o : Out) : (s.emit o).egressq = s.egressq := rfl
@[simp] theorem State.emit_lanes (o : Out) : (s.emit o).lanes = s.lanes := rfl
@[simp] theorem State.emit_laneTable (o : Out) : (s.emit o).laneTable = s.laneTable := rfl
@[simp] theorem State.emit_stamps0 (o : Out) : (s.emit o).stamps0 = s.stamps0 := rfl
@[simp] theorem State.emit_stamps1 (o : Out) : (s.emit o).stamps1 = s.stamps1 := rfl
@[simp] theorem State.emit_nextPkt (o : Out) : (s.emit o).nextPkt = s.nextPkt := rfl
@[simp] theorem State.emit_memory (o : Out) : (s.emit o).memory = s.memory := rfl
@[simp] theorem State.emit_cipher (o : Out) : (s.emit o).cipher = s.cipher := rfl
@[simp] theorem State.emit_timing (o : Out) : (s.emit o).timing = s.timing := rfl
@[simp] theorem State.emit_vault (o : Out) : (s.emit o).vault = s.vault := rfl
@[simp] theorem State.emit_bezel (o : Out) : (s.emit o).bezel = s.bezel := rfl
@[simp] theorem State.emit_hk (o : Out) : (s.emit o).hk = s.hk := rfl
@[simp] theorem State.emit_pins (o : Out) : (s.emit o).pins = s.pins := rfl
@[simp] theorem State.emit_tarnish (o : Out) : (s.emit o).tarnish = s.tarnish := rfl
@[simp] theorem State.emit_perf (o : Out) : (s.emit o).perf = s.perf := rfl
@[simp] theorem State.emit_pm (o : Out) : (s.emit o).pm = s.pm := rfl

/-! ### `State.draw` -/

@[simp] theorem State.draw_pending  : (s.draw.2).pending = s.pending := rfl
@[simp] theorem State.draw_free  : (s.draw.2).free = s.free + 1 := rfl
@[simp] theorem State.draw_out  : (s.draw.2).out = s.out := rfl
@[simp] theorem State.draw_tick  : (s.draw.2).tick = s.tick := rfl
@[simp] theorem State.draw_attrs  : (s.draw.2).attrs = s.attrs := rfl
@[simp] theorem State.draw_written  : (s.draw.2).written = s.written := rfl
@[simp] theorem State.draw_fresh  : (s.draw.2).fresh = s.fresh := rfl
@[simp] theorem State.draw_acc  : (s.draw.2).acc = s.acc := rfl
@[simp] theorem State.draw_fuse  : (s.draw.2).fuse = s.fuse := rfl
@[simp] theorem State.draw_power  : (s.draw.2).power = s.power := rfl
@[simp] theorem State.draw_sealed  : (s.draw.2).sealed = s.sealed := rfl
@[simp] theorem State.draw_nor  : (s.draw.2).nor = s.nor := rfl
@[simp] theorem State.draw_boot  : (s.draw.2).boot = s.boot := rfl
@[simp] theorem State.draw_clk  : (s.draw.2).clk = s.clk := rfl
@[simp] theorem State.draw_bar  : (s.draw.2).bar = s.bar := rfl
@[simp] theorem State.draw_pcie  : (s.draw.2).pcie = s.pcie := rfl
@[simp] theorem State.draw_sessions  : (s.draw.2).sessions = s.sessions := rfl
@[simp] theorem State.draw_gates  : (s.draw.2).gates = s.gates := rfl
@[simp] theorem State.draw_convs  : (s.draw.2).convs = s.convs := rfl
@[simp] theorem State.draw_cellRecords  : (s.draw.2).cellRecords = s.cellRecords := rfl
@[simp] theorem State.draw_factoryTrims  : (s.draw.2).factoryTrims = s.factoryTrims := rfl
@[simp] theorem State.draw_tables  : (s.draw.2).tables = s.tables := rfl
@[simp] theorem State.draw_commits  : (s.draw.2).commits = s.commits := rfl
@[simp] theorem State.draw_millraces  : (s.draw.2).millraces = s.millraces := rfl
@[simp] theorem State.draw_txs  : (s.draw.2).txs = s.txs := rfl
@[simp] theorem State.draw_fecs  : (s.draw.2).fecs = s.fecs := rfl
@[simp] theorem State.draw_lines  : (s.draw.2).lines = s.lines := rfl
@[simp] theorem State.draw_groups  : (s.draw.2).groups = s.groups := rfl
@[simp] theorem State.draw_chans  : (s.draw.2).chans = s.chans := rfl
@[simp] theorem State.draw_cifs  : (s.draw.2).cifs = s.cifs := rfl
@[simp] theorem State.draw_mapq  : (s.draw.2).mapq = s.mapq := rfl
@[simp] theorem State.draw_egressq  : (s.draw.2).egressq = s.egressq := rfl
@[simp] theorem State.draw_lanes  : (s.draw.2).lanes = s.lanes := rfl
@[simp] theorem State.draw_laneTable  : (s.draw.2).laneTable = s.laneTable := rfl
@[simp] theorem State.draw_stamps0  : (s.draw.2).stamps0 = s.stamps0 := rfl
@[simp] theorem State.draw_stamps1  : (s.draw.2).stamps1 = s.stamps1 := rfl
@[simp] theorem State.draw_nextPkt  : (s.draw.2).nextPkt = s.nextPkt := rfl
@[simp] theorem State.draw_memory  : (s.draw.2).memory = s.memory := rfl
@[simp] theorem State.draw_cipher  : (s.draw.2).cipher = s.cipher := rfl
@[simp] theorem State.draw_timing  : (s.draw.2).timing = s.timing := rfl
@[simp] theorem State.draw_vault  : (s.draw.2).vault = s.vault := rfl
@[simp] theorem State.draw_bezel  : (s.draw.2).bezel = s.bezel := rfl
@[simp] theorem State.draw_hk  : (s.draw.2).hk = s.hk := rfl
@[simp] theorem State.draw_pins  : (s.draw.2).pins = s.pins := rfl
@[simp] theorem State.draw_tarnish  : (s.draw.2).tarnish = s.tarnish := rfl
@[simp] theorem State.draw_perf  : (s.draw.2).perf = s.perf := rfl
@[simp] theorem State.draw_pm  : (s.draw.2).pm = s.pm := rfl

/-! ### `State.setDom` -/

@[simp] theorem State.setDom_pending (d : Nat) (x : Domain) : (s.setDom d x).pending = s.pending := rfl
@[simp] theorem State.setDom_free (d : Nat) (x : Domain) : (s.setDom d x).free = s.free := rfl
@[simp] theorem State.setDom_out (d : Nat) (x : Domain) : (s.setDom d x).out = s.out := rfl
@[simp] theorem State.setDom_tick (d : Nat) (x : Domain) : (s.setDom d x).tick = s.tick := rfl
@[simp] theorem State.setDom_attrs (d : Nat) (x : Domain) : (s.setDom d x).attrs = s.attrs := rfl
@[simp] theorem State.setDom_written (d : Nat) (x : Domain) : (s.setDom d x).written = s.written := rfl
@[simp] theorem State.setDom_fresh (d : Nat) (x : Domain) : (s.setDom d x).fresh = s.fresh := rfl
@[simp] theorem State.setDom_acc (d : Nat) (x : Domain) : (s.setDom d x).acc = s.acc := rfl
@[simp] theorem State.setDom_fuse (d : Nat) (x : Domain) : (s.setDom d x).fuse = s.fuse := rfl
@[simp] theorem State.setDom_power (d : Nat) (x : Domain) : (s.setDom d x).power = s.power := rfl
@[simp] theorem State.setDom_sealed (d : Nat) (x : Domain) : (s.setDom d x).sealed = s.sealed := rfl
@[simp] theorem State.setDom_nor (d : Nat) (x : Domain) : (s.setDom d x).nor = s.nor := rfl
@[simp] theorem State.setDom_boot (d : Nat) (x : Domain) : (s.setDom d x).boot = s.boot := rfl
@[simp] theorem State.setDom_bar (d : Nat) (x : Domain) : (s.setDom d x).bar = s.bar := rfl
@[simp] theorem State.setDom_pcie (d : Nat) (x : Domain) : (s.setDom d x).pcie = s.pcie := rfl
@[simp] theorem State.setDom_sessions (d : Nat) (x : Domain) : (s.setDom d x).sessions = s.sessions := rfl
@[simp] theorem State.setDom_gates (d : Nat) (x : Domain) : (s.setDom d x).gates = s.gates := rfl
@[simp] theorem State.setDom_convs (d : Nat) (x : Domain) : (s.setDom d x).convs = s.convs := rfl
@[simp] theorem State.setDom_cellRecords (d : Nat) (x : Domain) : (s.setDom d x).cellRecords = s.cellRecords := rfl
@[simp] theorem State.setDom_factoryTrims (d : Nat) (x : Domain) : (s.setDom d x).factoryTrims = s.factoryTrims := rfl
@[simp] theorem State.setDom_tables (d : Nat) (x : Domain) : (s.setDom d x).tables = s.tables := rfl
@[simp] theorem State.setDom_commits (d : Nat) (x : Domain) : (s.setDom d x).commits = s.commits := rfl
@[simp] theorem State.setDom_millraces (d : Nat) (x : Domain) : (s.setDom d x).millraces = s.millraces := rfl
@[simp] theorem State.setDom_txs (d : Nat) (x : Domain) : (s.setDom d x).txs = s.txs := rfl
@[simp] theorem State.setDom_fecs (d : Nat) (x : Domain) : (s.setDom d x).fecs = s.fecs := rfl
@[simp] theorem State.setDom_lines (d : Nat) (x : Domain) : (s.setDom d x).lines = s.lines := rfl
@[simp] theorem State.setDom_groups (d : Nat) (x : Domain) : (s.setDom d x).groups = s.groups := rfl
@[simp] theorem State.setDom_chans (d : Nat) (x : Domain) : (s.setDom d x).chans = s.chans := rfl
@[simp] theorem State.setDom_cifs (d : Nat) (x : Domain) : (s.setDom d x).cifs = s.cifs := rfl
@[simp] theorem State.setDom_mapq (d : Nat) (x : Domain) : (s.setDom d x).mapq = s.mapq := rfl
@[simp] theorem State.setDom_egressq (d : Nat) (x : Domain) : (s.setDom d x).egressq = s.egressq := rfl
@[simp] theorem State.setDom_lanes (d : Nat) (x : Domain) : (s.setDom d x).lanes = s.lanes := rfl
@[simp] theorem State.setDom_laneTable (d : Nat) (x : Domain) : (s.setDom d x).laneTable = s.laneTable := rfl
@[simp] theorem State.setDom_stamps0 (d : Nat) (x : Domain) : (s.setDom d x).stamps0 = s.stamps0 := rfl
@[simp] theorem State.setDom_stamps1 (d : Nat) (x : Domain) : (s.setDom d x).stamps1 = s.stamps1 := rfl
@[simp] theorem State.setDom_nextPkt (d : Nat) (x : Domain) : (s.setDom d x).nextPkt = s.nextPkt := rfl
@[simp] theorem State.setDom_memory (d : Nat) (x : Domain) : (s.setDom d x).memory = s.memory := rfl
@[simp] theorem State.setDom_cipher (d : Nat) (x : Domain) : (s.setDom d x).cipher = s.cipher := rfl
@[simp] theorem State.setDom_timing (d : Nat) (x : Domain) : (s.setDom d x).timing = s.timing := rfl
@[simp] theorem State.setDom_vault (d : Nat) (x : Domain) : (s.setDom d x).vault = s.vault := rfl
@[simp] theorem State.setDom_bezel (d : Nat) (x : Domain) : (s.setDom d x).bezel = s.bezel := rfl
@[simp] theorem State.setDom_hk (d : Nat) (x : Domain) : (s.setDom d x).hk = s.hk := rfl
@[simp] theorem State.setDom_pins (d : Nat) (x : Domain) : (s.setDom d x).pins = s.pins := rfl
@[simp] theorem State.setDom_tarnish (d : Nat) (x : Domain) : (s.setDom d x).tarnish = s.tarnish := rfl
@[simp] theorem State.setDom_perf (d : Nat) (x : Domain) : (s.setDom d x).perf = s.perf := rfl
@[simp] theorem State.setDom_pm (d : Nat) (x : Domain) : (s.setDom d x).pm = s.pm := rfl

/-! ### `State.setConv` -/

@[simp] theorem State.setConv_pending (p : Nat) (x : Conv) : (s.setConv p x).pending = s.pending := rfl
@[simp] theorem State.setConv_free (p : Nat) (x : Conv) : (s.setConv p x).free = s.free := rfl
@[simp] theorem State.setConv_out (p : Nat) (x : Conv) : (s.setConv p x).out = s.out := rfl
@[simp] theorem State.setConv_tick (p : Nat) (x : Conv) : (s.setConv p x).tick = s.tick := rfl
@[simp] theorem State.setConv_attrs (p : Nat) (x : Conv) : (s.setConv p x).attrs = s.attrs := rfl
@[simp] theorem State.setConv_written (p : Nat) (x : Conv) : (s.setConv p x).written = s.written := rfl
@[simp] theorem State.setConv_fresh (p : Nat) (x : Conv) : (s.setConv p x).fresh = s.fresh := rfl
@[simp] theorem State.setConv_acc (p : Nat) (x : Conv) : (s.setConv p x).acc = s.acc := rfl
@[simp] theorem State.setConv_fuse (p : Nat) (x : Conv) : (s.setConv p x).fuse = s.fuse := rfl
@[simp] theorem State.setConv_power (p : Nat) (x : Conv) : (s.setConv p x).power = s.power := rfl
@[simp] theorem State.setConv_sealed (p : Nat) (x : Conv) : (s.setConv p x).sealed = s.sealed := rfl
@[simp] theorem State.setConv_nor (p : Nat) (x : Conv) : (s.setConv p x).nor = s.nor := rfl
@[simp] theorem State.setConv_boot (p : Nat) (x : Conv) : (s.setConv p x).boot = s.boot := rfl
@[simp] theorem State.setConv_clk (p : Nat) (x : Conv) : (s.setConv p x).clk = s.clk := rfl
@[simp] theorem State.setConv_bar (p : Nat) (x : Conv) : (s.setConv p x).bar = s.bar := rfl
@[simp] theorem State.setConv_pcie (p : Nat) (x : Conv) : (s.setConv p x).pcie = s.pcie := rfl
@[simp] theorem State.setConv_sessions (p : Nat) (x : Conv) : (s.setConv p x).sessions = s.sessions := rfl
@[simp] theorem State.setConv_gates (p : Nat) (x : Conv) : (s.setConv p x).gates = s.gates := rfl
@[simp] theorem State.setConv_convs (p : Nat) (x : Conv) : (s.setConv p x).convs = Tab.put {} s.convs p x := rfl
@[simp] theorem State.setConv_cellRecords (p : Nat) (x : Conv) : (s.setConv p x).cellRecords = s.cellRecords := rfl
@[simp] theorem State.setConv_factoryTrims (p : Nat) (x : Conv) : (s.setConv p x).factoryTrims = s.factoryTrims := rfl
@[simp] theorem State.setConv_tables (p : Nat) (x : Conv) : (s.setConv p x).tables = s.tables := rfl
@[simp] theorem State.setConv_commits (p : Nat) (x : Conv) : (s.setConv p x).commits = s.commits := rfl
@[simp] theorem State.setConv_millraces (p : Nat) (x : Conv) : (s.setConv p x).millraces = s.millraces := rfl
@[simp] theorem State.setConv_txs (p : Nat) (x : Conv) : (s.setConv p x).txs = s.txs := rfl
@[simp] theorem State.setConv_fecs (p : Nat) (x : Conv) : (s.setConv p x).fecs = s.fecs := rfl
@[simp] theorem State.setConv_lines (p : Nat) (x : Conv) : (s.setConv p x).lines = s.lines := rfl
@[simp] theorem State.setConv_groups (p : Nat) (x : Conv) : (s.setConv p x).groups = s.groups := rfl
@[simp] theorem State.setConv_chans (p : Nat) (x : Conv) : (s.setConv p x).chans = s.chans := rfl
@[simp] theorem State.setConv_cifs (p : Nat) (x : Conv) : (s.setConv p x).cifs = s.cifs := rfl
@[simp] theorem State.setConv_mapq (p : Nat) (x : Conv) : (s.setConv p x).mapq = s.mapq := rfl
@[simp] theorem State.setConv_egressq (p : Nat) (x : Conv) : (s.setConv p x).egressq = s.egressq := rfl
@[simp] theorem State.setConv_lanes (p : Nat) (x : Conv) : (s.setConv p x).lanes = s.lanes := rfl
@[simp] theorem State.setConv_laneTable (p : Nat) (x : Conv) : (s.setConv p x).laneTable = s.laneTable := rfl
@[simp] theorem State.setConv_stamps0 (p : Nat) (x : Conv) : (s.setConv p x).stamps0 = s.stamps0 := rfl
@[simp] theorem State.setConv_stamps1 (p : Nat) (x : Conv) : (s.setConv p x).stamps1 = s.stamps1 := rfl
@[simp] theorem State.setConv_nextPkt (p : Nat) (x : Conv) : (s.setConv p x).nextPkt = s.nextPkt := rfl
@[simp] theorem State.setConv_memory (p : Nat) (x : Conv) : (s.setConv p x).memory = s.memory := rfl
@[simp] theorem State.setConv_cipher (p : Nat) (x : Conv) : (s.setConv p x).cipher = s.cipher := rfl
@[simp] theorem State.setConv_timing (p : Nat) (x : Conv) : (s.setConv p x).timing = s.timing := rfl
@[simp] theorem State.setConv_vault (p : Nat) (x : Conv) : (s.setConv p x).vault = s.vault := rfl
@[simp] theorem State.setConv_bezel (p : Nat) (x : Conv) : (s.setConv p x).bezel = s.bezel := rfl
@[simp] theorem State.setConv_hk (p : Nat) (x : Conv) : (s.setConv p x).hk = s.hk := rfl
@[simp] theorem State.setConv_pins (p : Nat) (x : Conv) : (s.setConv p x).pins = s.pins := rfl
@[simp] theorem State.setConv_tarnish (p : Nat) (x : Conv) : (s.setConv p x).tarnish = s.tarnish := rfl
@[simp] theorem State.setConv_perf (p : Nat) (x : Conv) : (s.setConv p x).perf = s.perf := rfl
@[simp] theorem State.setConv_pm (p : Nat) (x : Conv) : (s.setConv p x).pm = s.pm := rfl

/-! ### `State.setMr` -/

@[simp] theorem State.setMr_pending (p : Nat) (x : Millrace) : (s.setMr p x).pending = s.pending := rfl
@[simp] theorem State.setMr_free (p : Nat) (x : Millrace) : (s.setMr p x).free = s.free := rfl
@[simp] theorem State.setMr_out (p : Nat) (x : Millrace) : (s.setMr p x).out = s.out := rfl
@[simp] theorem State.setMr_tick (p : Nat) (x : Millrace) : (s.setMr p x).tick = s.tick := rfl
@[simp] theorem State.setMr_attrs (p : Nat) (x : Millrace) : (s.setMr p x).attrs = s.attrs := rfl
@[simp] theorem State.setMr_written (p : Nat) (x : Millrace) : (s.setMr p x).written = s.written := rfl
@[simp] theorem State.setMr_fresh (p : Nat) (x : Millrace) : (s.setMr p x).fresh = s.fresh := rfl
@[simp] theorem State.setMr_acc (p : Nat) (x : Millrace) : (s.setMr p x).acc = s.acc := rfl
@[simp] theorem State.setMr_fuse (p : Nat) (x : Millrace) : (s.setMr p x).fuse = s.fuse := rfl
@[simp] theorem State.setMr_power (p : Nat) (x : Millrace) : (s.setMr p x).power = s.power := rfl
@[simp] theorem State.setMr_sealed (p : Nat) (x : Millrace) : (s.setMr p x).sealed = s.sealed := rfl
@[simp] theorem State.setMr_nor (p : Nat) (x : Millrace) : (s.setMr p x).nor = s.nor := rfl
@[simp] theorem State.setMr_boot (p : Nat) (x : Millrace) : (s.setMr p x).boot = s.boot := rfl
@[simp] theorem State.setMr_clk (p : Nat) (x : Millrace) : (s.setMr p x).clk = s.clk := rfl
@[simp] theorem State.setMr_bar (p : Nat) (x : Millrace) : (s.setMr p x).bar = s.bar := rfl
@[simp] theorem State.setMr_pcie (p : Nat) (x : Millrace) : (s.setMr p x).pcie = s.pcie := rfl
@[simp] theorem State.setMr_sessions (p : Nat) (x : Millrace) : (s.setMr p x).sessions = s.sessions := rfl
@[simp] theorem State.setMr_gates (p : Nat) (x : Millrace) : (s.setMr p x).gates = s.gates := rfl
@[simp] theorem State.setMr_convs (p : Nat) (x : Millrace) : (s.setMr p x).convs = s.convs := rfl
@[simp] theorem State.setMr_cellRecords (p : Nat) (x : Millrace) : (s.setMr p x).cellRecords = s.cellRecords := rfl
@[simp] theorem State.setMr_factoryTrims (p : Nat) (x : Millrace) : (s.setMr p x).factoryTrims = s.factoryTrims := rfl
@[simp] theorem State.setMr_tables (p : Nat) (x : Millrace) : (s.setMr p x).tables = s.tables := rfl
@[simp] theorem State.setMr_commits (p : Nat) (x : Millrace) : (s.setMr p x).commits = s.commits := rfl
@[simp] theorem State.setMr_millraces (p : Nat) (x : Millrace) : (s.setMr p x).millraces = Tab.put {} s.millraces p x := rfl
@[simp] theorem State.setMr_txs (p : Nat) (x : Millrace) : (s.setMr p x).txs = s.txs := rfl
@[simp] theorem State.setMr_fecs (p : Nat) (x : Millrace) : (s.setMr p x).fecs = s.fecs := rfl
@[simp] theorem State.setMr_lines (p : Nat) (x : Millrace) : (s.setMr p x).lines = s.lines := rfl
@[simp] theorem State.setMr_groups (p : Nat) (x : Millrace) : (s.setMr p x).groups = s.groups := rfl
@[simp] theorem State.setMr_chans (p : Nat) (x : Millrace) : (s.setMr p x).chans = s.chans := rfl
@[simp] theorem State.setMr_cifs (p : Nat) (x : Millrace) : (s.setMr p x).cifs = s.cifs := rfl
@[simp] theorem State.setMr_mapq (p : Nat) (x : Millrace) : (s.setMr p x).mapq = s.mapq := rfl
@[simp] theorem State.setMr_egressq (p : Nat) (x : Millrace) : (s.setMr p x).egressq = s.egressq := rfl
@[simp] theorem State.setMr_lanes (p : Nat) (x : Millrace) : (s.setMr p x).lanes = s.lanes := rfl
@[simp] theorem State.setMr_laneTable (p : Nat) (x : Millrace) : (s.setMr p x).laneTable = s.laneTable := rfl
@[simp] theorem State.setMr_stamps0 (p : Nat) (x : Millrace) : (s.setMr p x).stamps0 = s.stamps0 := rfl
@[simp] theorem State.setMr_stamps1 (p : Nat) (x : Millrace) : (s.setMr p x).stamps1 = s.stamps1 := rfl
@[simp] theorem State.setMr_nextPkt (p : Nat) (x : Millrace) : (s.setMr p x).nextPkt = s.nextPkt := rfl
@[simp] theorem State.setMr_memory (p : Nat) (x : Millrace) : (s.setMr p x).memory = s.memory := rfl
@[simp] theorem State.setMr_cipher (p : Nat) (x : Millrace) : (s.setMr p x).cipher = s.cipher := rfl
@[simp] theorem State.setMr_timing (p : Nat) (x : Millrace) : (s.setMr p x).timing = s.timing := rfl
@[simp] theorem State.setMr_vault (p : Nat) (x : Millrace) : (s.setMr p x).vault = s.vault := rfl
@[simp] theorem State.setMr_bezel (p : Nat) (x : Millrace) : (s.setMr p x).bezel = s.bezel := rfl
@[simp] theorem State.setMr_hk (p : Nat) (x : Millrace) : (s.setMr p x).hk = s.hk := rfl
@[simp] theorem State.setMr_pins (p : Nat) (x : Millrace) : (s.setMr p x).pins = s.pins := rfl
@[simp] theorem State.setMr_tarnish (p : Nat) (x : Millrace) : (s.setMr p x).tarnish = s.tarnish := rfl
@[simp] theorem State.setMr_perf (p : Nat) (x : Millrace) : (s.setMr p x).perf = s.perf := rfl
@[simp] theorem State.setMr_pm (p : Nat) (x : Millrace) : (s.setMr p x).pm = s.pm := rfl

/-! ### `State.setTx` -/

@[simp] theorem State.setTx_pending (p : Nat) (x : Tx) : (s.setTx p x).pending = s.pending := rfl
@[simp] theorem State.setTx_free (p : Nat) (x : Tx) : (s.setTx p x).free = s.free := rfl
@[simp] theorem State.setTx_out (p : Nat) (x : Tx) : (s.setTx p x).out = s.out := rfl
@[simp] theorem State.setTx_tick (p : Nat) (x : Tx) : (s.setTx p x).tick = s.tick := rfl
@[simp] theorem State.setTx_attrs (p : Nat) (x : Tx) : (s.setTx p x).attrs = s.attrs := rfl
@[simp] theorem State.setTx_written (p : Nat) (x : Tx) : (s.setTx p x).written = s.written := rfl
@[simp] theorem State.setTx_fresh (p : Nat) (x : Tx) : (s.setTx p x).fresh = s.fresh := rfl
@[simp] theorem State.setTx_acc (p : Nat) (x : Tx) : (s.setTx p x).acc = s.acc := rfl
@[simp] theorem State.setTx_fuse (p : Nat) (x : Tx) : (s.setTx p x).fuse = s.fuse := rfl
@[simp] theorem State.setTx_power (p : Nat) (x : Tx) : (s.setTx p x).power = s.power := rfl
@[simp] theorem State.setTx_sealed (p : Nat) (x : Tx) : (s.setTx p x).sealed = s.sealed := rfl
@[simp] theorem State.setTx_nor (p : Nat) (x : Tx) : (s.setTx p x).nor = s.nor := rfl
@[simp] theorem State.setTx_boot (p : Nat) (x : Tx) : (s.setTx p x).boot = s.boot := rfl
@[simp] theorem State.setTx_clk (p : Nat) (x : Tx) : (s.setTx p x).clk = s.clk := rfl
@[simp] theorem State.setTx_bar (p : Nat) (x : Tx) : (s.setTx p x).bar = s.bar := rfl
@[simp] theorem State.setTx_pcie (p : Nat) (x : Tx) : (s.setTx p x).pcie = s.pcie := rfl
@[simp] theorem State.setTx_sessions (p : Nat) (x : Tx) : (s.setTx p x).sessions = s.sessions := rfl
@[simp] theorem State.setTx_gates (p : Nat) (x : Tx) : (s.setTx p x).gates = s.gates := rfl
@[simp] theorem State.setTx_convs (p : Nat) (x : Tx) : (s.setTx p x).convs = s.convs := rfl
@[simp] theorem State.setTx_cellRecords (p : Nat) (x : Tx) : (s.setTx p x).cellRecords = s.cellRecords := rfl
@[simp] theorem State.setTx_factoryTrims (p : Nat) (x : Tx) : (s.setTx p x).factoryTrims = s.factoryTrims := rfl
@[simp] theorem State.setTx_tables (p : Nat) (x : Tx) : (s.setTx p x).tables = s.tables := rfl
@[simp] theorem State.setTx_commits (p : Nat) (x : Tx) : (s.setTx p x).commits = s.commits := rfl
@[simp] theorem State.setTx_millraces (p : Nat) (x : Tx) : (s.setTx p x).millraces = s.millraces := rfl
@[simp] theorem State.setTx_txs (p : Nat) (x : Tx) : (s.setTx p x).txs = Tab.put {} s.txs p x := rfl
@[simp] theorem State.setTx_fecs (p : Nat) (x : Tx) : (s.setTx p x).fecs = s.fecs := rfl
@[simp] theorem State.setTx_lines (p : Nat) (x : Tx) : (s.setTx p x).lines = s.lines := rfl
@[simp] theorem State.setTx_groups (p : Nat) (x : Tx) : (s.setTx p x).groups = s.groups := rfl
@[simp] theorem State.setTx_chans (p : Nat) (x : Tx) : (s.setTx p x).chans = s.chans := rfl
@[simp] theorem State.setTx_cifs (p : Nat) (x : Tx) : (s.setTx p x).cifs = s.cifs := rfl
@[simp] theorem State.setTx_mapq (p : Nat) (x : Tx) : (s.setTx p x).mapq = s.mapq := rfl
@[simp] theorem State.setTx_egressq (p : Nat) (x : Tx) : (s.setTx p x).egressq = s.egressq := rfl
@[simp] theorem State.setTx_lanes (p : Nat) (x : Tx) : (s.setTx p x).lanes = s.lanes := rfl
@[simp] theorem State.setTx_laneTable (p : Nat) (x : Tx) : (s.setTx p x).laneTable = s.laneTable := rfl
@[simp] theorem State.setTx_stamps0 (p : Nat) (x : Tx) : (s.setTx p x).stamps0 = s.stamps0 := rfl
@[simp] theorem State.setTx_stamps1 (p : Nat) (x : Tx) : (s.setTx p x).stamps1 = s.stamps1 := rfl
@[simp] theorem State.setTx_nextPkt (p : Nat) (x : Tx) : (s.setTx p x).nextPkt = s.nextPkt := rfl
@[simp] theorem State.setTx_memory (p : Nat) (x : Tx) : (s.setTx p x).memory = s.memory := rfl
@[simp] theorem State.setTx_cipher (p : Nat) (x : Tx) : (s.setTx p x).cipher = s.cipher := rfl
@[simp] theorem State.setTx_timing (p : Nat) (x : Tx) : (s.setTx p x).timing = s.timing := rfl
@[simp] theorem State.setTx_vault (p : Nat) (x : Tx) : (s.setTx p x).vault = s.vault := rfl
@[simp] theorem State.setTx_bezel (p : Nat) (x : Tx) : (s.setTx p x).bezel = s.bezel := rfl
@[simp] theorem State.setTx_hk (p : Nat) (x : Tx) : (s.setTx p x).hk = s.hk := rfl
@[simp] theorem State.setTx_pins (p : Nat) (x : Tx) : (s.setTx p x).pins = s.pins := rfl
@[simp] theorem State.setTx_tarnish (p : Nat) (x : Tx) : (s.setTx p x).tarnish = s.tarnish := rfl
@[simp] theorem State.setTx_perf (p : Nat) (x : Tx) : (s.setTx p x).perf = s.perf := rfl
@[simp] theorem State.setTx_pm (p : Nat) (x : Tx) : (s.setTx p x).pm = s.pm := rfl

/-! ### `State.setTable` -/

@[simp] theorem State.setTable_pending (b : Nat) (x : GenTable) : (s.setTable b x).pending = s.pending := rfl
@[simp] theorem State.setTable_free (b : Nat) (x : GenTable) : (s.setTable b x).free = s.free := rfl
@[simp] theorem State.setTable_out (b : Nat) (x : GenTable) : (s.setTable b x).out = s.out := rfl
@[simp] theorem State.setTable_tick (b : Nat) (x : GenTable) : (s.setTable b x).tick = s.tick := rfl
@[simp] theorem State.setTable_attrs (b : Nat) (x : GenTable) : (s.setTable b x).attrs = s.attrs := rfl
@[simp] theorem State.setTable_written (b : Nat) (x : GenTable) : (s.setTable b x).written = s.written := rfl
@[simp] theorem State.setTable_fresh (b : Nat) (x : GenTable) : (s.setTable b x).fresh = s.fresh := rfl
@[simp] theorem State.setTable_acc (b : Nat) (x : GenTable) : (s.setTable b x).acc = s.acc := rfl
@[simp] theorem State.setTable_fuse (b : Nat) (x : GenTable) : (s.setTable b x).fuse = s.fuse := rfl
@[simp] theorem State.setTable_power (b : Nat) (x : GenTable) : (s.setTable b x).power = s.power := rfl
@[simp] theorem State.setTable_sealed (b : Nat) (x : GenTable) : (s.setTable b x).sealed = s.sealed := rfl
@[simp] theorem State.setTable_nor (b : Nat) (x : GenTable) : (s.setTable b x).nor = s.nor := rfl
@[simp] theorem State.setTable_boot (b : Nat) (x : GenTable) : (s.setTable b x).boot = s.boot := rfl
@[simp] theorem State.setTable_clk (b : Nat) (x : GenTable) : (s.setTable b x).clk = s.clk := rfl
@[simp] theorem State.setTable_bar (b : Nat) (x : GenTable) : (s.setTable b x).bar = s.bar := rfl
@[simp] theorem State.setTable_pcie (b : Nat) (x : GenTable) : (s.setTable b x).pcie = s.pcie := rfl
@[simp] theorem State.setTable_sessions (b : Nat) (x : GenTable) : (s.setTable b x).sessions = s.sessions := rfl
@[simp] theorem State.setTable_gates (b : Nat) (x : GenTable) : (s.setTable b x).gates = s.gates := rfl
@[simp] theorem State.setTable_convs (b : Nat) (x : GenTable) : (s.setTable b x).convs = s.convs := rfl
@[simp] theorem State.setTable_cellRecords (b : Nat) (x : GenTable) : (s.setTable b x).cellRecords = s.cellRecords := rfl
@[simp] theorem State.setTable_factoryTrims (b : Nat) (x : GenTable) : (s.setTable b x).factoryTrims = s.factoryTrims := rfl
@[simp] theorem State.setTable_tables (b : Nat) (x : GenTable) : (s.setTable b x).tables = Tab.put {} s.tables b x := rfl
@[simp] theorem State.setTable_commits (b : Nat) (x : GenTable) : (s.setTable b x).commits = s.commits := rfl
@[simp] theorem State.setTable_millraces (b : Nat) (x : GenTable) : (s.setTable b x).millraces = s.millraces := rfl
@[simp] theorem State.setTable_txs (b : Nat) (x : GenTable) : (s.setTable b x).txs = s.txs := rfl
@[simp] theorem State.setTable_fecs (b : Nat) (x : GenTable) : (s.setTable b x).fecs = s.fecs := rfl
@[simp] theorem State.setTable_lines (b : Nat) (x : GenTable) : (s.setTable b x).lines = s.lines := rfl
@[simp] theorem State.setTable_groups (b : Nat) (x : GenTable) : (s.setTable b x).groups = s.groups := rfl
@[simp] theorem State.setTable_chans (b : Nat) (x : GenTable) : (s.setTable b x).chans = s.chans := rfl
@[simp] theorem State.setTable_cifs (b : Nat) (x : GenTable) : (s.setTable b x).cifs = s.cifs := rfl
@[simp] theorem State.setTable_mapq (b : Nat) (x : GenTable) : (s.setTable b x).mapq = s.mapq := rfl
@[simp] theorem State.setTable_egressq (b : Nat) (x : GenTable) : (s.setTable b x).egressq = s.egressq := rfl
@[simp] theorem State.setTable_lanes (b : Nat) (x : GenTable) : (s.setTable b x).lanes = s.lanes := rfl
@[simp] theorem State.setTable_laneTable (b : Nat) (x : GenTable) : (s.setTable b x).laneTable = s.laneTable := rfl
@[simp] theorem State.setTable_stamps0 (b : Nat) (x : GenTable) : (s.setTable b x).stamps0 = s.stamps0 := rfl
@[simp] theorem State.setTable_stamps1 (b : Nat) (x : GenTable) : (s.setTable b x).stamps1 = s.stamps1 := rfl
@[simp] theorem State.setTable_nextPkt (b : Nat) (x : GenTable) : (s.setTable b x).nextPkt = s.nextPkt := rfl
@[simp] theorem State.setTable_memory (b : Nat) (x : GenTable) : (s.setTable b x).memory = s.memory := rfl
@[simp] theorem State.setTable_cipher (b : Nat) (x : GenTable) : (s.setTable b x).cipher = s.cipher := rfl
@[simp] theorem State.setTable_timing (b : Nat) (x : GenTable) : (s.setTable b x).timing = s.timing := rfl
@[simp] theorem State.setTable_vault (b : Nat) (x : GenTable) : (s.setTable b x).vault = s.vault := rfl
@[simp] theorem State.setTable_bezel (b : Nat) (x : GenTable) : (s.setTable b x).bezel = s.bezel := rfl
@[simp] theorem State.setTable_hk (b : Nat) (x : GenTable) : (s.setTable b x).hk = s.hk := rfl
@[simp] theorem State.setTable_pins (b : Nat) (x : GenTable) : (s.setTable b x).pins = s.pins := rfl
@[simp] theorem State.setTable_tarnish (b : Nat) (x : GenTable) : (s.setTable b x).tarnish = s.tarnish := rfl
@[simp] theorem State.setTable_perf (b : Nat) (x : GenTable) : (s.setTable b x).perf = s.perf := rfl
@[simp] theorem State.setTable_pm (b : Nat) (x : GenTable) : (s.setTable b x).pm = s.pm := rfl

/-! ### `State.setFec` -/

@[simp] theorem State.setFec_pending (p : Nat) (x : Fec) : (s.setFec p x).pending = s.pending := rfl
@[simp] theorem State.setFec_free (p : Nat) (x : Fec) : (s.setFec p x).free = s.free := rfl
@[simp] theorem State.setFec_out (p : Nat) (x : Fec) : (s.setFec p x).out = s.out := rfl
@[simp] theorem State.setFec_tick (p : Nat) (x : Fec) : (s.setFec p x).tick = s.tick := rfl
@[simp] theorem State.setFec_attrs (p : Nat) (x : Fec) : (s.setFec p x).attrs = s.attrs := rfl
@[simp] theorem State.setFec_written (p : Nat) (x : Fec) : (s.setFec p x).written = s.written := rfl
@[simp] theorem State.setFec_fresh (p : Nat) (x : Fec) : (s.setFec p x).fresh = s.fresh := rfl
@[simp] theorem State.setFec_acc (p : Nat) (x : Fec) : (s.setFec p x).acc = s.acc := rfl
@[simp] theorem State.setFec_fuse (p : Nat) (x : Fec) : (s.setFec p x).fuse = s.fuse := rfl
@[simp] theorem State.setFec_power (p : Nat) (x : Fec) : (s.setFec p x).power = s.power := rfl
@[simp] theorem State.setFec_sealed (p : Nat) (x : Fec) : (s.setFec p x).sealed = s.sealed := rfl
@[simp] theorem State.setFec_nor (p : Nat) (x : Fec) : (s.setFec p x).nor = s.nor := rfl
@[simp] theorem State.setFec_boot (p : Nat) (x : Fec) : (s.setFec p x).boot = s.boot := rfl
@[simp] theorem State.setFec_clk (p : Nat) (x : Fec) : (s.setFec p x).clk = s.clk := rfl
@[simp] theorem State.setFec_bar (p : Nat) (x : Fec) : (s.setFec p x).bar = s.bar := rfl
@[simp] theorem State.setFec_pcie (p : Nat) (x : Fec) : (s.setFec p x).pcie = s.pcie := rfl
@[simp] theorem State.setFec_sessions (p : Nat) (x : Fec) : (s.setFec p x).sessions = s.sessions := rfl
@[simp] theorem State.setFec_gates (p : Nat) (x : Fec) : (s.setFec p x).gates = s.gates := rfl
@[simp] theorem State.setFec_convs (p : Nat) (x : Fec) : (s.setFec p x).convs = s.convs := rfl
@[simp] theorem State.setFec_cellRecords (p : Nat) (x : Fec) : (s.setFec p x).cellRecords = s.cellRecords := rfl
@[simp] theorem State.setFec_factoryTrims (p : Nat) (x : Fec) : (s.setFec p x).factoryTrims = s.factoryTrims := rfl
@[simp] theorem State.setFec_tables (p : Nat) (x : Fec) : (s.setFec p x).tables = s.tables := rfl
@[simp] theorem State.setFec_commits (p : Nat) (x : Fec) : (s.setFec p x).commits = s.commits := rfl
@[simp] theorem State.setFec_millraces (p : Nat) (x : Fec) : (s.setFec p x).millraces = s.millraces := rfl
@[simp] theorem State.setFec_txs (p : Nat) (x : Fec) : (s.setFec p x).txs = s.txs := rfl
@[simp] theorem State.setFec_fecs (p : Nat) (x : Fec) : (s.setFec p x).fecs = Tab.put {} s.fecs p x := rfl
@[simp] theorem State.setFec_lines (p : Nat) (x : Fec) : (s.setFec p x).lines = s.lines := rfl
@[simp] theorem State.setFec_groups (p : Nat) (x : Fec) : (s.setFec p x).groups = s.groups := rfl
@[simp] theorem State.setFec_chans (p : Nat) (x : Fec) : (s.setFec p x).chans = s.chans := rfl
@[simp] theorem State.setFec_cifs (p : Nat) (x : Fec) : (s.setFec p x).cifs = s.cifs := rfl
@[simp] theorem State.setFec_mapq (p : Nat) (x : Fec) : (s.setFec p x).mapq = s.mapq := rfl
@[simp] theorem State.setFec_egressq (p : Nat) (x : Fec) : (s.setFec p x).egressq = s.egressq := rfl
@[simp] theorem State.setFec_lanes (p : Nat) (x : Fec) : (s.setFec p x).lanes = s.lanes := rfl
@[simp] theorem State.setFec_laneTable (p : Nat) (x : Fec) : (s.setFec p x).laneTable = s.laneTable := rfl
@[simp] theorem State.setFec_stamps0 (p : Nat) (x : Fec) : (s.setFec p x).stamps0 = s.stamps0 := rfl
@[simp] theorem State.setFec_stamps1 (p : Nat) (x : Fec) : (s.setFec p x).stamps1 = s.stamps1 := rfl
@[simp] theorem State.setFec_nextPkt (p : Nat) (x : Fec) : (s.setFec p x).nextPkt = s.nextPkt := rfl
@[simp] theorem State.setFec_memory (p : Nat) (x : Fec) : (s.setFec p x).memory = s.memory := rfl
@[simp] theorem State.setFec_cipher (p : Nat) (x : Fec) : (s.setFec p x).cipher = s.cipher := rfl
@[simp] theorem State.setFec_timing (p : Nat) (x : Fec) : (s.setFec p x).timing = s.timing := rfl
@[simp] theorem State.setFec_vault (p : Nat) (x : Fec) : (s.setFec p x).vault = s.vault := rfl
@[simp] theorem State.setFec_bezel (p : Nat) (x : Fec) : (s.setFec p x).bezel = s.bezel := rfl
@[simp] theorem State.setFec_hk (p : Nat) (x : Fec) : (s.setFec p x).hk = s.hk := rfl
@[simp] theorem State.setFec_pins (p : Nat) (x : Fec) : (s.setFec p x).pins = s.pins := rfl
@[simp] theorem State.setFec_tarnish (p : Nat) (x : Fec) : (s.setFec p x).tarnish = s.tarnish := rfl
@[simp] theorem State.setFec_perf (p : Nat) (x : Fec) : (s.setFec p x).perf = s.perf := rfl
@[simp] theorem State.setFec_pm (p : Nat) (x : Fec) : (s.setFec p x).pm = s.pm := rfl

/-! ### `State.setLine` -/

@[simp] theorem State.setLine_pending (p : Nat) (x : Line) : (s.setLine p x).pending = s.pending := rfl
@[simp] theorem State.setLine_free (p : Nat) (x : Line) : (s.setLine p x).free = s.free := rfl
@[simp] theorem State.setLine_out (p : Nat) (x : Line) : (s.setLine p x).out = s.out := rfl
@[simp] theorem State.setLine_tick (p : Nat) (x : Line) : (s.setLine p x).tick = s.tick := rfl
@[simp] theorem State.setLine_attrs (p : Nat) (x : Line) : (s.setLine p x).attrs = s.attrs := rfl
@[simp] theorem State.setLine_written (p : Nat) (x : Line) : (s.setLine p x).written = s.written := rfl
@[simp] theorem State.setLine_fresh (p : Nat) (x : Line) : (s.setLine p x).fresh = s.fresh := rfl
@[simp] theorem State.setLine_acc (p : Nat) (x : Line) : (s.setLine p x).acc = s.acc := rfl
@[simp] theorem State.setLine_fuse (p : Nat) (x : Line) : (s.setLine p x).fuse = s.fuse := rfl
@[simp] theorem State.setLine_power (p : Nat) (x : Line) : (s.setLine p x).power = s.power := rfl
@[simp] theorem State.setLine_sealed (p : Nat) (x : Line) : (s.setLine p x).sealed = s.sealed := rfl
@[simp] theorem State.setLine_nor (p : Nat) (x : Line) : (s.setLine p x).nor = s.nor := rfl
@[simp] theorem State.setLine_boot (p : Nat) (x : Line) : (s.setLine p x).boot = s.boot := rfl
@[simp] theorem State.setLine_clk (p : Nat) (x : Line) : (s.setLine p x).clk = s.clk := rfl
@[simp] theorem State.setLine_bar (p : Nat) (x : Line) : (s.setLine p x).bar = s.bar := rfl
@[simp] theorem State.setLine_pcie (p : Nat) (x : Line) : (s.setLine p x).pcie = s.pcie := rfl
@[simp] theorem State.setLine_sessions (p : Nat) (x : Line) : (s.setLine p x).sessions = s.sessions := rfl
@[simp] theorem State.setLine_gates (p : Nat) (x : Line) : (s.setLine p x).gates = s.gates := rfl
@[simp] theorem State.setLine_convs (p : Nat) (x : Line) : (s.setLine p x).convs = s.convs := rfl
@[simp] theorem State.setLine_cellRecords (p : Nat) (x : Line) : (s.setLine p x).cellRecords = s.cellRecords := rfl
@[simp] theorem State.setLine_factoryTrims (p : Nat) (x : Line) : (s.setLine p x).factoryTrims = s.factoryTrims := rfl
@[simp] theorem State.setLine_tables (p : Nat) (x : Line) : (s.setLine p x).tables = s.tables := rfl
@[simp] theorem State.setLine_commits (p : Nat) (x : Line) : (s.setLine p x).commits = s.commits := rfl
@[simp] theorem State.setLine_millraces (p : Nat) (x : Line) : (s.setLine p x).millraces = s.millraces := rfl
@[simp] theorem State.setLine_txs (p : Nat) (x : Line) : (s.setLine p x).txs = s.txs := rfl
@[simp] theorem State.setLine_fecs (p : Nat) (x : Line) : (s.setLine p x).fecs = s.fecs := rfl
@[simp] theorem State.setLine_lines (p : Nat) (x : Line) : (s.setLine p x).lines = Tab.put {} s.lines p x := rfl
@[simp] theorem State.setLine_groups (p : Nat) (x : Line) : (s.setLine p x).groups = s.groups := rfl
@[simp] theorem State.setLine_chans (p : Nat) (x : Line) : (s.setLine p x).chans = s.chans := rfl
@[simp] theorem State.setLine_cifs (p : Nat) (x : Line) : (s.setLine p x).cifs = s.cifs := rfl
@[simp] theorem State.setLine_mapq (p : Nat) (x : Line) : (s.setLine p x).mapq = s.mapq := rfl
@[simp] theorem State.setLine_egressq (p : Nat) (x : Line) : (s.setLine p x).egressq = s.egressq := rfl
@[simp] theorem State.setLine_lanes (p : Nat) (x : Line) : (s.setLine p x).lanes = s.lanes := rfl
@[simp] theorem State.setLine_laneTable (p : Nat) (x : Line) : (s.setLine p x).laneTable = s.laneTable := rfl
@[simp] theorem State.setLine_stamps0 (p : Nat) (x : Line) : (s.setLine p x).stamps0 = s.stamps0 := rfl
@[simp] theorem State.setLine_stamps1 (p : Nat) (x : Line) : (s.setLine p x).stamps1 = s.stamps1 := rfl
@[simp] theorem State.setLine_nextPkt (p : Nat) (x : Line) : (s.setLine p x).nextPkt = s.nextPkt := rfl
@[simp] theorem State.setLine_memory (p : Nat) (x : Line) : (s.setLine p x).memory = s.memory := rfl
@[simp] theorem State.setLine_cipher (p : Nat) (x : Line) : (s.setLine p x).cipher = s.cipher := rfl
@[simp] theorem State.setLine_timing (p : Nat) (x : Line) : (s.setLine p x).timing = s.timing := rfl
@[simp] theorem State.setLine_vault (p : Nat) (x : Line) : (s.setLine p x).vault = s.vault := rfl
@[simp] theorem State.setLine_bezel (p : Nat) (x : Line) : (s.setLine p x).bezel = s.bezel := rfl
@[simp] theorem State.setLine_hk (p : Nat) (x : Line) : (s.setLine p x).hk = s.hk := rfl
@[simp] theorem State.setLine_pins (p : Nat) (x : Line) : (s.setLine p x).pins = s.pins := rfl
@[simp] theorem State.setLine_tarnish (p : Nat) (x : Line) : (s.setLine p x).tarnish = s.tarnish := rfl
@[simp] theorem State.setLine_perf (p : Nat) (x : Line) : (s.setLine p x).perf = s.perf := rfl
@[simp] theorem State.setLine_pm (p : Nat) (x : Line) : (s.setLine p x).pm = s.pm := rfl

/-! ### `State.setGroup` -/

@[simp] theorem State.setGroup_pending (g : Nat) (x : Option Group) : (s.setGroup g x).pending = s.pending := rfl
@[simp] theorem State.setGroup_free (g : Nat) (x : Option Group) : (s.setGroup g x).free = s.free := rfl
@[simp] theorem State.setGroup_out (g : Nat) (x : Option Group) : (s.setGroup g x).out = s.out := rfl
@[simp] theorem State.setGroup_tick (g : Nat) (x : Option Group) : (s.setGroup g x).tick = s.tick := rfl
@[simp] theorem State.setGroup_attrs (g : Nat) (x : Option Group) : (s.setGroup g x).attrs = s.attrs := rfl
@[simp] theorem State.setGroup_written (g : Nat) (x : Option Group) : (s.setGroup g x).written = s.written := rfl
@[simp] theorem State.setGroup_fresh (g : Nat) (x : Option Group) : (s.setGroup g x).fresh = s.fresh := rfl
@[simp] theorem State.setGroup_acc (g : Nat) (x : Option Group) : (s.setGroup g x).acc = s.acc := rfl
@[simp] theorem State.setGroup_fuse (g : Nat) (x : Option Group) : (s.setGroup g x).fuse = s.fuse := rfl
@[simp] theorem State.setGroup_power (g : Nat) (x : Option Group) : (s.setGroup g x).power = s.power := rfl
@[simp] theorem State.setGroup_sealed (g : Nat) (x : Option Group) : (s.setGroup g x).sealed = s.sealed := rfl
@[simp] theorem State.setGroup_nor (g : Nat) (x : Option Group) : (s.setGroup g x).nor = s.nor := rfl
@[simp] theorem State.setGroup_boot (g : Nat) (x : Option Group) : (s.setGroup g x).boot = s.boot := rfl
@[simp] theorem State.setGroup_clk (g : Nat) (x : Option Group) : (s.setGroup g x).clk = s.clk := rfl
@[simp] theorem State.setGroup_bar (g : Nat) (x : Option Group) : (s.setGroup g x).bar = s.bar := rfl
@[simp] theorem State.setGroup_pcie (g : Nat) (x : Option Group) : (s.setGroup g x).pcie = s.pcie := rfl
@[simp] theorem State.setGroup_sessions (g : Nat) (x : Option Group) : (s.setGroup g x).sessions = s.sessions := rfl
@[simp] theorem State.setGroup_gates (g : Nat) (x : Option Group) : (s.setGroup g x).gates = s.gates := rfl
@[simp] theorem State.setGroup_convs (g : Nat) (x : Option Group) : (s.setGroup g x).convs = s.convs := rfl
@[simp] theorem State.setGroup_cellRecords (g : Nat) (x : Option Group) : (s.setGroup g x).cellRecords = s.cellRecords := rfl
@[simp] theorem State.setGroup_factoryTrims (g : Nat) (x : Option Group) : (s.setGroup g x).factoryTrims = s.factoryTrims := rfl
@[simp] theorem State.setGroup_tables (g : Nat) (x : Option Group) : (s.setGroup g x).tables = s.tables := rfl
@[simp] theorem State.setGroup_commits (g : Nat) (x : Option Group) : (s.setGroup g x).commits = s.commits := rfl
@[simp] theorem State.setGroup_millraces (g : Nat) (x : Option Group) : (s.setGroup g x).millraces = s.millraces := rfl
@[simp] theorem State.setGroup_txs (g : Nat) (x : Option Group) : (s.setGroup g x).txs = s.txs := rfl
@[simp] theorem State.setGroup_fecs (g : Nat) (x : Option Group) : (s.setGroup g x).fecs = s.fecs := rfl
@[simp] theorem State.setGroup_lines (g : Nat) (x : Option Group) : (s.setGroup g x).lines = s.lines := rfl
@[simp] theorem State.setGroup_groups (g : Nat) (x : Option Group) : (s.setGroup g x).groups = Tab.put none s.groups g x := rfl
@[simp] theorem State.setGroup_chans (g : Nat) (x : Option Group) : (s.setGroup g x).chans = s.chans := rfl
@[simp] theorem State.setGroup_cifs (g : Nat) (x : Option Group) : (s.setGroup g x).cifs = s.cifs := rfl
@[simp] theorem State.setGroup_mapq (g : Nat) (x : Option Group) : (s.setGroup g x).mapq = s.mapq := rfl
@[simp] theorem State.setGroup_egressq (g : Nat) (x : Option Group) : (s.setGroup g x).egressq = s.egressq := rfl
@[simp] theorem State.setGroup_lanes (g : Nat) (x : Option Group) : (s.setGroup g x).lanes = s.lanes := rfl
@[simp] theorem State.setGroup_laneTable (g : Nat) (x : Option Group) : (s.setGroup g x).laneTable = s.laneTable := rfl
@[simp] theorem State.setGroup_stamps0 (g : Nat) (x : Option Group) : (s.setGroup g x).stamps0 = s.stamps0 := rfl
@[simp] theorem State.setGroup_stamps1 (g : Nat) (x : Option Group) : (s.setGroup g x).stamps1 = s.stamps1 := rfl
@[simp] theorem State.setGroup_nextPkt (g : Nat) (x : Option Group) : (s.setGroup g x).nextPkt = s.nextPkt := rfl
@[simp] theorem State.setGroup_memory (g : Nat) (x : Option Group) : (s.setGroup g x).memory = s.memory := rfl
@[simp] theorem State.setGroup_cipher (g : Nat) (x : Option Group) : (s.setGroup g x).cipher = s.cipher := rfl
@[simp] theorem State.setGroup_timing (g : Nat) (x : Option Group) : (s.setGroup g x).timing = s.timing := rfl
@[simp] theorem State.setGroup_vault (g : Nat) (x : Option Group) : (s.setGroup g x).vault = s.vault := rfl
@[simp] theorem State.setGroup_bezel (g : Nat) (x : Option Group) : (s.setGroup g x).bezel = s.bezel := rfl
@[simp] theorem State.setGroup_hk (g : Nat) (x : Option Group) : (s.setGroup g x).hk = s.hk := rfl
@[simp] theorem State.setGroup_pins (g : Nat) (x : Option Group) : (s.setGroup g x).pins = s.pins := rfl
@[simp] theorem State.setGroup_tarnish (g : Nat) (x : Option Group) : (s.setGroup g x).tarnish = s.tarnish := rfl
@[simp] theorem State.setGroup_perf (g : Nat) (x : Option Group) : (s.setGroup g x).perf = s.perf := rfl
@[simp] theorem State.setGroup_pm (g : Nat) (x : Option Group) : (s.setGroup g x).pm = s.pm := rfl

/-! ### `State.setChan` -/

@[simp] theorem State.setChan_pending (c : Nat) (x : Channel) : (s.setChan c x).pending = s.pending := rfl
@[simp] theorem State.setChan_free (c : Nat) (x : Channel) : (s.setChan c x).free = s.free := rfl
@[simp] theorem State.setChan_out (c : Nat) (x : Channel) : (s.setChan c x).out = s.out := rfl
@[simp] theorem State.setChan_tick (c : Nat) (x : Channel) : (s.setChan c x).tick = s.tick := rfl
@[simp] theorem State.setChan_attrs (c : Nat) (x : Channel) : (s.setChan c x).attrs = s.attrs := rfl
@[simp] theorem State.setChan_written (c : Nat) (x : Channel) : (s.setChan c x).written = s.written := rfl
@[simp] theorem State.setChan_fresh (c : Nat) (x : Channel) : (s.setChan c x).fresh = s.fresh := rfl
@[simp] theorem State.setChan_acc (c : Nat) (x : Channel) : (s.setChan c x).acc = s.acc := rfl
@[simp] theorem State.setChan_fuse (c : Nat) (x : Channel) : (s.setChan c x).fuse = s.fuse := rfl
@[simp] theorem State.setChan_power (c : Nat) (x : Channel) : (s.setChan c x).power = s.power := rfl
@[simp] theorem State.setChan_sealed (c : Nat) (x : Channel) : (s.setChan c x).sealed = s.sealed := rfl
@[simp] theorem State.setChan_nor (c : Nat) (x : Channel) : (s.setChan c x).nor = s.nor := rfl
@[simp] theorem State.setChan_boot (c : Nat) (x : Channel) : (s.setChan c x).boot = s.boot := rfl
@[simp] theorem State.setChan_clk (c : Nat) (x : Channel) : (s.setChan c x).clk = s.clk := rfl
@[simp] theorem State.setChan_bar (c : Nat) (x : Channel) : (s.setChan c x).bar = s.bar := rfl
@[simp] theorem State.setChan_pcie (c : Nat) (x : Channel) : (s.setChan c x).pcie = s.pcie := rfl
@[simp] theorem State.setChan_sessions (c : Nat) (x : Channel) : (s.setChan c x).sessions = s.sessions := rfl
@[simp] theorem State.setChan_gates (c : Nat) (x : Channel) : (s.setChan c x).gates = s.gates := rfl
@[simp] theorem State.setChan_convs (c : Nat) (x : Channel) : (s.setChan c x).convs = s.convs := rfl
@[simp] theorem State.setChan_cellRecords (c : Nat) (x : Channel) : (s.setChan c x).cellRecords = s.cellRecords := rfl
@[simp] theorem State.setChan_factoryTrims (c : Nat) (x : Channel) : (s.setChan c x).factoryTrims = s.factoryTrims := rfl
@[simp] theorem State.setChan_tables (c : Nat) (x : Channel) : (s.setChan c x).tables = s.tables := rfl
@[simp] theorem State.setChan_commits (c : Nat) (x : Channel) : (s.setChan c x).commits = s.commits := rfl
@[simp] theorem State.setChan_millraces (c : Nat) (x : Channel) : (s.setChan c x).millraces = s.millraces := rfl
@[simp] theorem State.setChan_txs (c : Nat) (x : Channel) : (s.setChan c x).txs = s.txs := rfl
@[simp] theorem State.setChan_fecs (c : Nat) (x : Channel) : (s.setChan c x).fecs = s.fecs := rfl
@[simp] theorem State.setChan_lines (c : Nat) (x : Channel) : (s.setChan c x).lines = s.lines := rfl
@[simp] theorem State.setChan_groups (c : Nat) (x : Channel) : (s.setChan c x).groups = s.groups := rfl
@[simp] theorem State.setChan_chans (c : Nat) (x : Channel) : (s.setChan c x).chans = Tab.put {} s.chans c x := rfl
@[simp] theorem State.setChan_cifs (c : Nat) (x : Channel) : (s.setChan c x).cifs = s.cifs := rfl
@[simp] theorem State.setChan_mapq (c : Nat) (x : Channel) : (s.setChan c x).mapq = s.mapq := rfl
@[simp] theorem State.setChan_egressq (c : Nat) (x : Channel) : (s.setChan c x).egressq = s.egressq := rfl
@[simp] theorem State.setChan_lanes (c : Nat) (x : Channel) : (s.setChan c x).lanes = s.lanes := rfl
@[simp] theorem State.setChan_laneTable (c : Nat) (x : Channel) : (s.setChan c x).laneTable = s.laneTable := rfl
@[simp] theorem State.setChan_stamps0 (c : Nat) (x : Channel) : (s.setChan c x).stamps0 = s.stamps0 := rfl
@[simp] theorem State.setChan_stamps1 (c : Nat) (x : Channel) : (s.setChan c x).stamps1 = s.stamps1 := rfl
@[simp] theorem State.setChan_nextPkt (c : Nat) (x : Channel) : (s.setChan c x).nextPkt = s.nextPkt := rfl
@[simp] theorem State.setChan_memory (c : Nat) (x : Channel) : (s.setChan c x).memory = s.memory := rfl
@[simp] theorem State.setChan_cipher (c : Nat) (x : Channel) : (s.setChan c x).cipher = s.cipher := rfl
@[simp] theorem State.setChan_timing (c : Nat) (x : Channel) : (s.setChan c x).timing = s.timing := rfl
@[simp] theorem State.setChan_vault (c : Nat) (x : Channel) : (s.setChan c x).vault = s.vault := rfl
@[simp] theorem State.setChan_bezel (c : Nat) (x : Channel) : (s.setChan c x).bezel = s.bezel := rfl
@[simp] theorem State.setChan_hk (c : Nat) (x : Channel) : (s.setChan c x).hk = s.hk := rfl
@[simp] theorem State.setChan_pins (c : Nat) (x : Channel) : (s.setChan c x).pins = s.pins := rfl
@[simp] theorem State.setChan_tarnish (c : Nat) (x : Channel) : (s.setChan c x).tarnish = s.tarnish := rfl
@[simp] theorem State.setChan_perf (c : Nat) (x : Channel) : (s.setChan c x).perf = s.perf := rfl
@[simp] theorem State.setChan_pm (c : Nat) (x : Channel) : (s.setChan c x).pm = s.pm := rfl

/-! ### `State.setCif` -/

@[simp] theorem State.setCif_pending (l : Nat) (x : Cif) : (s.setCif l x).pending = s.pending := rfl
@[simp] theorem State.setCif_free (l : Nat) (x : Cif) : (s.setCif l x).free = s.free := rfl
@[simp] theorem State.setCif_out (l : Nat) (x : Cif) : (s.setCif l x).out = s.out := rfl
@[simp] theorem State.setCif_tick (l : Nat) (x : Cif) : (s.setCif l x).tick = s.tick := rfl
@[simp] theorem State.setCif_attrs (l : Nat) (x : Cif) : (s.setCif l x).attrs = s.attrs := rfl
@[simp] theorem State.setCif_written (l : Nat) (x : Cif) : (s.setCif l x).written = s.written := rfl
@[simp] theorem State.setCif_fresh (l : Nat) (x : Cif) : (s.setCif l x).fresh = s.fresh := rfl
@[simp] theorem State.setCif_acc (l : Nat) (x : Cif) : (s.setCif l x).acc = s.acc := rfl
@[simp] theorem State.setCif_fuse (l : Nat) (x : Cif) : (s.setCif l x).fuse = s.fuse := rfl
@[simp] theorem State.setCif_power (l : Nat) (x : Cif) : (s.setCif l x).power = s.power := rfl
@[simp] theorem State.setCif_sealed (l : Nat) (x : Cif) : (s.setCif l x).sealed = s.sealed := rfl
@[simp] theorem State.setCif_nor (l : Nat) (x : Cif) : (s.setCif l x).nor = s.nor := rfl
@[simp] theorem State.setCif_boot (l : Nat) (x : Cif) : (s.setCif l x).boot = s.boot := rfl
@[simp] theorem State.setCif_clk (l : Nat) (x : Cif) : (s.setCif l x).clk = s.clk := rfl
@[simp] theorem State.setCif_bar (l : Nat) (x : Cif) : (s.setCif l x).bar = s.bar := rfl
@[simp] theorem State.setCif_pcie (l : Nat) (x : Cif) : (s.setCif l x).pcie = s.pcie := rfl
@[simp] theorem State.setCif_sessions (l : Nat) (x : Cif) : (s.setCif l x).sessions = s.sessions := rfl
@[simp] theorem State.setCif_gates (l : Nat) (x : Cif) : (s.setCif l x).gates = s.gates := rfl
@[simp] theorem State.setCif_convs (l : Nat) (x : Cif) : (s.setCif l x).convs = s.convs := rfl
@[simp] theorem State.setCif_cellRecords (l : Nat) (x : Cif) : (s.setCif l x).cellRecords = s.cellRecords := rfl
@[simp] theorem State.setCif_factoryTrims (l : Nat) (x : Cif) : (s.setCif l x).factoryTrims = s.factoryTrims := rfl
@[simp] theorem State.setCif_tables (l : Nat) (x : Cif) : (s.setCif l x).tables = s.tables := rfl
@[simp] theorem State.setCif_commits (l : Nat) (x : Cif) : (s.setCif l x).commits = s.commits := rfl
@[simp] theorem State.setCif_millraces (l : Nat) (x : Cif) : (s.setCif l x).millraces = s.millraces := rfl
@[simp] theorem State.setCif_txs (l : Nat) (x : Cif) : (s.setCif l x).txs = s.txs := rfl
@[simp] theorem State.setCif_fecs (l : Nat) (x : Cif) : (s.setCif l x).fecs = s.fecs := rfl
@[simp] theorem State.setCif_lines (l : Nat) (x : Cif) : (s.setCif l x).lines = s.lines := rfl
@[simp] theorem State.setCif_groups (l : Nat) (x : Cif) : (s.setCif l x).groups = s.groups := rfl
@[simp] theorem State.setCif_chans (l : Nat) (x : Cif) : (s.setCif l x).chans = s.chans := rfl
@[simp] theorem State.setCif_cifs (l : Nat) (x : Cif) : (s.setCif l x).cifs = Tab.put {} s.cifs l x := rfl
@[simp] theorem State.setCif_mapq (l : Nat) (x : Cif) : (s.setCif l x).mapq = s.mapq := rfl
@[simp] theorem State.setCif_egressq (l : Nat) (x : Cif) : (s.setCif l x).egressq = s.egressq := rfl
@[simp] theorem State.setCif_lanes (l : Nat) (x : Cif) : (s.setCif l x).lanes = s.lanes := rfl
@[simp] theorem State.setCif_laneTable (l : Nat) (x : Cif) : (s.setCif l x).laneTable = s.laneTable := rfl
@[simp] theorem State.setCif_stamps0 (l : Nat) (x : Cif) : (s.setCif l x).stamps0 = s.stamps0 := rfl
@[simp] theorem State.setCif_stamps1 (l : Nat) (x : Cif) : (s.setCif l x).stamps1 = s.stamps1 := rfl
@[simp] theorem State.setCif_nextPkt (l : Nat) (x : Cif) : (s.setCif l x).nextPkt = s.nextPkt := rfl
@[simp] theorem State.setCif_memory (l : Nat) (x : Cif) : (s.setCif l x).memory = s.memory := rfl
@[simp] theorem State.setCif_cipher (l : Nat) (x : Cif) : (s.setCif l x).cipher = s.cipher := rfl
@[simp] theorem State.setCif_timing (l : Nat) (x : Cif) : (s.setCif l x).timing = s.timing := rfl
@[simp] theorem State.setCif_vault (l : Nat) (x : Cif) : (s.setCif l x).vault = s.vault := rfl
@[simp] theorem State.setCif_bezel (l : Nat) (x : Cif) : (s.setCif l x).bezel = s.bezel := rfl
@[simp] theorem State.setCif_hk (l : Nat) (x : Cif) : (s.setCif l x).hk = s.hk := rfl
@[simp] theorem State.setCif_pins (l : Nat) (x : Cif) : (s.setCif l x).pins = s.pins := rfl
@[simp] theorem State.setCif_tarnish (l : Nat) (x : Cif) : (s.setCif l x).tarnish = s.tarnish := rfl
@[simp] theorem State.setCif_perf (l : Nat) (x : Cif) : (s.setCif l x).perf = s.perf := rfl
@[simp] theorem State.setCif_pm (l : Nat) (x : Cif) : (s.setCif l x).pm = s.pm := rfl

/-! ### `State.setLane` -/

@[simp] theorem State.setLane_pending (l : Nat) (x : Lane) : (s.setLane l x).pending = s.pending := rfl
@[simp] theorem State.setLane_free (l : Nat) (x : Lane) : (s.setLane l x).free = s.free := rfl
@[simp] theorem State.setLane_out (l : Nat) (x : Lane) : (s.setLane l x).out = s.out := rfl
@[simp] theorem State.setLane_tick (l : Nat) (x : Lane) : (s.setLane l x).tick = s.tick := rfl
@[simp] theorem State.setLane_attrs (l : Nat) (x : Lane) : (s.setLane l x).attrs = s.attrs := rfl
@[simp] theorem State.setLane_written (l : Nat) (x : Lane) : (s.setLane l x).written = s.written := rfl
@[simp] theorem State.setLane_fresh (l : Nat) (x : Lane) : (s.setLane l x).fresh = s.fresh := rfl
@[simp] theorem State.setLane_acc (l : Nat) (x : Lane) : (s.setLane l x).acc = s.acc := rfl
@[simp] theorem State.setLane_fuse (l : Nat) (x : Lane) : (s.setLane l x).fuse = s.fuse := rfl
@[simp] theorem State.setLane_power (l : Nat) (x : Lane) : (s.setLane l x).power = s.power := rfl
@[simp] theorem State.setLane_sealed (l : Nat) (x : Lane) : (s.setLane l x).sealed = s.sealed := rfl
@[simp] theorem State.setLane_nor (l : Nat) (x : Lane) : (s.setLane l x).nor = s.nor := rfl
@[simp] theorem State.setLane_boot (l : Nat) (x : Lane) : (s.setLane l x).boot = s.boot := rfl
@[simp] theorem State.setLane_clk (l : Nat) (x : Lane) : (s.setLane l x).clk = s.clk := rfl
@[simp] theorem State.setLane_bar (l : Nat) (x : Lane) : (s.setLane l x).bar = s.bar := rfl
@[simp] theorem State.setLane_pcie (l : Nat) (x : Lane) : (s.setLane l x).pcie = s.pcie := rfl
@[simp] theorem State.setLane_sessions (l : Nat) (x : Lane) : (s.setLane l x).sessions = s.sessions := rfl
@[simp] theorem State.setLane_gates (l : Nat) (x : Lane) : (s.setLane l x).gates = s.gates := rfl
@[simp] theorem State.setLane_convs (l : Nat) (x : Lane) : (s.setLane l x).convs = s.convs := rfl
@[simp] theorem State.setLane_cellRecords (l : Nat) (x : Lane) : (s.setLane l x).cellRecords = s.cellRecords := rfl
@[simp] theorem State.setLane_factoryTrims (l : Nat) (x : Lane) : (s.setLane l x).factoryTrims = s.factoryTrims := rfl
@[simp] theorem State.setLane_tables (l : Nat) (x : Lane) : (s.setLane l x).tables = s.tables := rfl
@[simp] theorem State.setLane_commits (l : Nat) (x : Lane) : (s.setLane l x).commits = s.commits := rfl
@[simp] theorem State.setLane_millraces (l : Nat) (x : Lane) : (s.setLane l x).millraces = s.millraces := rfl
@[simp] theorem State.setLane_txs (l : Nat) (x : Lane) : (s.setLane l x).txs = s.txs := rfl
@[simp] theorem State.setLane_fecs (l : Nat) (x : Lane) : (s.setLane l x).fecs = s.fecs := rfl
@[simp] theorem State.setLane_lines (l : Nat) (x : Lane) : (s.setLane l x).lines = s.lines := rfl
@[simp] theorem State.setLane_groups (l : Nat) (x : Lane) : (s.setLane l x).groups = s.groups := rfl
@[simp] theorem State.setLane_chans (l : Nat) (x : Lane) : (s.setLane l x).chans = s.chans := rfl
@[simp] theorem State.setLane_cifs (l : Nat) (x : Lane) : (s.setLane l x).cifs = s.cifs := rfl
@[simp] theorem State.setLane_mapq (l : Nat) (x : Lane) : (s.setLane l x).mapq = s.mapq := rfl
@[simp] theorem State.setLane_egressq (l : Nat) (x : Lane) : (s.setLane l x).egressq = s.egressq := rfl
@[simp] theorem State.setLane_lanes (l : Nat) (x : Lane) : (s.setLane l x).lanes = Tab.put {} s.lanes l x := rfl
@[simp] theorem State.setLane_laneTable (l : Nat) (x : Lane) : (s.setLane l x).laneTable = s.laneTable := rfl
@[simp] theorem State.setLane_stamps0 (l : Nat) (x : Lane) : (s.setLane l x).stamps0 = s.stamps0 := rfl
@[simp] theorem State.setLane_stamps1 (l : Nat) (x : Lane) : (s.setLane l x).stamps1 = s.stamps1 := rfl
@[simp] theorem State.setLane_nextPkt (l : Nat) (x : Lane) : (s.setLane l x).nextPkt = s.nextPkt := rfl
@[simp] theorem State.setLane_memory (l : Nat) (x : Lane) : (s.setLane l x).memory = s.memory := rfl
@[simp] theorem State.setLane_cipher (l : Nat) (x : Lane) : (s.setLane l x).cipher = s.cipher := rfl
@[simp] theorem State.setLane_timing (l : Nat) (x : Lane) : (s.setLane l x).timing = s.timing := rfl
@[simp] theorem State.setLane_vault (l : Nat) (x : Lane) : (s.setLane l x).vault = s.vault := rfl
@[simp] theorem State.setLane_bezel (l : Nat) (x : Lane) : (s.setLane l x).bezel = s.bezel := rfl
@[simp] theorem State.setLane_hk (l : Nat) (x : Lane) : (s.setLane l x).hk = s.hk := rfl
@[simp] theorem State.setLane_pins (l : Nat) (x : Lane) : (s.setLane l x).pins = s.pins := rfl
@[simp] theorem State.setLane_tarnish (l : Nat) (x : Lane) : (s.setLane l x).tarnish = s.tarnish := rfl
@[simp] theorem State.setLane_perf (l : Nat) (x : Lane) : (s.setLane l x).perf = s.perf := rfl
@[simp] theorem State.setLane_pm (l : Nat) (x : Lane) : (s.setLane l x).pm = s.pm := rfl

/-! ### `State.setTarn` -/

@[simp] theorem State.setTarn_pending (d : Nat) (x : TarnDomain) : (s.setTarn d x).pending = s.pending := rfl
@[simp] theorem State.setTarn_free (d : Nat) (x : TarnDomain) : (s.setTarn d x).free = s.free := rfl
@[simp] theorem State.setTarn_out (d : Nat) (x : TarnDomain) : (s.setTarn d x).out = s.out := rfl
@[simp] theorem State.setTarn_tick (d : Nat) (x : TarnDomain) : (s.setTarn d x).tick = s.tick := rfl
@[simp] theorem State.setTarn_attrs (d : Nat) (x : TarnDomain) : (s.setTarn d x).attrs = s.attrs := rfl
@[simp] theorem State.setTarn_written (d : Nat) (x : TarnDomain) : (s.setTarn d x).written = s.written := rfl
@[simp] theorem State.setTarn_fresh (d : Nat) (x : TarnDomain) : (s.setTarn d x).fresh = s.fresh := rfl
@[simp] theorem State.setTarn_acc (d : Nat) (x : TarnDomain) : (s.setTarn d x).acc = s.acc := rfl
@[simp] theorem State.setTarn_fuse (d : Nat) (x : TarnDomain) : (s.setTarn d x).fuse = s.fuse := rfl
@[simp] theorem State.setTarn_power (d : Nat) (x : TarnDomain) : (s.setTarn d x).power = s.power := rfl
@[simp] theorem State.setTarn_sealed (d : Nat) (x : TarnDomain) : (s.setTarn d x).sealed = s.sealed := rfl
@[simp] theorem State.setTarn_nor (d : Nat) (x : TarnDomain) : (s.setTarn d x).nor = s.nor := rfl
@[simp] theorem State.setTarn_boot (d : Nat) (x : TarnDomain) : (s.setTarn d x).boot = s.boot := rfl
@[simp] theorem State.setTarn_clk (d : Nat) (x : TarnDomain) : (s.setTarn d x).clk = s.clk := rfl
@[simp] theorem State.setTarn_bar (d : Nat) (x : TarnDomain) : (s.setTarn d x).bar = s.bar := rfl
@[simp] theorem State.setTarn_pcie (d : Nat) (x : TarnDomain) : (s.setTarn d x).pcie = s.pcie := rfl
@[simp] theorem State.setTarn_sessions (d : Nat) (x : TarnDomain) : (s.setTarn d x).sessions = s.sessions := rfl
@[simp] theorem State.setTarn_gates (d : Nat) (x : TarnDomain) : (s.setTarn d x).gates = s.gates := rfl
@[simp] theorem State.setTarn_convs (d : Nat) (x : TarnDomain) : (s.setTarn d x).convs = s.convs := rfl
@[simp] theorem State.setTarn_cellRecords (d : Nat) (x : TarnDomain) : (s.setTarn d x).cellRecords = s.cellRecords := rfl
@[simp] theorem State.setTarn_factoryTrims (d : Nat) (x : TarnDomain) : (s.setTarn d x).factoryTrims = s.factoryTrims := rfl
@[simp] theorem State.setTarn_tables (d : Nat) (x : TarnDomain) : (s.setTarn d x).tables = s.tables := rfl
@[simp] theorem State.setTarn_commits (d : Nat) (x : TarnDomain) : (s.setTarn d x).commits = s.commits := rfl
@[simp] theorem State.setTarn_millraces (d : Nat) (x : TarnDomain) : (s.setTarn d x).millraces = s.millraces := rfl
@[simp] theorem State.setTarn_txs (d : Nat) (x : TarnDomain) : (s.setTarn d x).txs = s.txs := rfl
@[simp] theorem State.setTarn_fecs (d : Nat) (x : TarnDomain) : (s.setTarn d x).fecs = s.fecs := rfl
@[simp] theorem State.setTarn_lines (d : Nat) (x : TarnDomain) : (s.setTarn d x).lines = s.lines := rfl
@[simp] theorem State.setTarn_groups (d : Nat) (x : TarnDomain) : (s.setTarn d x).groups = s.groups := rfl
@[simp] theorem State.setTarn_chans (d : Nat) (x : TarnDomain) : (s.setTarn d x).chans = s.chans := rfl
@[simp] theorem State.setTarn_cifs (d : Nat) (x : TarnDomain) : (s.setTarn d x).cifs = s.cifs := rfl
@[simp] theorem State.setTarn_mapq (d : Nat) (x : TarnDomain) : (s.setTarn d x).mapq = s.mapq := rfl
@[simp] theorem State.setTarn_egressq (d : Nat) (x : TarnDomain) : (s.setTarn d x).egressq = s.egressq := rfl
@[simp] theorem State.setTarn_lanes (d : Nat) (x : TarnDomain) : (s.setTarn d x).lanes = s.lanes := rfl
@[simp] theorem State.setTarn_laneTable (d : Nat) (x : TarnDomain) : (s.setTarn d x).laneTable = s.laneTable := rfl
@[simp] theorem State.setTarn_stamps0 (d : Nat) (x : TarnDomain) : (s.setTarn d x).stamps0 = s.stamps0 := rfl
@[simp] theorem State.setTarn_stamps1 (d : Nat) (x : TarnDomain) : (s.setTarn d x).stamps1 = s.stamps1 := rfl
@[simp] theorem State.setTarn_nextPkt (d : Nat) (x : TarnDomain) : (s.setTarn d x).nextPkt = s.nextPkt := rfl
@[simp] theorem State.setTarn_memory (d : Nat) (x : TarnDomain) : (s.setTarn d x).memory = s.memory := rfl
@[simp] theorem State.setTarn_cipher (d : Nat) (x : TarnDomain) : (s.setTarn d x).cipher = s.cipher := rfl
@[simp] theorem State.setTarn_timing (d : Nat) (x : TarnDomain) : (s.setTarn d x).timing = s.timing := rfl
@[simp] theorem State.setTarn_vault (d : Nat) (x : TarnDomain) : (s.setTarn d x).vault = s.vault := rfl
@[simp] theorem State.setTarn_bezel (d : Nat) (x : TarnDomain) : (s.setTarn d x).bezel = s.bezel := rfl
@[simp] theorem State.setTarn_hk (d : Nat) (x : TarnDomain) : (s.setTarn d x).hk = s.hk := rfl
@[simp] theorem State.setTarn_pins (d : Nat) (x : TarnDomain) : (s.setTarn d x).pins = s.pins := rfl
@[simp] theorem State.setTarn_perf (d : Nat) (x : TarnDomain) : (s.setTarn d x).perf = s.perf := rfl
@[simp] theorem State.setTarn_pm (d : Nat) (x : TarnDomain) : (s.setTarn d x).pm = s.pm := rfl

/-! ### `dramStore` -/

@[simp] theorem dramStore_pending (a : Nat) (d : List Byte) : (dramStore a d s).pending = s.pending := rfl
@[simp] theorem dramStore_free (a : Nat) (d : List Byte) : (dramStore a d s).free = s.free := rfl
@[simp] theorem dramStore_out (a : Nat) (d : List Byte) : (dramStore a d s).out = s.out := rfl
@[simp] theorem dramStore_tick (a : Nat) (d : List Byte) : (dramStore a d s).tick = s.tick := rfl
@[simp] theorem dramStore_attrs (a : Nat) (d : List Byte) : (dramStore a d s).attrs = s.attrs := rfl
@[simp] theorem dramStore_written (a : Nat) (d : List Byte) : (dramStore a d s).written = s.written := rfl
@[simp] theorem dramStore_fresh (a : Nat) (d : List Byte) : (dramStore a d s).fresh = s.fresh := rfl
@[simp] theorem dramStore_acc (a : Nat) (d : List Byte) : (dramStore a d s).acc = s.acc := rfl
@[simp] theorem dramStore_fuse (a : Nat) (d : List Byte) : (dramStore a d s).fuse = s.fuse := rfl
@[simp] theorem dramStore_power (a : Nat) (d : List Byte) : (dramStore a d s).power = s.power := rfl
@[simp] theorem dramStore_sealed (a : Nat) (d : List Byte) : (dramStore a d s).sealed = s.sealed := rfl
@[simp] theorem dramStore_nor (a : Nat) (d : List Byte) : (dramStore a d s).nor = s.nor := rfl
@[simp] theorem dramStore_boot (a : Nat) (d : List Byte) : (dramStore a d s).boot = s.boot := rfl
@[simp] theorem dramStore_clk (a : Nat) (d : List Byte) : (dramStore a d s).clk = s.clk := rfl
@[simp] theorem dramStore_bar (a : Nat) (d : List Byte) : (dramStore a d s).bar = s.bar := rfl
@[simp] theorem dramStore_pcie (a : Nat) (d : List Byte) : (dramStore a d s).pcie = s.pcie := rfl
@[simp] theorem dramStore_sessions (a : Nat) (d : List Byte) : (dramStore a d s).sessions = s.sessions := rfl
@[simp] theorem dramStore_gates (a : Nat) (d : List Byte) : (dramStore a d s).gates = s.gates := rfl
@[simp] theorem dramStore_convs (a : Nat) (d : List Byte) : (dramStore a d s).convs = s.convs := rfl
@[simp] theorem dramStore_cellRecords (a : Nat) (d : List Byte) : (dramStore a d s).cellRecords = s.cellRecords := rfl
@[simp] theorem dramStore_factoryTrims (a : Nat) (d : List Byte) : (dramStore a d s).factoryTrims = s.factoryTrims := rfl
@[simp] theorem dramStore_tables (a : Nat) (d : List Byte) : (dramStore a d s).tables = s.tables := rfl
@[simp] theorem dramStore_commits (a : Nat) (d : List Byte) : (dramStore a d s).commits = s.commits := rfl
@[simp] theorem dramStore_millraces (a : Nat) (d : List Byte) : (dramStore a d s).millraces = s.millraces := rfl
@[simp] theorem dramStore_txs (a : Nat) (d : List Byte) : (dramStore a d s).txs = s.txs := rfl
@[simp] theorem dramStore_fecs (a : Nat) (d : List Byte) : (dramStore a d s).fecs = s.fecs := rfl
@[simp] theorem dramStore_lines (a : Nat) (d : List Byte) : (dramStore a d s).lines = s.lines := rfl
@[simp] theorem dramStore_groups (a : Nat) (d : List Byte) : (dramStore a d s).groups = s.groups := rfl
@[simp] theorem dramStore_chans (a : Nat) (d : List Byte) : (dramStore a d s).chans = s.chans := rfl
@[simp] theorem dramStore_cifs (a : Nat) (d : List Byte) : (dramStore a d s).cifs = s.cifs := rfl
@[simp] theorem dramStore_mapq (a : Nat) (d : List Byte) : (dramStore a d s).mapq = s.mapq := rfl
@[simp] theorem dramStore_egressq (a : Nat) (d : List Byte) : (dramStore a d s).egressq = s.egressq := rfl
@[simp] theorem dramStore_lanes (a : Nat) (d : List Byte) : (dramStore a d s).lanes = s.lanes := rfl
@[simp] theorem dramStore_laneTable (a : Nat) (d : List Byte) : (dramStore a d s).laneTable = s.laneTable := rfl
@[simp] theorem dramStore_stamps0 (a : Nat) (d : List Byte) : (dramStore a d s).stamps0 = s.stamps0 := rfl
@[simp] theorem dramStore_stamps1 (a : Nat) (d : List Byte) : (dramStore a d s).stamps1 = s.stamps1 := rfl
@[simp] theorem dramStore_nextPkt (a : Nat) (d : List Byte) : (dramStore a d s).nextPkt = s.nextPkt := rfl
@[simp] theorem dramStore_cipher (a : Nat) (d : List Byte) : (dramStore a d s).cipher = s.cipher := rfl
@[simp] theorem dramStore_timing (a : Nat) (d : List Byte) : (dramStore a d s).timing = s.timing := rfl
@[simp] theorem dramStore_vault (a : Nat) (d : List Byte) : (dramStore a d s).vault = s.vault := rfl
@[simp] theorem dramStore_bezel (a : Nat) (d : List Byte) : (dramStore a d s).bezel = s.bezel := rfl
@[simp] theorem dramStore_hk (a : Nat) (d : List Byte) : (dramStore a d s).hk = s.hk := rfl
@[simp] theorem dramStore_pins (a : Nat) (d : List Byte) : (dramStore a d s).pins = s.pins := rfl
@[simp] theorem dramStore_tarnish (a : Nat) (d : List Byte) : (dramStore a d s).tarnish = s.tarnish := rfl
@[simp] theorem dramStore_perf (a : Nat) (d : List Byte) : (dramStore a d s).perf = s.perf := rfl
@[simp] theorem dramStore_pm (a : Nat) (d : List Byte) : (dramStore a d s).pm = s.pm := rfl

/-! ### `updMemory` -/

@[simp] theorem updMemory_pending (f : Memory → Memory) : (updMemory f s).pending = s.pending := rfl
@[simp] theorem updMemory_free (f : Memory → Memory) : (updMemory f s).free = s.free := rfl
@[simp] theorem updMemory_out (f : Memory → Memory) : (updMemory f s).out = s.out := rfl
@[simp] theorem updMemory_tick (f : Memory → Memory) : (updMemory f s).tick = s.tick := rfl
@[simp] theorem updMemory_attrs (f : Memory → Memory) : (updMemory f s).attrs = s.attrs := rfl
@[simp] theorem updMemory_written (f : Memory → Memory) : (updMemory f s).written = s.written := rfl
@[simp] theorem updMemory_fresh (f : Memory → Memory) : (updMemory f s).fresh = s.fresh := rfl
@[simp] theorem updMemory_acc (f : Memory → Memory) : (updMemory f s).acc = s.acc := rfl
@[simp] theorem updMemory_fuse (f : Memory → Memory) : (updMemory f s).fuse = s.fuse := rfl
@[simp] theorem updMemory_power (f : Memory → Memory) : (updMemory f s).power = s.power := rfl
@[simp] theorem updMemory_sealed (f : Memory → Memory) : (updMemory f s).sealed = s.sealed := rfl
@[simp] theorem updMemory_nor (f : Memory → Memory) : (updMemory f s).nor = s.nor := rfl
@[simp] theorem updMemory_boot (f : Memory → Memory) : (updMemory f s).boot = s.boot := rfl
@[simp] theorem updMemory_clk (f : Memory → Memory) : (updMemory f s).clk = s.clk := rfl
@[simp] theorem updMemory_bar (f : Memory → Memory) : (updMemory f s).bar = s.bar := rfl
@[simp] theorem updMemory_pcie (f : Memory → Memory) : (updMemory f s).pcie = s.pcie := rfl
@[simp] theorem updMemory_sessions (f : Memory → Memory) : (updMemory f s).sessions = s.sessions := rfl
@[simp] theorem updMemory_gates (f : Memory → Memory) : (updMemory f s).gates = s.gates := rfl
@[simp] theorem updMemory_convs (f : Memory → Memory) : (updMemory f s).convs = s.convs := rfl
@[simp] theorem updMemory_cellRecords (f : Memory → Memory) : (updMemory f s).cellRecords = s.cellRecords := rfl
@[simp] theorem updMemory_factoryTrims (f : Memory → Memory) : (updMemory f s).factoryTrims = s.factoryTrims := rfl
@[simp] theorem updMemory_tables (f : Memory → Memory) : (updMemory f s).tables = s.tables := rfl
@[simp] theorem updMemory_commits (f : Memory → Memory) : (updMemory f s).commits = s.commits := rfl
@[simp] theorem updMemory_millraces (f : Memory → Memory) : (updMemory f s).millraces = s.millraces := rfl
@[simp] theorem updMemory_txs (f : Memory → Memory) : (updMemory f s).txs = s.txs := rfl
@[simp] theorem updMemory_fecs (f : Memory → Memory) : (updMemory f s).fecs = s.fecs := rfl
@[simp] theorem updMemory_lines (f : Memory → Memory) : (updMemory f s).lines = s.lines := rfl
@[simp] theorem updMemory_groups (f : Memory → Memory) : (updMemory f s).groups = s.groups := rfl
@[simp] theorem updMemory_chans (f : Memory → Memory) : (updMemory f s).chans = s.chans := rfl
@[simp] theorem updMemory_cifs (f : Memory → Memory) : (updMemory f s).cifs = s.cifs := rfl
@[simp] theorem updMemory_mapq (f : Memory → Memory) : (updMemory f s).mapq = s.mapq := rfl
@[simp] theorem updMemory_egressq (f : Memory → Memory) : (updMemory f s).egressq = s.egressq := rfl
@[simp] theorem updMemory_lanes (f : Memory → Memory) : (updMemory f s).lanes = s.lanes := rfl
@[simp] theorem updMemory_laneTable (f : Memory → Memory) : (updMemory f s).laneTable = s.laneTable := rfl
@[simp] theorem updMemory_stamps0 (f : Memory → Memory) : (updMemory f s).stamps0 = s.stamps0 := rfl
@[simp] theorem updMemory_stamps1 (f : Memory → Memory) : (updMemory f s).stamps1 = s.stamps1 := rfl
@[simp] theorem updMemory_nextPkt (f : Memory → Memory) : (updMemory f s).nextPkt = s.nextPkt := rfl
@[simp] theorem updMemory_memory (f : Memory → Memory) : (updMemory f s).memory = f s.memory := rfl
@[simp] theorem updMemory_cipher (f : Memory → Memory) : (updMemory f s).cipher = s.cipher := rfl
@[simp] theorem updMemory_timing (f : Memory → Memory) : (updMemory f s).timing = s.timing := rfl
@[simp] theorem updMemory_vault (f : Memory → Memory) : (updMemory f s).vault = s.vault := rfl
@[simp] theorem updMemory_bezel (f : Memory → Memory) : (updMemory f s).bezel = s.bezel := rfl
@[simp] theorem updMemory_hk (f : Memory → Memory) : (updMemory f s).hk = s.hk := rfl
@[simp] theorem updMemory_pins (f : Memory → Memory) : (updMemory f s).pins = s.pins := rfl
@[simp] theorem updMemory_tarnish (f : Memory → Memory) : (updMemory f s).tarnish = s.tarnish := rfl
@[simp] theorem updMemory_perf (f : Memory → Memory) : (updMemory f s).perf = s.perf := rfl
@[simp] theorem updMemory_pm (f : Memory → Memory) : (updMemory f s).pm = s.pm := rfl

/-! ### `updCipher` -/

@[simp] theorem updCipher_pending (f : Cipher → Cipher) : (updCipher f s).pending = s.pending := rfl
@[simp] theorem updCipher_free (f : Cipher → Cipher) : (updCipher f s).free = s.free := rfl
@[simp] theorem updCipher_out (f : Cipher → Cipher) : (updCipher f s).out = s.out := rfl
@[simp] theorem updCipher_tick (f : Cipher → Cipher) : (updCipher f s).tick = s.tick := rfl
@[simp] theorem updCipher_attrs (f : Cipher → Cipher) : (updCipher f s).attrs = s.attrs := rfl
@[simp] theorem updCipher_written (f : Cipher → Cipher) : (updCipher f s).written = s.written := rfl
@[simp] theorem updCipher_fresh (f : Cipher → Cipher) : (updCipher f s).fresh = s.fresh := rfl
@[simp] theorem updCipher_acc (f : Cipher → Cipher) : (updCipher f s).acc = s.acc := rfl
@[simp] theorem updCipher_fuse (f : Cipher → Cipher) : (updCipher f s).fuse = s.fuse := rfl
@[simp] theorem updCipher_power (f : Cipher → Cipher) : (updCipher f s).power = s.power := rfl
@[simp] theorem updCipher_sealed (f : Cipher → Cipher) : (updCipher f s).sealed = s.sealed := rfl
@[simp] theorem updCipher_nor (f : Cipher → Cipher) : (updCipher f s).nor = s.nor := rfl
@[simp] theorem updCipher_boot (f : Cipher → Cipher) : (updCipher f s).boot = s.boot := rfl
@[simp] theorem updCipher_clk (f : Cipher → Cipher) : (updCipher f s).clk = s.clk := rfl
@[simp] theorem updCipher_bar (f : Cipher → Cipher) : (updCipher f s).bar = s.bar := rfl
@[simp] theorem updCipher_pcie (f : Cipher → Cipher) : (updCipher f s).pcie = s.pcie := rfl
@[simp] theorem updCipher_sessions (f : Cipher → Cipher) : (updCipher f s).sessions = s.sessions := rfl
@[simp] theorem updCipher_gates (f : Cipher → Cipher) : (updCipher f s).gates = s.gates := rfl
@[simp] theorem updCipher_convs (f : Cipher → Cipher) : (updCipher f s).convs = s.convs := rfl
@[simp] theorem updCipher_cellRecords (f : Cipher → Cipher) : (updCipher f s).cellRecords = s.cellRecords := rfl
@[simp] theorem updCipher_factoryTrims (f : Cipher → Cipher) : (updCipher f s).factoryTrims = s.factoryTrims := rfl
@[simp] theorem updCipher_tables (f : Cipher → Cipher) : (updCipher f s).tables = s.tables := rfl
@[simp] theorem updCipher_commits (f : Cipher → Cipher) : (updCipher f s).commits = s.commits := rfl
@[simp] theorem updCipher_millraces (f : Cipher → Cipher) : (updCipher f s).millraces = s.millraces := rfl
@[simp] theorem updCipher_txs (f : Cipher → Cipher) : (updCipher f s).txs = s.txs := rfl
@[simp] theorem updCipher_fecs (f : Cipher → Cipher) : (updCipher f s).fecs = s.fecs := rfl
@[simp] theorem updCipher_lines (f : Cipher → Cipher) : (updCipher f s).lines = s.lines := rfl
@[simp] theorem updCipher_groups (f : Cipher → Cipher) : (updCipher f s).groups = s.groups := rfl
@[simp] theorem updCipher_chans (f : Cipher → Cipher) : (updCipher f s).chans = s.chans := rfl
@[simp] theorem updCipher_cifs (f : Cipher → Cipher) : (updCipher f s).cifs = s.cifs := rfl
@[simp] theorem updCipher_mapq (f : Cipher → Cipher) : (updCipher f s).mapq = s.mapq := rfl
@[simp] theorem updCipher_egressq (f : Cipher → Cipher) : (updCipher f s).egressq = s.egressq := rfl
@[simp] theorem updCipher_lanes (f : Cipher → Cipher) : (updCipher f s).lanes = s.lanes := rfl
@[simp] theorem updCipher_laneTable (f : Cipher → Cipher) : (updCipher f s).laneTable = s.laneTable := rfl
@[simp] theorem updCipher_stamps0 (f : Cipher → Cipher) : (updCipher f s).stamps0 = s.stamps0 := rfl
@[simp] theorem updCipher_stamps1 (f : Cipher → Cipher) : (updCipher f s).stamps1 = s.stamps1 := rfl
@[simp] theorem updCipher_nextPkt (f : Cipher → Cipher) : (updCipher f s).nextPkt = s.nextPkt := rfl
@[simp] theorem updCipher_memory (f : Cipher → Cipher) : (updCipher f s).memory = s.memory := rfl
@[simp] theorem updCipher_cipher (f : Cipher → Cipher) : (updCipher f s).cipher = f s.cipher := rfl
@[simp] theorem updCipher_timing (f : Cipher → Cipher) : (updCipher f s).timing = s.timing := rfl
@[simp] theorem updCipher_vault (f : Cipher → Cipher) : (updCipher f s).vault = s.vault := rfl
@[simp] theorem updCipher_bezel (f : Cipher → Cipher) : (updCipher f s).bezel = s.bezel := rfl
@[simp] theorem updCipher_hk (f : Cipher → Cipher) : (updCipher f s).hk = s.hk := rfl
@[simp] theorem updCipher_pins (f : Cipher → Cipher) : (updCipher f s).pins = s.pins := rfl
@[simp] theorem updCipher_tarnish (f : Cipher → Cipher) : (updCipher f s).tarnish = s.tarnish := rfl
@[simp] theorem updCipher_perf (f : Cipher → Cipher) : (updCipher f s).perf = s.perf := rfl
@[simp] theorem updCipher_pm (f : Cipher → Cipher) : (updCipher f s).pm = s.pm := rfl

/-! ### `updVault` -/

@[simp] theorem updVault_pending (f : Vault → Vault) : (updVault f s).pending = s.pending := rfl
@[simp] theorem updVault_free (f : Vault → Vault) : (updVault f s).free = s.free := rfl
@[simp] theorem updVault_out (f : Vault → Vault) : (updVault f s).out = s.out := rfl
@[simp] theorem updVault_tick (f : Vault → Vault) : (updVault f s).tick = s.tick := rfl
@[simp] theorem updVault_attrs (f : Vault → Vault) : (updVault f s).attrs = s.attrs := rfl
@[simp] theorem updVault_written (f : Vault → Vault) : (updVault f s).written = s.written := rfl
@[simp] theorem updVault_fresh (f : Vault → Vault) : (updVault f s).fresh = s.fresh := rfl
@[simp] theorem updVault_acc (f : Vault → Vault) : (updVault f s).acc = s.acc := rfl
@[simp] theorem updVault_fuse (f : Vault → Vault) : (updVault f s).fuse = s.fuse := rfl
@[simp] theorem updVault_power (f : Vault → Vault) : (updVault f s).power = s.power := rfl
@[simp] theorem updVault_sealed (f : Vault → Vault) : (updVault f s).sealed = s.sealed := rfl
@[simp] theorem updVault_nor (f : Vault → Vault) : (updVault f s).nor = s.nor := rfl
@[simp] theorem updVault_boot (f : Vault → Vault) : (updVault f s).boot = s.boot := rfl
@[simp] theorem updVault_clk (f : Vault → Vault) : (updVault f s).clk = s.clk := rfl
@[simp] theorem updVault_bar (f : Vault → Vault) : (updVault f s).bar = s.bar := rfl
@[simp] theorem updVault_pcie (f : Vault → Vault) : (updVault f s).pcie = s.pcie := rfl
@[simp] theorem updVault_sessions (f : Vault → Vault) : (updVault f s).sessions = s.sessions := rfl
@[simp] theorem updVault_gates (f : Vault → Vault) : (updVault f s).gates = s.gates := rfl
@[simp] theorem updVault_convs (f : Vault → Vault) : (updVault f s).convs = s.convs := rfl
@[simp] theorem updVault_cellRecords (f : Vault → Vault) : (updVault f s).cellRecords = s.cellRecords := rfl
@[simp] theorem updVault_factoryTrims (f : Vault → Vault) : (updVault f s).factoryTrims = s.factoryTrims := rfl
@[simp] theorem updVault_tables (f : Vault → Vault) : (updVault f s).tables = s.tables := rfl
@[simp] theorem updVault_commits (f : Vault → Vault) : (updVault f s).commits = s.commits := rfl
@[simp] theorem updVault_millraces (f : Vault → Vault) : (updVault f s).millraces = s.millraces := rfl
@[simp] theorem updVault_txs (f : Vault → Vault) : (updVault f s).txs = s.txs := rfl
@[simp] theorem updVault_fecs (f : Vault → Vault) : (updVault f s).fecs = s.fecs := rfl
@[simp] theorem updVault_lines (f : Vault → Vault) : (updVault f s).lines = s.lines := rfl
@[simp] theorem updVault_groups (f : Vault → Vault) : (updVault f s).groups = s.groups := rfl
@[simp] theorem updVault_chans (f : Vault → Vault) : (updVault f s).chans = s.chans := rfl
@[simp] theorem updVault_cifs (f : Vault → Vault) : (updVault f s).cifs = s.cifs := rfl
@[simp] theorem updVault_mapq (f : Vault → Vault) : (updVault f s).mapq = s.mapq := rfl
@[simp] theorem updVault_egressq (f : Vault → Vault) : (updVault f s).egressq = s.egressq := rfl
@[simp] theorem updVault_lanes (f : Vault → Vault) : (updVault f s).lanes = s.lanes := rfl
@[simp] theorem updVault_laneTable (f : Vault → Vault) : (updVault f s).laneTable = s.laneTable := rfl
@[simp] theorem updVault_stamps0 (f : Vault → Vault) : (updVault f s).stamps0 = s.stamps0 := rfl
@[simp] theorem updVault_stamps1 (f : Vault → Vault) : (updVault f s).stamps1 = s.stamps1 := rfl
@[simp] theorem updVault_nextPkt (f : Vault → Vault) : (updVault f s).nextPkt = s.nextPkt := rfl
@[simp] theorem updVault_memory (f : Vault → Vault) : (updVault f s).memory = s.memory := rfl
@[simp] theorem updVault_cipher (f : Vault → Vault) : (updVault f s).cipher = s.cipher := rfl
@[simp] theorem updVault_timing (f : Vault → Vault) : (updVault f s).timing = s.timing := rfl
@[simp] theorem updVault_vault (f : Vault → Vault) : (updVault f s).vault = f s.vault := rfl
@[simp] theorem updVault_bezel (f : Vault → Vault) : (updVault f s).bezel = s.bezel := rfl
@[simp] theorem updVault_hk (f : Vault → Vault) : (updVault f s).hk = s.hk := rfl
@[simp] theorem updVault_pins (f : Vault → Vault) : (updVault f s).pins = s.pins := rfl
@[simp] theorem updVault_tarnish (f : Vault → Vault) : (updVault f s).tarnish = s.tarnish := rfl
@[simp] theorem updVault_perf (f : Vault → Vault) : (updVault f s).perf = s.perf := rfl
@[simp] theorem updVault_pm (f : Vault → Vault) : (updVault f s).pm = s.pm := rfl

/-! ### `updTiming` -/

@[simp] theorem updTiming_pending (f : Timing → Timing) : (updTiming f s).pending = s.pending := rfl
@[simp] theorem updTiming_free (f : Timing → Timing) : (updTiming f s).free = s.free := rfl
@[simp] theorem updTiming_out (f : Timing → Timing) : (updTiming f s).out = s.out := rfl
@[simp] theorem updTiming_tick (f : Timing → Timing) : (updTiming f s).tick = s.tick := rfl
@[simp] theorem updTiming_attrs (f : Timing → Timing) : (updTiming f s).attrs = s.attrs := rfl
@[simp] theorem updTiming_written (f : Timing → Timing) : (updTiming f s).written = s.written := rfl
@[simp] theorem updTiming_fresh (f : Timing → Timing) : (updTiming f s).fresh = s.fresh := rfl
@[simp] theorem updTiming_acc (f : Timing → Timing) : (updTiming f s).acc = s.acc := rfl
@[simp] theorem updTiming_fuse (f : Timing → Timing) : (updTiming f s).fuse = s.fuse := rfl
@[simp] theorem updTiming_power (f : Timing → Timing) : (updTiming f s).power = s.power := rfl
@[simp] theorem updTiming_sealed (f : Timing → Timing) : (updTiming f s).sealed = s.sealed := rfl
@[simp] theorem updTiming_nor (f : Timing → Timing) : (updTiming f s).nor = s.nor := rfl
@[simp] theorem updTiming_boot (f : Timing → Timing) : (updTiming f s).boot = s.boot := rfl
@[simp] theorem updTiming_clk (f : Timing → Timing) : (updTiming f s).clk = s.clk := rfl
@[simp] theorem updTiming_bar (f : Timing → Timing) : (updTiming f s).bar = s.bar := rfl
@[simp] theorem updTiming_pcie (f : Timing → Timing) : (updTiming f s).pcie = s.pcie := rfl
@[simp] theorem updTiming_sessions (f : Timing → Timing) : (updTiming f s).sessions = s.sessions := rfl
@[simp] theorem updTiming_gates (f : Timing → Timing) : (updTiming f s).gates = s.gates := rfl
@[simp] theorem updTiming_convs (f : Timing → Timing) : (updTiming f s).convs = s.convs := rfl
@[simp] theorem updTiming_cellRecords (f : Timing → Timing) : (updTiming f s).cellRecords = s.cellRecords := rfl
@[simp] theorem updTiming_factoryTrims (f : Timing → Timing) : (updTiming f s).factoryTrims = s.factoryTrims := rfl
@[simp] theorem updTiming_tables (f : Timing → Timing) : (updTiming f s).tables = s.tables := rfl
@[simp] theorem updTiming_commits (f : Timing → Timing) : (updTiming f s).commits = s.commits := rfl
@[simp] theorem updTiming_millraces (f : Timing → Timing) : (updTiming f s).millraces = s.millraces := rfl
@[simp] theorem updTiming_txs (f : Timing → Timing) : (updTiming f s).txs = s.txs := rfl
@[simp] theorem updTiming_fecs (f : Timing → Timing) : (updTiming f s).fecs = s.fecs := rfl
@[simp] theorem updTiming_lines (f : Timing → Timing) : (updTiming f s).lines = s.lines := rfl
@[simp] theorem updTiming_groups (f : Timing → Timing) : (updTiming f s).groups = s.groups := rfl
@[simp] theorem updTiming_chans (f : Timing → Timing) : (updTiming f s).chans = s.chans := rfl
@[simp] theorem updTiming_cifs (f : Timing → Timing) : (updTiming f s).cifs = s.cifs := rfl
@[simp] theorem updTiming_mapq (f : Timing → Timing) : (updTiming f s).mapq = s.mapq := rfl
@[simp] theorem updTiming_egressq (f : Timing → Timing) : (updTiming f s).egressq = s.egressq := rfl
@[simp] theorem updTiming_lanes (f : Timing → Timing) : (updTiming f s).lanes = s.lanes := rfl
@[simp] theorem updTiming_laneTable (f : Timing → Timing) : (updTiming f s).laneTable = s.laneTable := rfl
@[simp] theorem updTiming_stamps0 (f : Timing → Timing) : (updTiming f s).stamps0 = s.stamps0 := rfl
@[simp] theorem updTiming_stamps1 (f : Timing → Timing) : (updTiming f s).stamps1 = s.stamps1 := rfl
@[simp] theorem updTiming_nextPkt (f : Timing → Timing) : (updTiming f s).nextPkt = s.nextPkt := rfl
@[simp] theorem updTiming_memory (f : Timing → Timing) : (updTiming f s).memory = s.memory := rfl
@[simp] theorem updTiming_cipher (f : Timing → Timing) : (updTiming f s).cipher = s.cipher := rfl
@[simp] theorem updTiming_timing (f : Timing → Timing) : (updTiming f s).timing = f s.timing := rfl
@[simp] theorem updTiming_vault (f : Timing → Timing) : (updTiming f s).vault = s.vault := rfl
@[simp] theorem updTiming_bezel (f : Timing → Timing) : (updTiming f s).bezel = s.bezel := rfl
@[simp] theorem updTiming_hk (f : Timing → Timing) : (updTiming f s).hk = s.hk := rfl
@[simp] theorem updTiming_pins (f : Timing → Timing) : (updTiming f s).pins = s.pins := rfl
@[simp] theorem updTiming_tarnish (f : Timing → Timing) : (updTiming f s).tarnish = s.tarnish := rfl
@[simp] theorem updTiming_perf (f : Timing → Timing) : (updTiming f s).perf = s.perf := rfl
@[simp] theorem updTiming_pm (f : Timing → Timing) : (updTiming f s).pm = s.pm := rfl

/-! ### `updBezel` -/

@[simp] theorem updBezel_pending (f : Bezel → Bezel) : (updBezel f s).pending = s.pending := rfl
@[simp] theorem updBezel_free (f : Bezel → Bezel) : (updBezel f s).free = s.free := rfl
@[simp] theorem updBezel_out (f : Bezel → Bezel) : (updBezel f s).out = s.out := rfl
@[simp] theorem updBezel_tick (f : Bezel → Bezel) : (updBezel f s).tick = s.tick := rfl
@[simp] theorem updBezel_attrs (f : Bezel → Bezel) : (updBezel f s).attrs = s.attrs := rfl
@[simp] theorem updBezel_written (f : Bezel → Bezel) : (updBezel f s).written = s.written := rfl
@[simp] theorem updBezel_fresh (f : Bezel → Bezel) : (updBezel f s).fresh = s.fresh := rfl
@[simp] theorem updBezel_acc (f : Bezel → Bezel) : (updBezel f s).acc = s.acc := rfl
@[simp] theorem updBezel_fuse (f : Bezel → Bezel) : (updBezel f s).fuse = s.fuse := rfl
@[simp] theorem updBezel_power (f : Bezel → Bezel) : (updBezel f s).power = s.power := rfl
@[simp] theorem updBezel_sealed (f : Bezel → Bezel) : (updBezel f s).sealed = s.sealed := rfl
@[simp] theorem updBezel_nor (f : Bezel → Bezel) : (updBezel f s).nor = s.nor := rfl
@[simp] theorem updBezel_boot (f : Bezel → Bezel) : (updBezel f s).boot = s.boot := rfl
@[simp] theorem updBezel_clk (f : Bezel → Bezel) : (updBezel f s).clk = s.clk := rfl
@[simp] theorem updBezel_bar (f : Bezel → Bezel) : (updBezel f s).bar = s.bar := rfl
@[simp] theorem updBezel_pcie (f : Bezel → Bezel) : (updBezel f s).pcie = s.pcie := rfl
@[simp] theorem updBezel_sessions (f : Bezel → Bezel) : (updBezel f s).sessions = s.sessions := rfl
@[simp] theorem updBezel_gates (f : Bezel → Bezel) : (updBezel f s).gates = s.gates := rfl
@[simp] theorem updBezel_convs (f : Bezel → Bezel) : (updBezel f s).convs = s.convs := rfl
@[simp] theorem updBezel_cellRecords (f : Bezel → Bezel) : (updBezel f s).cellRecords = s.cellRecords := rfl
@[simp] theorem updBezel_factoryTrims (f : Bezel → Bezel) : (updBezel f s).factoryTrims = s.factoryTrims := rfl
@[simp] theorem updBezel_tables (f : Bezel → Bezel) : (updBezel f s).tables = s.tables := rfl
@[simp] theorem updBezel_commits (f : Bezel → Bezel) : (updBezel f s).commits = s.commits := rfl
@[simp] theorem updBezel_millraces (f : Bezel → Bezel) : (updBezel f s).millraces = s.millraces := rfl
@[simp] theorem updBezel_txs (f : Bezel → Bezel) : (updBezel f s).txs = s.txs := rfl
@[simp] theorem updBezel_fecs (f : Bezel → Bezel) : (updBezel f s).fecs = s.fecs := rfl
@[simp] theorem updBezel_lines (f : Bezel → Bezel) : (updBezel f s).lines = s.lines := rfl
@[simp] theorem updBezel_groups (f : Bezel → Bezel) : (updBezel f s).groups = s.groups := rfl
@[simp] theorem updBezel_chans (f : Bezel → Bezel) : (updBezel f s).chans = s.chans := rfl
@[simp] theorem updBezel_cifs (f : Bezel → Bezel) : (updBezel f s).cifs = s.cifs := rfl
@[simp] theorem updBezel_mapq (f : Bezel → Bezel) : (updBezel f s).mapq = s.mapq := rfl
@[simp] theorem updBezel_egressq (f : Bezel → Bezel) : (updBezel f s).egressq = s.egressq := rfl
@[simp] theorem updBezel_lanes (f : Bezel → Bezel) : (updBezel f s).lanes = s.lanes := rfl
@[simp] theorem updBezel_laneTable (f : Bezel → Bezel) : (updBezel f s).laneTable = s.laneTable := rfl
@[simp] theorem updBezel_stamps0 (f : Bezel → Bezel) : (updBezel f s).stamps0 = s.stamps0 := rfl
@[simp] theorem updBezel_stamps1 (f : Bezel → Bezel) : (updBezel f s).stamps1 = s.stamps1 := rfl
@[simp] theorem updBezel_nextPkt (f : Bezel → Bezel) : (updBezel f s).nextPkt = s.nextPkt := rfl
@[simp] theorem updBezel_memory (f : Bezel → Bezel) : (updBezel f s).memory = s.memory := rfl
@[simp] theorem updBezel_cipher (f : Bezel → Bezel) : (updBezel f s).cipher = s.cipher := rfl
@[simp] theorem updBezel_timing (f : Bezel → Bezel) : (updBezel f s).timing = s.timing := rfl
@[simp] theorem updBezel_vault (f : Bezel → Bezel) : (updBezel f s).vault = s.vault := rfl
@[simp] theorem updBezel_bezel (f : Bezel → Bezel) : (updBezel f s).bezel = f s.bezel := rfl
@[simp] theorem updBezel_hk (f : Bezel → Bezel) : (updBezel f s).hk = s.hk := rfl
@[simp] theorem updBezel_pins (f : Bezel → Bezel) : (updBezel f s).pins = s.pins := rfl
@[simp] theorem updBezel_tarnish (f : Bezel → Bezel) : (updBezel f s).tarnish = s.tarnish := rfl
@[simp] theorem updBezel_perf (f : Bezel → Bezel) : (updBezel f s).perf = s.perf := rfl
@[simp] theorem updBezel_pm (f : Bezel → Bezel) : (updBezel f s).pm = s.pm := rfl

/-! ### What accessors read -/

@[simp] theorem State.sess_setSess (i k : Nat) (x : Session) : (s.setSess i x).sess k = if k = i then x else s.sess k := by
  simp [State.sess, State.setSess]
@[simp] theorem State.conv_setConv (i k : Nat) (x : Conv) : (s.setConv i x).conv k = if k = i then x else s.conv k := by
  simp [State.conv, State.setConv]
@[simp] theorem State.mr_setMr (i k : Nat) (x : Millrace) : (s.setMr i x).mr k = if k = i then x else s.mr k := by
  simp [State.mr, State.setMr]
@[simp] theorem State.tx_setTx (i k : Nat) (x : Tx) : (s.setTx i x).tx k = if k = i then x else s.tx k := by
  simp [State.tx, State.setTx]
@[simp] theorem State.fec_setFec (i k : Nat) (x : Fec) : (s.setFec i x).fec k = if k = i then x else s.fec k := by
  simp [State.fec, State.setFec]
@[simp] theorem State.line_setLine (i k : Nat) (x : Line) : (s.setLine i x).line k = if k = i then x else s.line k := by
  simp [State.line, State.setLine]
@[simp] theorem State.group_setGroup (i k : Nat) (x : Option Group) : (s.setGroup i x).group k = if k = i then x else s.group k := by
  simp [State.group, State.setGroup]
@[simp] theorem State.chan_setChan (i k : Nat) (x : Channel) : (s.setChan i x).chan k = if k = i then x else s.chan k := by
  simp [State.chan, State.setChan]
@[simp] theorem State.cif_setCif (i k : Nat) (x : Cif) : (s.setCif i x).cif k = if k = i then x else s.cif k := by
  simp [State.cif, State.setCif]
@[simp] theorem State.lane_setLane (i k : Nat) (x : Lane) : (s.setLane i x).lane k = if k = i then x else s.lane k := by
  simp [State.lane, State.setLane]
@[simp] theorem State.tarn_setTarn (i k : Nat) (x : TarnDomain) : (s.setTarn i x).tarn k = if k = i then x else s.tarn k := by
  simp [State.tarn, State.setTarn]
@[simp] theorem State.dom_setDom (i k : Nat) (x : Domain) : (s.setDom i x).dom k = if k = i then x else s.dom k := by
  simp [State.dom, State.setDom]
@[simp] theorem State.setAttr_sess (a : Attr) (i j : Nat) (v : Int) (k : Nat) : (s.setAttr a i j v).sess k = s.sess k := rfl
@[simp] theorem State.bump_sess (a : Attr) (i j : Nat) (n : Int) (k : Nat) : (s.bump a i j n).sess k = s.sess k := rfl
@[simp] theorem State.count_sess (a : Attr) (i j n : Nat) (k : Nat) : (s.count a i j n).sess k = s.sess k := rfl
@[simp] theorem State.count_attr (a : Attr) (i j n : Nat) (b : Attr) (p q : Nat) : (s.count a i j n).attr b p q = s.attr b p q := rfl
@[simp] theorem State.countMax_sess (a : Attr) (i j n : Nat) (k : Nat) : (s.countMax a i j n).sess k = s.sess k := rfl
@[simp] theorem State.countMax_attr (a : Attr) (i j n : Nat) (b : Attr) (p q : Nat) : (s.countMax a i j n).attr b p q = s.attr b p q := rfl
@[simp] theorem State.setWritten_sess (a : Attr) (i j : Nat) (v : Int) (k : Nat) : (s.setWritten a i j v).sess k = s.sess k := rfl
@[simp] theorem State.setWritten_attr (a : Attr) (i j : Nat) (v : Int) (b : Attr) (p q : Nat) : (s.setWritten a i j v).attr b p q = s.attr b p q := rfl
@[simp] theorem State.setSess_attr (i : Nat) (x : Session) (b : Attr) (p q : Nat) : (s.setSess i x).attr b p q = s.attr b p q := rfl
@[simp] theorem State.occurs_sess (event place n : Nat) (k : Nat) : (s.occurs event place n).sess k = s.sess k := rfl
@[simp] theorem State.occurs_attr (event place n : Nat) (b : Attr) (p q : Nat) : (s.occurs event place n).attr b p q = s.attr b p q := rfl
@[simp] theorem State.emit_sess (o : Out) (k : Nat) : (s.emit o).sess k = s.sess k := rfl
@[simp] theorem State.emit_attr (o : Out) (b : Attr) (p q : Nat) : (s.emit o).attr b p q = s.attr b p q := rfl
@[simp] theorem State.draw_sess  (k : Nat) : (s.draw.2).sess k = s.sess k := rfl
@[simp] theorem State.draw_attr  (b : Attr) (p q : Nat) : (s.draw.2).attr b p q = s.attr b p q := rfl
@[simp] theorem State.setDom_sess (d : Nat) (x : Domain) (k : Nat) : (s.setDom d x).sess k = s.sess k := rfl
@[simp] theorem State.setDom_attr (d : Nat) (x : Domain) (b : Attr) (p q : Nat) : (s.setDom d x).attr b p q = s.attr b p q := rfl
@[simp] theorem State.setConv_sess (p : Nat) (x : Conv) (k : Nat) : (s.setConv p x).sess k = s.sess k := rfl
@[simp] theorem State.setConv_attr (p : Nat) (x : Conv) (b : Attr) (p q : Nat) : (s.setConv p x).attr b p q = s.attr b p q := rfl
@[simp] theorem State.setMr_sess (p : Nat) (x : Millrace) (k : Nat) : (s.setMr p x).sess k = s.sess k := rfl
@[simp] theorem State.setMr_attr (p : Nat) (x : Millrace) (b : Attr) (p q : Nat) : (s.setMr p x).attr b p q = s.attr b p q := rfl
@[simp] theorem State.setTx_sess (p : Nat) (x : Tx) (k : Nat) : (s.setTx p x).sess k = s.sess k := rfl
@[simp] theorem State.setTx_attr (p : Nat) (x : Tx) (b : Attr) (p q : Nat) : (s.setTx p x).attr b p q = s.attr b p q := rfl
@[simp] theorem State.setTable_sess (b : Nat) (x : GenTable) (k : Nat) : (s.setTable b x).sess k = s.sess k := rfl
@[simp] theorem State.setTable_attr (w : Nat) (x : GenTable) (b : Attr) (p q : Nat) : (s.setTable w x).attr b p q = s.attr b p q := rfl
@[simp] theorem State.setFec_sess (p : Nat) (x : Fec) (k : Nat) : (s.setFec p x).sess k = s.sess k := rfl
@[simp] theorem State.setFec_attr (p : Nat) (x : Fec) (b : Attr) (p q : Nat) : (s.setFec p x).attr b p q = s.attr b p q := rfl
@[simp] theorem State.setLine_sess (p : Nat) (x : Line) (k : Nat) : (s.setLine p x).sess k = s.sess k := rfl
@[simp] theorem State.setLine_attr (p : Nat) (x : Line) (b : Attr) (p q : Nat) : (s.setLine p x).attr b p q = s.attr b p q := rfl
@[simp] theorem State.setGroup_sess (g : Nat) (x : Option Group) (k : Nat) : (s.setGroup g x).sess k = s.sess k := rfl
@[simp] theorem State.setGroup_attr (g : Nat) (x : Option Group) (b : Attr) (p q : Nat) : (s.setGroup g x).attr b p q = s.attr b p q := rfl
@[simp] theorem State.setChan_sess (c : Nat) (x : Channel) (k : Nat) : (s.setChan c x).sess k = s.sess k := rfl
@[simp] theorem State.setChan_attr (c : Nat) (x : Channel) (b : Attr) (p q : Nat) : (s.setChan c x).attr b p q = s.attr b p q := rfl
@[simp] theorem State.setCif_sess (l : Nat) (x : Cif) (k : Nat) : (s.setCif l x).sess k = s.sess k := rfl
@[simp] theorem State.setCif_attr (l : Nat) (x : Cif) (b : Attr) (p q : Nat) : (s.setCif l x).attr b p q = s.attr b p q := rfl
@[simp] theorem State.setLane_sess (l : Nat) (x : Lane) (k : Nat) : (s.setLane l x).sess k = s.sess k := rfl
@[simp] theorem State.setLane_attr (l : Nat) (x : Lane) (b : Attr) (p q : Nat) : (s.setLane l x).attr b p q = s.attr b p q := rfl
@[simp] theorem State.setTarn_sess (d : Nat) (x : TarnDomain) (k : Nat) : (s.setTarn d x).sess k = s.sess k := rfl
@[simp] theorem State.setTarn_attr (d : Nat) (x : TarnDomain) (b : Attr) (p q : Nat) : (s.setTarn d x).attr b p q = s.attr b p q := rfl
@[simp] theorem dramStore_sess (a : Nat) (d : List Byte) (k : Nat) : (dramStore a d s).sess k = s.sess k := rfl
@[simp] theorem dramStore_attr (a : Nat) (d : List Byte) (b : Attr) (p q : Nat) : (dramStore a d s).attr b p q = s.attr b p q := rfl
@[simp] theorem updMemory_sess (f : Memory → Memory) (k : Nat) : (updMemory f s).sess k = s.sess k := rfl
@[simp] theorem updMemory_attr (f : Memory → Memory) (b : Attr) (p q : Nat) : (updMemory f s).attr b p q = s.attr b p q := rfl
@[simp] theorem updCipher_sess (f : Cipher → Cipher) (k : Nat) : (updCipher f s).sess k = s.sess k := rfl
@[simp] theorem updCipher_attr (f : Cipher → Cipher) (b : Attr) (p q : Nat) : (updCipher f s).attr b p q = s.attr b p q := rfl
@[simp] theorem updVault_sess (f : Vault → Vault) (k : Nat) : (updVault f s).sess k = s.sess k := rfl
@[simp] theorem updVault_attr (f : Vault → Vault) (b : Attr) (p q : Nat) : (updVault f s).attr b p q = s.attr b p q := rfl
@[simp] theorem updTiming_sess (f : Timing → Timing) (k : Nat) : (updTiming f s).sess k = s.sess k := rfl
@[simp] theorem updTiming_attr (f : Timing → Timing) (b : Attr) (p q : Nat) : (updTiming f s).attr b p q = s.attr b p q := rfl
@[simp] theorem updBezel_sess (f : Bezel → Bezel) (k : Nat) : (updBezel f s).sess k = s.sess k := rfl
@[simp] theorem updBezel_attr (f : Bezel → Bezel) (b : Attr) (p q : Nat) : (updBezel f s).attr b p q = s.attr b p q := rfl

/-- Attribute keys tell attributes apart while their indices are below 65,536. -/
theorem Attr_key_inj {a b : Attr} {i j p q : Nat} (hi : i < 65536) (hj : j < 65536) (hp : p < 65536) (hq : q < 65536)
    (h : a.key i j = b.key p q) : a = b ∧ i = p ∧ j = q := by
  unfold Attr.key at h
  have hc : a.ctorIdx = b.ctorIdx := by omega
  refine ⟨?_, by omega, by omega⟩
  rw [← Attr.ofNat_ctorIdx a, ← Attr.ofNat_ctorIdx b, hc]

/-- A write leaves every other number as it was, whatever an unlisted one reads as. -/
theorem get_put_ne {β : Type} [DecidableEq β] (d e : β) (t : Tab β) {n m : Nat} (v : β) (h : m ≠ n) :
    Tab.get e (Tab.put d t n v) m = Tab.get e t m := by
  unfold Tab.put
  split
  · rw [Tab.get_erase, if_neg h]
  · rw [Tab.get_ins, if_neg h]

/-- An attribute set to a value reads it. -/
@[simp] theorem State.attr_setAttr_self (a : Attr) (i j : Nat) (v : Int) : (s.setAttr a i j v).attr a i j = v := by
  show Tab.get (resetValue s.fuse a i) (Tab.put (resetValue s.fuse a i) s.attrs (a.key i j) v) (a.key i j) = v
  rw [Tab.get_put, if_pos rfl]

/-- Setting an attribute leaves every attribute of another key. -/
theorem State.attr_setAttr_of_key {a b : Attr} {i j p q : Nat} (v : Int) (h : b.key p q ≠ a.key i j) :
    (s.setAttr a i j v).attr b p q = s.attr b p q :=
  get_put_ne _ _ _ _ h

/-- Setting an attribute leaves every other one that the device has. -/
theorem State.attr_setAttr_ne {a b : Attr} {i j p q : Nat} (v : Int) (hi : i < 65536) (hj : j < 65536) (hp : p < 65536)
    (hq : q < 65536) (h : b ≠ a ∨ p ≠ i ∨ q ≠ j) : (s.setAttr a i j v).attr b p q = s.attr b p q := by
  refine s.attr_setAttr_of_key v (fun hk => ?_)
  obtain ⟨h1, h2, h3⟩ := Attr_key_inj hp hq hi hj hk
  rcases h with h | h | h <;> contradiction

/-- DRAM reads back what was stored, and every other byte as before. -/
theorem dramStore_get (a k : Nat) (d : List Byte) :
    Tab.get 0 (dramStore a d s).memory.dram k =
      if a ≤ k ∧ k < a + d.length then d.getD (k - a) 0 else Tab.get 0 s.memory.dram k :=
  get_memWrite s.memory.dram a d k

/-- A store into a sparse memory keeps the canonical form. -/
theorem memWrite_wf {m : Tab Byte} (o : Nat) (l : List Byte) (h : Tab.wf 0 m = true) : Tab.wf 0 (memWrite m o l) = true := by
  induction l generalizing m o with
  | nil => exact h
  | cons b t ih => exact ih (o + 1) (Tab.wf_put o b h)

/-- A store into DRAM keeps its canonical form. -/
theorem dramStore_dramOk {s : State} (a : Nat) (d : List Byte) (h : s.dramOk) : (dramStore a d s).dramOk :=
  memWrite_wf a d h

theorem above_filter {β : Type} {t : Tab β} {b : Nat} (f : Nat × β → Bool) (h : Tab.above b t = true) :
    Tab.above b (t.filter f) = true := by
  induction t generalizing b with
  | nil => rfl
  | cons p t ih =>
    obtain ⟨k, v⟩ := p
    simp only [Tab.above, Bool.and_eq_true, decide_eq_true_eq] at h
    simp only [List.filter_cons]
    split
    · simp only [Tab.above, Bool.and_eq_true, decide_eq_true_eq]
      exact ⟨h.1, ih h.2⟩
    · exact ih (Tab.above_mono h.2 (by omega))

/-- A part of a table in canonical form is in canonical form. -/
theorem wf_filter {β : Type} [DecidableEq β] {d : β} {t : Tab β} (f : Nat × β → Bool) (h : Tab.wf d t = true) :
    Tab.wf d (t.filter f) = true := by
  induction t with
  | nil => rfl
  | cons p t ih =>
    obtain ⟨k, v⟩ := p
    simp only [List.filter_cons]
    split
    · rw [Tab.wf_cons] at h ⊢
      exact ⟨above_filter f h.1, h.2.1, fun q hq => h.2.2 q (List.mem_filter.1 hq).1⟩
    · exact ih (Tab.wf_tail h)

/-- A fill keeps the canonical form of DRAM. -/
theorem fillBlocks_dramOk {s : State} (first count : Nat) (h : s.dramOk) : (fillBlocks first count s).dramOk :=
  wf_filter _ h

/-- DRAM after reset is in canonical form. -/
theorem reset_memory_wf : Memory.wf State.reset.memory = true := rfl

end Sys2Proof.Machine
end

