-- ==== Sys2Proof/Laws/Post.lean ====
section
/-!
SUPPORT. Sys2Proof/Laws/Post.lean: what the shared operations that post something (messages, alarms, ring entries, events, responses)
can change, said once: sessions, the alarms and the event log, held messages, what has been driven out, and the count of lost events.
-/
set_option Elab.async false

namespace Sys2Proof.Machine

/-- From `s` to `t` only what a post may change has changed. -/
structure Posts (s t : State) : Prop where
  /-- Every field but five is as before. -/
  frame : t = { s with out := t.out, bar := t.bar, pcie := t.pcie, sessions := t.sessions, attrs := t.attrs }
  /-- Of the registers of BAR0, the alarms, the event log and the event numbers. -/
  bar : t.bar = { s.bar with alarms := t.bar.alarms, log := t.bar.log, eventSeq := t.bar.eventSeq }
  /-- Of the endpoint, the pending bits. -/
  pcie : t.pcie = { s.pcie with pba := t.pcie.pba }
  /-- Of the attributes, the count of lost events. -/
  attrs : ∀ a i j, i < 65536 → j < 65536 → a ≠ .eventsLost → t.attr a i j = s.attr a i j

theorem Posts.refl (s : State) : Posts s s := ⟨rfl, rfl, rfl, fun _ _ _ _ _ _ => rfl⟩

theorem Posts.trans {s t u : State} (h : Posts s t) (k : Posts t u) : Posts s u where
  frame := by
    rw [k.frame, h.frame]
  bar := by
    rw [k.bar, h.bar]
  pcie := by
    rw [k.pcie, h.pcie]
  attrs a i j hi hj ha := (k.attrs a i j hi hj ha).trans (h.attrs a i j hi hj ha)

/-- A run of posts posts. -/
theorem Posts.foldl {α : Type} {f : State → α → State} (hf : ∀ s x, Posts s (f s x)) (l : List α) (s : State) :
    Posts s (l.foldl f s) := by
  induction l generalizing s with
  | nil => exact .refl s
  | cons x t ih => exact (hf s x).trans (ih _)

theorem Posts.ite {c : Prop} [Decidable c] {s t u : State} (h : Posts s t) (k : Posts s u) : Posts s (if c then t else u) := by
  split
  · exact h
  · exact k

theorem Posts.tick {s t : State} (h : Posts s t) : t.tick = s.tick := by rw [h.frame]
theorem Posts.clk {s t : State} (h : Posts s t) : t.clk = s.clk := by rw [h.frame]
theorem Posts.memory {s t : State} (h : Posts s t) : t.memory = s.memory := by rw [h.frame]
theorem Posts.pending {s t : State} (h : Posts s t) : t.pending = s.pending := by rw [h.frame]
theorem Posts.gates {s t : State} (h : Posts s t) : t.gates = s.gates := by rw [h.frame]
theorem Posts.boot {s t : State} (h : Posts s t) : t.boot = s.boot := by rw [h.frame]
theorem Posts.vault {s t : State} (h : Posts s t) : t.vault = s.vault := by rw [h.frame]

/-- A post keeps the invariants of Safety.lean. -/
theorem Posts.clockOk {s t : State} (h : Posts s t) (hs : s.clockOk) : t.clockOk := by
  rw [State.clockOk, h.clk, h.tick]; exact hs

theorem Posts.dramOk {s t : State} (h : Posts s t) (hs : s.dramOk) : t.dramOk := by
  rw [State.dramOk, h.memory]; exact hs

/-! ### The operations -/

theorem setSess_posts (s : State) (i : Nat) (x : Session) : Posts s (s.setSess i x) :=
  ⟨rfl, rfl, rfl, fun _ _ _ _ _ _ => rfl⟩

theorem emit_posts (s : State) (o : Out) : Posts s (s.emit o) := ⟨rfl, rfl, rfl, fun _ _ _ _ _ _ => rfl⟩

theorem log_posts (s : State) (l : List LogEvent) (n : Word) :
    Posts s { s with bar := { s.bar with log := l, eventSeq := n } } := ⟨rfl, rfl, rfl, fun _ _ _ _ _ _ => rfl⟩

theorem eventsLost_posts (s : State) (n : Int) : Posts s (s.bump .eventsLost 0 0 n) :=
  ⟨rfl, rfl, rfl, fun _ _ _ hi hj ha => s.attr_setAttr_ne _ (by decide) (by decide) hi hj (.inl ha)⟩

theorem msix_posts (v : Nat) (s : State) : Posts s (msix v s) := by
  unfold msix
  split
  · exact emit_posts s _
  · exact ⟨rfl, rfl, rfl, fun _ _ _ _ _ _ => rfl⟩

theorem flushMsix_posts (s : State) : Posts s (flushMsix s) := by
  refine Posts.foldl (fun s v => ?_) _ s
  dsimp only
  split
  · exact (emit_posts s _).trans ⟨rfl, rfl, rfl, fun _ _ _ _ _ _ => rfl⟩
  · exact .refl s

theorem setAlarm_posts (cat : Nat) (s : State) : Posts s (setAlarm cat s) := by
  have h : Posts s { s with bar := { s.bar with alarms := s.bar.alarms ||| BitVec.ofNat 32 (2 ^ cat) } } :=
    ⟨rfl, rfl, rfl, fun _ _ _ _ _ _ => rfl⟩
  unfold setAlarm
  split
  · exact .refl s
  · dsimp only
    split
    · exact h
    · exact h.trans (msix_posts 8 _)

theorem toRing_posts (sid : Nat) (h : Held) (s : State) : Posts s (toRing sid h s) :=
  .ite (.trans (.trans (.ite (.refl s) (emit_posts s _)) (setSess_posts _ sid _)) (msix_posts sid _))
    (.trans (.ite (.refl s) (emit_posts s _)) (setSess_posts _ sid _))

theorem drainHold_posts (n sid : Nat) (s : State) : Posts s (drainHold n sid s) := by
  induction n generalizing s with
  | zero => exact .refl s
  | succ n ih =>
    unfold drainHold
    dsimp only
    split
    · exact .refl s
    · split
      · exact ((setSess_posts s sid _).trans (toRing_posts sid _ _)).trans (ih _)
      · exact .refl s

theorem drain_posts (sid : Nat) (s : State) : Posts s (drain sid s) := drainHold_posts 512 sid s

theorem placeEntry_posts (sid : Nat) (h : Held) (s : State) : Posts s (placeEntry sid h s) := by
  unfold placeEntry
  dsimp only
  split
  · exact toRing_posts sid h s
  · exact setSess_posts s sid _

theorem deliverTo_posts (sid : Nat) (s : State) : Posts s (deliverTo sid s) := by
  refine Posts.foldl (fun s ev => ?_) _ s
  dsimp only
  split
  · exact (placeEntry_posts sid _ s).trans (log_posts _ _ _)
  · exact .refl s

theorem deliverLost_posts (sid : Nat) (s : State) : Posts s (deliverLost sid s) := by
  unfold deliverLost
  dsimp only
  split
  · exact ((setSess_posts s sid _).trans (log_posts _ _ _)).trans (placeEntry_posts sid _ _)
  · exact .refl s

theorem pruneLog_posts (s : State) : Posts s (pruneLog s) := log_posts s _ _

theorem deliverAll_posts (s : State) : Posts s (deliverAll s) := by
  unfold deliverAll
  split
  · exact ((Posts.foldl (fun s sid => deliverTo_posts sid s) _ s).trans (pruneLog_posts _)).trans
      (Posts.foldl (fun s sid => deliverLost_posts sid s) _ _)
  · exact .refl s

/-- Each receiver counts an event that it lost. -/
theorem lost_posts (rs : List Nat) (s : State) :
    Posts s (rs.foldl (fun s i => s.setSess i { s.sess i with lost := (s.sess i).lost + 1 }) s) :=
  Posts.foldl (fun s i => setSess_posts s i _) rs s

/-- Raising an event changes only what a post changes. -/
theorem raise_posts (code cat index : Nat) (fs : List Fld) (s : State) : Posts s (raise code cat index fs s) := by
  have h := setAlarm_posts cat s
  have h2 := h.trans (log_posts (setAlarm cat s) (setAlarm cat s).bar.log ((setAlarm cat s).bar.eventSeq + 1))
  exact .ite h (.ite h2 (.ite
    (.trans (.trans (.trans h2 (lost_posts _ _)) (eventsLost_posts _ 1)) (setAlarm_posts 12 _))
    (.trans (.trans h2 (log_posts _ _ _)) (deliverAll_posts _))))

theorem respond_posts (sid : Nat) (e : List Byte) (st : Status) (fs : List Fld) (s : State) :
    Posts s (respond sid e st fs s) := placeEntry_posts sid _ s

/-- Ending a command changes only what a post changes. -/
theorem finish_posts (c : CmdRef) (st : Status) (fs : List Fld) (s : State) : Posts s (finish c st fs s) := by
  unfold finish
  split
  · exact .refl s
  · dsimp only
    split
    · exact (setSess_posts s _ _).trans (respond_posts _ _ _ _ _)
    · exact setSess_posts s _ _

theorem postEnded_posts (s : State) : Posts s (postEnded s) := by
  refine Posts.foldl (fun s i => Posts.foldl (fun s t => ?_) _ s) _ s
  split
  · exact finish_posts _ _ _ s
  · exact .refl s

theorem interim_posts (c : CmdRef) (st : Status) (ph : TakenPhase) (s : State) : Posts s (interim c st ph s) := by
  unfold interim
  split
  · exact .refl s
  · exact (setSess_posts s _ _).trans (respond_posts _ _ _ _ _)

theorem acceptIfNot_posts (c : CmdRef) (s : State) : Posts s (acceptIfNot c s) := by
  unfold acceptIfNot
  split
  · split
    · exact interim_posts c _ _ s
    · exact .refl s
  · exact .refl s

theorem setPhase_posts (c : CmdRef) (ph : TakenPhase) (s : State) : Posts s (setPhase c ph s) := setSess_posts s _ _

theorem startQuietly_posts (c : CmdRef) (s : State) : Posts s (startQuietly c s) := setSess_posts s _ _

/-- Giving a command its answer posts. -/
theorem answer_posts (c : CmdRef) (r : State × Answer) : Posts r.1 (answer c r) := by
  obtain ⟨s, st | _ | _⟩ := r
  · exact finish_posts c _ _ s
  · exact acceptIfNot_posts c s
  · exact setPhase_posts c _ s

/-- Serving a command does what its own run does, and posts: a property that posts and the run keep, serving keeps. -/
theorem serve_keeps {P : State → Prop} (hp : ∀ s t, Posts s t → P s → P t)
    {op : Nat} {form : List Byte → Bool} {named : List (Nat × Nat)}
    {checks : State → Nat → List Byte → List (Bool × Status)} {run : State → CmdRef → List Byte → State × Answer}
    (hr : ∀ s c e, P s → P (run s c e).1) (c : CmdRef) (s : State) (h : P s) : P (serve op form named checks run c s) := by
  unfold serve
  split
  · rename_i t info _ _
    cases t.isRunning
    all_goals
      simp only [Bool.false_eq_true, if_false, if_true]
      split
    · split
      · exact hp _ _ (finish_posts c _ _ s) h
      · exact hp _ _ (answer_posts c _) (hr s c _ h)
    · exact h
    · exact hp _ _ (answer_posts c _) (hr s c _ h)
    · exact h
  · exact h

end Sys2Proof.Machine
end

