-- ==== Sys2Proof/Laws/Serve.lean ====
section
/-!
SUPPORT. Sys2Proof/Laws/Serve.lean: what the service of a command answers, once and for all: a command that passes its header and its
own conditions runs, one that fails them is answered.
-/
namespace Sys2Proof.Machine

/-- What `ready` says of a command. -/
theorem ready_spec {op : Nat} {named : List (Nat × Nat)} {c : CmdRef} {s : State} {e : List Byte}
    (h : ready op named c s = some e) :
    ∃ t info, findTaken s c = some t ∧ t.entry = e ∧ cmdInfo op = some info ∧ served s c.session = true ∧
      entryOpcode e = op ∧ mayStart s c t = true ∧ firstFail (headerChecks s c.session info named e) = none := by
  unfold ready at h
  split at h
  next t info ht hi =>
    split at h
    · rename_i hc
      simp only [Bool.and_eq_true, decide_eq_true_eq, Option.isNone_iff_eq_none] at hc
      obtain rfl : t.entry = e := by simpa using h
      exact ⟨t, info, ht, rfl, hi, hc.1.1.1, hc.1.1.2, hc.1.2, hc.2⟩
    · cases h
  next => cases h

/-- A list of conditions passes when none of them holds. -/
@[simp] theorem firstFail_nil : firstFail [] = none := rfl

@[simp] theorem firstFail_cons_eq_none (b : Bool) (st : Status) (t : List (Bool × Status)) :
    firstFail ((b, st) :: t) = none ↔ b = false ∧ firstFail t = none := by
  cases b
  · simp [firstFail]
  · simp only [firstFail]
    split <;> simp

@[simp] theorem firstFail_append_eq_none (l m : List (Bool × Status)) :
    firstFail (l ++ m) = none ↔ firstFail l = none ∧ firstFail m = none := by
  induction l with
  | nil => simp
  | cons p t ih => obtain ⟨b, st⟩ := p; simp [ih, and_assoc]

/-- Conditions that pass drop out of a list of conditions. -/
theorem firstFail_append_none {l m : List (Bool × Status)} (h : firstFail l = none) : firstFail (l ++ m) = firstFail m := by
  induction l with
  | nil => rfl
  | cons p t ih =>
    obtain ⟨b, st⟩ := p
    cases b
    · exact ih h
    · simp only [firstFail] at h
      split at h <;> cases h

/-- A command that may start is no batch under way. -/
theorem mayStart_isRunning {s : State} {c : CmdRef} {t : Taken} (h : mayStart s c t = true) : t.isRunning = false := by
  have hu : t.unstarted = true := by
    simp only [mayStart, startable, Bool.and_eq_true] at h
    exact h.1.1.1.1.1
  unfold Taken.unstarted at hu
  unfold Taken.isRunning
  split
  · rename_i hp
    rw [hp] at hu
    simp at hu
  · rfl

/-- A ready command that its own conditions pass runs. -/
theorem serve_ready {op : Nat} {form : List Byte → Bool} {named : List (Nat × Nat)}
    {checks : State → Nat → List Byte → List (Bool × Status)} {run : State → CmdRef → List Byte → State × Answer}
    {c : CmdRef} {s : State} {e : List Byte} (h : ready op named c s = some e) (hf : form e = true)
    (hc : firstFail (checks s c.session e) = none) :
    serve op form named checks run c s = answer c (run s c e) := by
  obtain ⟨t, info, ht, rfl, hi, hs, ho, hm, hh⟩ := ready_spec h
  simp [serve, ht, hi, hs, ho, hm, hf, firstFail_append_none hh, hc, mayStart_isRunning hm]

/-- A ready command that its own conditions refuse is answered the failure. -/
theorem serve_refused {op : Nat} {form : List Byte → Bool} {named : List (Nat × Nat)}
    {checks : State → Nat → List Byte → List (Bool × Status)} {run : State → CmdRef → List Byte → State × Answer}
    {c : CmdRef} {s : State} {e : List Byte} {st : Status} (h : ready op named c s = some e) (hf : form e = true)
    (hc : firstFail (checks s c.session e) = some st) : serve op form named checks run c s = finish c st [] s := by
  obtain ⟨t, info, ht, rfl, hi, hs, ho, hm, hh⟩ := ready_spec h
  simp [serve, ht, hi, hs, ho, hm, hf, firstFail_append_none hh, hc, mayStart_isRunning hm]

end Sys2Proof.Machine
end

