-- ==== Sys2Proof/Machine/Electrical.lean ====
section
/-!
DEFINITION. Sys2Proof/Machine/Electrical.lean: the electrical characteristics (spec/20): the limits as data, and what follows from settings
and state. No row changes state by them.
-/
namespace Sys2Proof.Machine

/-- A row of a table of limits: the parameter, the unit, and minimum, typical value and maximum in 1/1,000 of it. A typical value carries no
obligation. -/
structure Limit where
  parameter : String
  unit : String
  min : Option Int
  typ : Option Int
  max : Option Int
deriving DecidableEq, Repr

/-- A value in 1/1,000 of the unit meets a limit. -/
def Limit.holds (l : Limit) (v : Int) : Bool :=
  (match l.min with | some a => decide (a ≤ v) | none => true) && (match l.max with | some b => decide (v ≤ b) | none => true)

/-- The limits of the chapter are suspended (R651): below 10.8 V, at thermal levels 1 to 3, and while the loops coast. That of the current in
sealed standby (R61) is not. -/
def limitsSuspended (s : State) : Bool :=
  s.power.vinLow || decide (1 ≤ s.attr .thermalLevel) || s.attr .clockPllCoast = 1

/-! ### The tables -/

/-- Absolute maximum ratings (Table 1, R648): the device tolerates each value without damage. -/
def absoluteMaximum : List Limit :=
  [
    ⟨"VIN to GND", "V", some (-300), none, some 16000⟩,
    ⟨"SNS0-SNS11, SNS_COM to GND", "V", some (-500), none, some 14000⟩,
    ⟨"1.8 V I/O balls, including straps, REFIN0-REFIN3, XO_IN, SPI groups, PORST_N, WARMRST_N, SEAL_N", "V", some (-300), none, some 2100⟩,
    ⟨"ADC input balls, each leg", "V", some (-300), none, some 1200⟩,
    ⟨"ADC input, differential", "V", some (-1000), none, some 1000⟩,
    ⟨"Client lane, PCIe and DDR5 balls", "V", some (-300), none, some 1400⟩,
    ⟨"Current out of V18_OUT", "mA", none, none, some 80000⟩,
    ⟨"Junction temperature, any site", "degC", none, none, some 135000⟩,
    ⟨"Storage temperature", "degC", some (-40000), none, some 125000⟩,
    ⟨"ESD, human body model, per JS-001", "V", some (-1000000), none, some 1000000⟩,
    ⟨"ESD, charged device model, per JS-002", "V", some (-250000), none, some 250000⟩]

/-- Operating conditions (Table 2, R650); the upper end of the die temperature lies below the entry of thermal level 1. -/
def operatingConditions : List Limit :=
  [
    ⟨"VIN, at the VIN balls", "V", some 10800, none, some 13200⟩,
    ⟨"VIN ripple and noise, 10 kHz to 100 MHz", "mV p-p", none, none, some 100000⟩,
    ⟨"Case temperature, AZ6400-CA and AZ6400-CN", "degC", some (-5000), none, some 95000⟩,
    ⟨"Case temperature, AZ6400-EA", "degC", some (-5000), none, some 105000⟩,
    ⟨"Die temperature, hottest site", "degC", some (-10000), none, none⟩,
    ⟨"XO_IN frequency accuracy, including ageing and temperature", "ppm", some (-50000), none, some 50000⟩]

/-- VIN input data (Table 5, R653). -/
def supplyData : List Limit :=
  [
    ⟨"VIN current, active, full load, VIN 10.8 V", "A", none, some 10900, some 12600⟩,
    ⟨"Current per VIN ball", "mA", none, none, some 200000⟩,
    ⟨"Capacitance inside the package, VIN to GND", "uF", none, some 220000, none⟩,
    ⟨"Bulk capacitance the board must provide within 20 mm of the package", "uF", some 470000, none, none⟩,
    ⟨"Inrush above load current during Table 6 of Package, balls, single supply and power states", "A", none, none, some 3000⟩,
    ⟨"VIN current step per ramp step of a domain under R175", "A", none, none, some 1000⟩,
    ⟨"Regulator switching frequency", "MHz", some 3800, some 4000, some 4200⟩,
    ⟨"Rail static accuracy about its target, Table 5 of Package, balls, single supply and power states", "%", some (-2000), none, some 2000⟩,
    ⟨"Rail transient on a full domain ramp, about its target", "%", some (-3000), none, some 3000⟩]

/-- ADC channel performance (Table 6, R654). -/
def adcData : List Limit :=
  [
    ⟨"Sample rate", "GS/s", none, some 345600, none⟩,
    ⟨"Differential input impedance, DC to 100 GHz", "Ohm", some 90000, some 100000, some 110000⟩,
    ⟨"Input return loss, DC to 140 GHz", "dB", some 8000, none, none⟩,
    ⟨"-3 dB analogue bandwidth, gain stage included", "GHz", some 140000, some 155000, none⟩,
    ⟨"ENOB at 1 GHz", "bits", some 5200, some 5600, none⟩,
    ⟨"ENOB at 130 GHz", "bits", some 4400, some 4800, none⟩,
    ⟨"SFDR, 1 GHz to 138 GHz", "dBc", some 30000, some 36000, none⟩,
    ⟨"Interleave spur after calibration, any core or slice image", "dBc", none, some (-48000), some (-42000)⟩,
    ⟨"Residual core-to-core sample-time error after calibration", "fs", none, none, some 100000⟩,
    ⟨"Gain step size, any step", "dB", some 400, some 500, some 600⟩,
    ⟨"Channel-to-channel isolation, any pair", "dB", some 45000, none, none⟩]

/-- DAC channel performance (Table 7, R655). -/
def dacData : List Limit :=
  [
    ⟨"Full-scale current accuracy about its setting", "%", some (-3000), none, some 3000⟩,
    ⟨"Output common-mode accuracy about its setting", "mV", some (-25000), none, some 25000⟩,
    ⟨"-3 dB analogue bandwidth", "GHz", some 125000, some 140000, none⟩,
    ⟨"ENOB at 100 GHz", "bits", some 4300, some 4800, none⟩,
    ⟨"Differential output return loss, DC to 140 GHz", "dB", some 8000, none, none⟩,
    ⟨"Residual skew between the four channels after tx.skew_fs correction", "fs", none, none, some 200000⟩,
    ⟨"Output when the DAC is held at zero under R210", "mV p-p differential", none, none, some 5000⟩]

/-- Equaliser tracking penalties (Table 8, R656). -/
def equaliserPenalties : List Limit :=
  [
    ⟨"Polarisation rotation at 10 Mrad/s", "dB", none, none, some 300⟩,
    ⟨"Instantaneous DGD of 250 ps", "dB", none, none, some 500⟩,
    ⟨"Both together", "dB", none, none, some 800⟩,
    ⟨"Residual dispersion within the bulk search step of Table 3 of Receive DSP: the millrace", "dB", none, none, some 100⟩]

/-- 1.8 V I/O DC data (Table 9, R657). -/
def ioData : List Limit :=
  [
    ⟨"Input high voltage", "V", some 1170, none, some 2000⟩,
    ⟨"Input low voltage", "V", some (-300), none, some 630⟩,
    ⟨"Input hysteresis", "mV", some 100000, none, none⟩,
    ⟨"Output high voltage at -4 mA", "V", some 1350, none, none⟩,
    ⟨"Output low voltage at 4 mA", "V", none, none, some 450⟩,
    ⟨"Internal pull-down, or pull-up on HSPI_CS_N", "kOhm", some 35000, none, some 70000⟩,
    ⟨"Input leakage, pull-down not fitted", "uA", some (-5000), none, some 5000⟩,
    ⟨"Output rise and fall, 10 % to 90 %, 15 pF", "ns", some 500, none, some 2500⟩]

/-- Client lane data (Table 11, R659), but for the CTLE peaking of a code. -/
def laneData : List Limit :=
  [
    ⟨"Differential impedance", "Ohm", some 90000, some 100000, some 110000⟩,
    ⟨"Transmit differential swing, tx_main 63, pre and post 0", "mV p-p", some 750000, some 850000, some 1000000⟩,
    ⟨"Pre-FEC BER in state 4, compliant channel", "1e-4", none, none, some 2400⟩,
    ⟨"Dormant current per lane, 100 us after entry", "mW", none, none, some 2000⟩,
    ⟨"Recovered lane clock wander, reference candidates 6 to 13", "ns TIE over 1,000 s", none, none, some 2000⟩]

/-- DDR5 interface data (Table 12, R660). -/
def ddrData : List Limit :=
  [
    ⟨"Skew that training absorbs, any DQ bit to its DQS", "ps", some (-156000), none, some 156000⟩,
    ⟨"Board flight time, CA and CK, device to farthest DRAM", "ns", none, none, some 1500⟩,
    ⟨"Board skew, CA to CK at any DRAM", "ps", some (-40000), none, some 40000⟩,
    ⟨"Board skew between a DQS pair's two legs", "ps", some (-2000), none, some 2000⟩]

/-- Timing input and output data (Table 13, R662). -/
def timingData : List Limit :=
  [
    ⟨"REFIN clock frequency", "MHz", some 8, none, some 200000⟩,
    ⟨"REFIN clock duty cycle", "%", some 40000, none, some 60000⟩,
    ⟨"REFIN pulse width, type 1", "ns", some 100000, none, some 500000000000⟩,
    ⟨"XO_IN duty cycle", "%", some 45000, none, some 55000⟩,
    ⟨"XO_IN phase jitter, 12 kHz to 20 MHz", "fs RMS", none, none, some 300000⟩,
    ⟨"CLKOUT differential swing, nominal", "mV p-p", some 600000, some 800000, some 1000000⟩,
    ⟨"CLKOUT common mode", "V", some 1100, some 1200, some 1300⟩,
    ⟨"CLKOUT phase jitter at 156.25 MHz, 12 kHz to 20 MHz, locked", "fs RMS", none, some 110000, some 150000⟩,
    ⟨"CLKOUT edge to internal 1PPS, after SY_OUT_ALIGN, codes 0 to 6 and 8", "ns", some (-500), none, some 500⟩,
    ⟨"PLSOUT 1PPS edge to internal 1PPS, mode 0 aligned", "ns", some (-500), none, some 500⟩,
    ⟨"Frame pulse edge to its tick boundary", "ns", some (-500), none, some 500⟩,
    ⟨"REFIN type 1 edge to phase measurement, delay_ps 0", "ns", some (-250), none, some 250⟩,
    ⟨"Loop jitter peaking, any loop_bw", "dB", none, none, some 100⟩]

/-- PCIe AC coupling on each transmit leg (R661), the pull-ups of the open-drain outputs (R657), and what holdover adds to the frequency error
of the oscillator, with the resolution of the frequency word (R663). -/
def boardData : List Limit :=
  [
    ⟨"AC coupling on each PCIE_TX leg", "nF", some 176000, none, some 265000⟩,
    ⟨"Pull-up of ALARM_N and HSPI_IRQ_N", "kOhm", some 4700, none, none⟩,
    ⟨"Frequency error added in holdover", "ppb", some (-100), none, some 100⟩,
    ⟨"Resolution of the frequency word", "ppt", none, some 1000, none⟩]

/-- Sense pin and bezel data (Table 14, R664). -/
def senseData : List Limit :=
  [
    ⟨"Source current accuracy about setting", "%", some (-1000), none, some 1000⟩,
    ⟨"Match between sources A and B", "%", some (-50), none, some 50⟩,
    ⟨"Source compliance", "V", some 1600, none, none⟩,
    ⟨"Ratio error with chop = 1, conv_ms 10 or more, ratio 0.1 to 10", "% of reading", some (-10), none, some 10⟩,
    ⟨"Ratio error with chop = 0", "% of reading", some (-60), none, some 60⟩,
    ⟨"Leakage, pin 0 V to 1.6 V, not steered", "uA", none, none, some 100⟩,
    ⟨"Leakage, pin at 13.2 V", "uA", none, none, some 50000⟩,
    ⟨"SNS_COM resistance to GND", "Ohm", none, none, some 500⟩,
    ⟨"Short-flag threshold, rising", "V", some 2300, some 2500, some 2700⟩,
    ⟨"Short-flag release, falling", "V", some 1800, some 2000, some 2200⟩,
    ⟨"SNSOUT frequency error in mode 1", "ppm, plus the error of XO_IN", some (-50000), none, some 50000⟩]

/-! ### Power (R652) -/

/-- The load of one line port in W, by the code of the line mode, 3T2 first (Table 4): converters, millrace, transmit DSP, FEC, framing and sluice. -/
def portLoad : Nat → List Nat
  | 0 => [13, 12, 4, 8, 2] | 1 => [13, 12, 4, 6, 2] | 2 => [13, 9, 3, 4, 2] | _ => [13, 6, 2, 2, 2]

/-- Typical power from VIN in mW with both ports in a mode, all else at full load: 110 W of load less twice the drop of one port, divided by
0.932. -/
def activePower (mode : Nat) : Nat := (110 - 2 * ((portLoad 0).sum - (portLoad mode).sum)) * 1000000 / 932

/-- Typical values of Table 3 in uW: the AZ6400-CN in 3T2 at full load, a feathered port, a dormant lane, minimal state; and the typical and the
greatest current in sealed standby in nA (R61). -/
def cnPower : Nat := 110000000
def featheredPower : Nat := 4000000
def dormantPower : Nat := 1500
def minimalPower : Nat := 9000000
def sealedCurrent : Nat × Nat := (180, 240)

/-- Maxima of Table 3 in mW: by line mode at full load, of a feathered port, of a dormant lane, and of minimal state. -/
def activeMax (isCN : Bool) : Nat → Nat
  | 0 => if isCN then 127000 else 136000 | 1 => 131000 | 2 => 116000 | _ => 101000
def featheredMax : Nat := 5000
def dormantMax : Nat := 2
def minimalMax : Nat := 12000

/-! ### What settings give (R654, R655, R659) -/

/-- The full scale of an ADC channel at a gain setting, in 0.01 dB relative to 800 mV peak to peak (R654). -/
def adcFullScale (setting : Nat) : Int := -50 * setting

/-- The full-scale current in uA, the differential swing in uV, and the common mode in mV of a DAC at its settings (R655). -/
def dacFullScale (k : Nat) : Nat := 10000 + 500 * k
def dacSwing (k : Nat) : Nat := 50 * dacFullScale k
def dacCommonMode (j : Nat) : Nat := 300 + 30 * j

/-- CTLE peaking at 26.5625 GHz of a code, in 1/1,000 dB: least, typical, most (Table 11). -/
def ctlePeaking (k : Nat) : Int × Int × Int := (500 * (k : Int) - 500, 500 * (k : Int), 500 * (k : Int) + 500)

/-- The impedances in Ohm that the interface to DRAM may drive with, and terminate with on a read (Table 12). -/
def ddrDrives : List Nat := [34, 40, 48]
def ddrTerminations : List Nat := [40, 48, 60, 80, 120, 240]

/-- The level that a 1.8 V input shows at a voltage in mV; none between the two levels (Table 9). -/
def inputLevel (mv : Int) : Option Bool := if 1170 ≤ mv then some true else if mv ≤ 630 then some false else none

/-! ### Serial control ports (R658) -/

/-- The timing of an SPI port (Table 10): highest clock in MHz; then in ps the least high and low time, setup and hold, the most from clock to
output, and the least high time of the select line between frames. -/
structure SpiTiming where
  clock : Nat
  halfPeriod : Nat
  setup : Nat
  hold : Nat
  out : Nat
  gap : Nat
deriving DecidableEq, Repr

/-- The host SPI target, the boot flash controller, and the optics control port. -/
def hspiTiming : SpiTiming := ⟨50, 9000, 3000, 2000, 7000, 40000⟩
def bspiTiming : SpiTiming := ⟨100, 4500, 2000, 1500, 3500, 20000⟩
def opcTiming : SpiTiming := ⟨25, 18000, 5000, 3000, 10000, 80000⟩

/-! ### Package (R649) -/

/-- Moisture sensitivity level, and the reflow peak in degrees C. -/
def moistureLevel : Nat := 3
def reflowPeak : Nat := 250

end Sys2Proof.Machine
end

