-- ==== Sys2Proof/Tests/Slice0.lean ====
section
/-!
SUPPORT. Sys2Proof/Tests/Slice0.lean: the model's own tests: ill-formed commands are refused, single steps on small states, and for
each statement with hypotheses a state that meets them.
-/
set_option Elab.async false
open Sys2Proof Sys2Proof.Machine

/-- A command entry: the opcode and fields, zero elsewhere. -/
def tEntry (op : Nat) (fs : List Fld) : List Byte := layFields 64 ((0, 2, op) :: fs)

/-- Firmware serves session 0, which is open in on-die mode with one command taken; the part is active and ticks. -/
def tStateMem (op : Nat) (fs : List Fld) (mem : Tab Byte) : State :=
  let x : Session := { state := .opened, enable := true, onDie := true, taken := [⟨0, tEntry op fs, .waiting⟩], mem := mem }
  { State.reset with
    tick := 5
    power := { phase := .active, vinGood := true, pwrgd := true }
    boot := { service := .firmware, running := some 0 }
    clk := { ticking := true, datapathLocked := true }
    sessions := [(0, x)] }

/-- The same with an empty data buffer. -/
def tState (op : Nat) (fs : List Fld) : State := tStateMem op fs []

/-- The command it holds. -/
def tCmd : CmdRef := ⟨0, 0⟩

theorem test_step_front : ({ State.reset with pending := [Instr.powerDown] }).pending = Instr.powerDown :: [] ∧
    State.reset.pending = [] := by decide

theorem test_wit_first_failure :
    let s := tState 0x0100 [(12, 4, 1)]
    let t : Taken := ⟨0, tEntry 0x0100 [(12, 4, 1)], .waiting⟩
    findTaken s tCmd = some t ∧ cmdInfo 0x0100 = some { cls := .urgent, perm := 0 } ∧ served s 0 = true ∧
    entryOpcode t.entry = 0x0100 ∧ mayStart s tCmd t = true ∧
    firstFail (headerChecks s 0 { cls := .urgent, perm := 0 } [] t.entry ++ []) = some .eBadParam ∧
    firstFail [(false, .eState), (true, .eState), (true, .eRange)] = some .eRange ∧
    cmdInfo (entryOpcode (tEntry 0xFFFF [])) = none := by decide

/-- Bytes as one field of an entry. -/
def tText (o : Nat) (t : String) : Fld := (o, (asciiBytes t).length, leNat (asciiBytes t))

theorem test_wit_nop : (ready 0x0100 [] tCmd (tState 0x0100 [])).isSome = true := by decide

theorem test_wit_attr_read :
    let s := tState 0x0101 [(16, 1, 24), tText 17 "device.house.power.state"]
    let e := tEntry 0x0101 [(16, 1, 24), tText 17 "device.house.power.state"]
    ready 0x0101 [(16, 48)] tCmd s = some e ∧
    pathField e 17 47 (fieldAt e 16 1) = some (asciiBytes "device.house.power.state") ∧
    resolvePath s (asciiBytes "device.house.power.state") = .at .powerState 0 0 ∧
    Attr.powerState.row.kind.size ≤ 44 ∧ readFails s 0 (.at .powerState 0 0) = none := by decide +kernel

theorem test_wit_attr_write :
    let fs := [(16, 1, 26), (17, 1, 1), tText 18 "device.house.reset.request", (56, 8, 1)]
    let s := tState 0x0102 fs
    let e := tEntry 0x0102 fs
    ready 0x0102 [(16, 48)] tCmd s = some e ∧
    pathField e 18 38 (fieldAt e 16 1) = some (asciiBytes "device.house.reset.request") ∧
    resolvePath s (asciiBytes "device.house.reset.request") = .at .resetRequest 0 0 ∧
    Attr.resetRequest.row.kind.size ≤ 8 ∧ 1 ≤ fieldAt e 17 1 ∧ fieldAt e 17 1 ≤ 8 ∧
    ((bytesAt e 56 8).drop (fieldAt e 17 1)).all (· = 0) = true ∧
    writeFails s 0 (.at .resetRequest 0 0) (bytesAt e 56 (fieldAt e 17 1)) = none := by decide +kernel

theorem test_wit_attr_batch :
    let fs := [(16, 4, 1), (20, 4, 32), (32, 4, 16), (40, 8, 64)]
    let e := tEntry 0x0103 fs
    let s := tStateMem 0x0103 fs (memWrite [] dataBufferBase ([1, 24, 0, 0] ++ asciiBytes "device.house.power.state"))
    ready 0x0103 batchNamed tCmd s = some e ∧ 1 ≤ fieldAt e 16 4 ∧ fieldAt e 16 4 ≤ 256 ∧
    areaBad s 0 (fieldAt e 24 8) (fieldAt e 20 4) = false ∧ areaBad s 0 (fieldAt e 40 8) (fieldAt e 32 4) = false ∧
    parseItems (fieldAt e 16 4) (batchIn s 0 e []) = some [⟨false, asciiBytes "device.house.power.state", []⟩] ∧
    (([⟨false, asciiBytes "device.house.power.state", []⟩] : List BatchAttr).map (itemRoom s)).sum ≤ fieldAt e 32 4 := by
  decide +kernel

theorem test_wit_commit :
    let fs := [(16, 8, 9), (24, 4, 8)]
    let s := { tState 0x0104 fs with tables := [(3, { staging := [(0, 1)], staged := true })] }
    let e := tEntry 0x0104 fs
    ready 0x0104 [(16, 12)] tCmd s = some e ∧ 1 ≤ fieldAt e 24 4 ∧ fieldAt e 24 4 < 128 ∧ s.tick.toNat < fieldAt e 16 8 ∧
    (∀ b ∈ bitsBelow 7 (fieldAt e 24 4), commitPending s b = false ∧ tableStaged s b = true) := by decide

theorem test_wit_commit_refused :
    let fs := [(16, 8, 5), (24, 4, 8)]
    let s := tState 0x0104 fs
    let e := tEntry 0x0104 fs
    ready 0x0104 [(16, 12)] tCmd s = some e ∧ s.clk.ticking = true ∧ fieldAt e 16 8 ≤ s.tick.toNat ∧
    3 ∈ bitsBelow 7 (fieldAt e 24 4) ∧ tableStaged s 3 = false := by decide

theorem test_wit_generation_swap :
    let s := { tState 0x0104 [] with commits := [⟨5, 8, tCmd⟩] }
    s.clk.ticking = true ∧ s.commits = [⟨5, 8, tCmd⟩] ∧ (5 : Nat) ≤ s.tick.toNat ∧ bitsBelow 7 8 = [3] := by decide

theorem test_commit_aborted :
    let s := { tState 0x0104 [] with commits := [⟨9, 8, tCmd⟩, ⟨9, 16, ⟨0, 1⟩⟩] }
    (tablesAtPortReset 0 s).commits = [⟨9, 16, ⟨0, 1⟩⟩] ∧ ((tablesAtPortReset 0 s).sess 0).taken = [] := by decide

/-- A part at a power phase, with a session open. -/
def tPhase (ph : PowerPhase) : State :=
  { tState 0x0100 [] with power := { phase := ph, vinGood := ph != .off, pwrgd := true, txoDone := ph == .railHold } }

theorem test_wit_power_up : (tPhase .off).power.vinGood = false ∧ (tPhase .off).power.phase = .off ∧
    (tPhase .sequencing).power.phase = .sequencing ∧ (tPhase .railHold).power.phase = .railHold ∧
    (tPhase .waitStart).power.phase = .waitStart ∧ (tPhase .waitStart).power.txoDone = false ∧
    (tPhase .off).sealed.alive = false := by decide

theorem test_txo_of_straps : ((List.range 8).map (fun k => txoOf State.reset { xodly := k })) =
    [2000, 1, 5, 20, 100, 250, 1000, 2000] := by decide

theorem test_wit_completes : ∀ ns straps ok, Instr.txoExpiry true = .coldReset ns straps ok → ns < 1000 ∨ 10000 ≤ ns := by
  intro ns straps ok h
  cases h

theorem test_wit_cold_reset : barAlive (tPhase .active) = true ∧ (tPhase .waitStart).power.phase = .waitStart ∧
    (let s := { tPhase .sealedStandby with power := { phase := .sealedStandby, sealedByBall := true, sealHigh := false } }
     s.power.phase = .sealedStandby ∧ s.power.sealedByBall = true ∧ s.power.sealHigh = false) := by decide

theorem test_wit_warm_reset : barAlive (tPhase .active) = true ∧
    (let s := { tPhase .active with written := [(Attr.resetRequest.key 0 0, 1)] }; requestPending s = 1 ∧ barAlive s = true) ∧
    requestPending (tPhase .active) ≠ 1 ∧ ((tPhase .active).setAttr .powerSealRequest 0 0 1).attr .powerSealRequest = 1 ∧
    (tPhase .sealedStandby).power.phase = .sealedStandby ∧ (tPhase .sealedStandby).power.vinGood = true ∧
    (tPhase .sealedStandby).power.sealedByBall = false ∧
    (tPhase .active).power.vinGood = true ∧ (tPhase .active).power.phase ≠ .sealedStandby := by decide +kernel

theorem test_wit_port_reset :
    (let s := { tPhase .active with written := [(Attr.resetRequest.key 0 0, 3)] }
     requestPending s = 2 + (1 : Fin 2).val ∧ s.power.phase = .active ∧ s.clk.ticking = true ∧ s.power.portReset = none ∧ s.attr .powerSealRequest ≠ 1) ∧
    (let s := { tPhase .active with power := { phase := .active, portReset := some 1, portResetTick := 4 } }
     s.power.portReset = some 1 ∧ s.power.portResetTick < s.tick.toNat) := by decide +kernel

theorem test_wit_pcie : pcieAlive (tPhase .active) = true ∧ abovePcie (tPhase .active) = false ∧ abovePcie (tPhase .off) = true ∧
    (let s := { tPhase .active with pcie := { linkUp := true, bar0Ready := true } }
     s.pcie.linkUp = true ∧ s.pcie.bar0Ready = true ∧ (256 ∈ [128, 256]) ∧ (512 ∈ [128, 256, 512])) ∧
    ({ tPhase .active with pcie := { linkUp := true } }).pcie.bar0Ready = false := by decide

theorem test_msix_held_then_sent :
    (match exec (.pcieConfigurationWrite { busMaster := true } true false false) { tPhase .active with
        pcie := { linkUp := true, bar0Ready := true, pba := [8], msixTab := [(35, 0)] } } with
      | .next t => t.out = [.msix 8] && t.pcie.pba.isEmpty | _ => false) = true := by decide +kernel

theorem test_wit_minimal : (tPhase .active).power.phase = .active ∧ (tPhase .active).minimal = false ∧
    (let w := { tPhase .waitStart with power := { phase := .waitStart, txoDone := true } }
     w.power.phase = .waitStart ∧ w.power.txoDone = true) ∧
    (tPhase .active).attr .thermalLevel ≠ 3 ∧ (tPhase .active).attr .clockPllCoast ≠ 1 := by decide +kernel

/-- A part that waits for its clocks, with its straps. -/
def tWait (boot : Nat) : State :=
  { State.reset with power := { phase := .waitStart, vinGood := true, pwrgd := true, txoDone := true, xoGood := true
                                straps := { boot := boot } } }

/-- What RomBootFlow asks of every part that starts. -/
def tWaits (s : State) : Prop :=
  s.power.phase = .waitStart ∧ s.power.pwrgd = true ∧ s.power.txoDone = true ∧ s.power.straps.test = false ∧
    s.power.xoGood = true ∧ bitOf s.power.causes 6 = false ∧ s.minimal = false

theorem test_wit_rom_start_recovery : tWaits (tWait 2) ∧ (tWait 2).power.straps.boot % 4 = 2 := by
  unfold tWaits
  decide +kernel

theorem test_wit_rom_start : tWaits (tWait 0) ∧ (tWait 0).power.straps.boot % 4 = 0 ∧ (tWait 0).sealed.failCount < 3 ∧
    (tWait 0).sealed.lastFailed = none ∧ (tWait 0).nor.dir.preferred ≤ 1 ∧
    (tWait 0).nor.dir.mark (tWait 0).nor.dir.preferred = .confirmed := by
  unfold tWaits
  decide +kernel

theorem test_wit_rom_start_minimal :
    let s := { tWait 3 with sealed := { failCount := 3 } }
    tWaits s ∧ s.power.straps.boot % 4 = 3 ∧ 3 ≤ s.sealed.failCount := by
  unfold tWaits
  decide +kernel

theorem test_wit_hold_end : ({ tState 0x0100 [] with boot := { holding := true } }).boot.holding = true := by decide

theorem test_wit_firmware :
    (let s := { tState 0x0100 [] with boot := { running := some 0, bootWatchdog := true } }
     s.boot.running = some 0 ∧ s.boot.bootWatchdog = true) ∧
    (let s := { tState 0x0100 [] with boot := { service := .firmware, running := some 0, millerWatchdog := true } }
     s.boot.millerWatchdog = true ∧ s.power.portReset = none ∧ s.boot.running = some 0 ∧ s.nor.dir.mark 0 = .confirmed) ∧
    (let s := { tState 0x0100 [] with
       boot := { service := .firmware, running := some 0, millerWatchdog := true }
       nor := { copy0 := some (Dir.copy { markA := .unconfirmed }) } }
     s.boot.millerWatchdog = true ∧ s.power.portReset = none ∧ s.boot.running = some 0 ∧ s.nor.dir.mark 0 ≠ .confirmed) := by
  decide +kernel

theorem test_wit_image_begin :
    let s := tState 0x0301 [(16, 1, 1), (20, 4, 3)]
    let e := tEntry 0x0301 [(16, 1, 1), (20, 4, 3)]
    ready 0x0301 [(16, 1), (20, 4)] tCmd s = some e ∧ fieldAt e 16 1 ≤ 1 ∧ 3 ≤ fieldAt e 20 4 ∧ fieldAt e 20 4 ≤ 3072 ∧
    s.boot.running ≠ some (fieldAt e 16 1) ∧ s.boot.download = none ∧ s.boot.act = none := by decide

theorem test_wit_image_verify :
    (ready 0x0303 [(16, 1)] tCmd (tState 0x0303 [(16, 1, 1)])).isSome = true ∧
    (let s := { tState 0x0303 [] with boot := { service := .firmware, verify := [⟨1, tCmd⟩] } }
     s.boot.verify = [⟨1, tCmd⟩] ∧ s.boot.service = .firmware ∧ s.boot.act = none) ∧
    (let s := { tState 0x0303 [] with boot := { verify := [⟨1, tCmd⟩], act := some ⟨0, 1, ⟨0, 1⟩, false, false⟩ } }
     s.boot.verify = [⟨1, tCmd⟩] ∧ s.boot.act ≠ none) := by decide

theorem test_wit_image_confirm :
    let s := { tState 0x0305 [] with nor := { copy0 := some (Dir.copy { markA := .unconfirmed }) } }
    (ready 0x0305 [] tCmd s).isSome = true ∧ s.boot.running = some 0 ∧ s.nor.dir.mark 0 ≠ .confirmed := by decide +kernel

theorem test_wit_image_write :
    let fs := [(16, 4, 3), (20, 4, 7)]
    (ready 0x0302 [(16, 4), (20, 4)] tCmd (tState 0x0302 fs)).isSome = true ∧ (tState 0x0302 fs).boot.download = none ∧
    (let s := { tState 0x0302 fs with boot := { service := .firmware, download := some (1, 3) } }
     ready 0x0302 [(16, 4), (20, 4)] tCmd s = some (tEntry 0x0302 fs) ∧ s.boot.download = some (1, 3) ∧
     3 ≤ fieldAt (tEntry 0x0302 fs) 16 4) := by decide

/-- A fold that has its value at hand after each byte, for the kernel's evaluation. -/
def tFold (g : Nat → Byte → Nat) : List Byte → Nat → Nat
  | [], c => c
  | b :: t, c => match g c b with
    | 0 => tFold g t 0
    | n + 1 => tFold g t (n + 1)

theorem tFold_eq (g : Nat → Byte → Nat) (l : List Byte) (c : Nat) : tFold g l c = l.foldl g c := by
  induction l generalizing c with
  | nil => rfl
  | cons b t ih =>
    rw [tFold, List.foldl_cons]
    split <;> rename_i e <;> rw [e, ih]

/-- A block of zeros with its check word. -/
def tBlock : List Byte := List.replicate 4092 0 ++ leBytes 4 0xa732586e

theorem test_crc_zeros : crc32c (List.replicate 4092 0) = 0xa732586e := by
  rw [crc32c, crc32cFrom, ← tFold_eq]
  decide +kernel

theorem test_crc_block : crc32c tBlock = 0x48674bc7 := by
  rw [crc32c, crc32cFrom, ← tFold_eq]
  decide +kernel

/-- A request to write it as block 0 of the download on slot B. -/
def tWrite (w : Tab Byte) : State :=
  { tState 0x0302 [(20, 4, 0x48674bc7)] with boot := { service := .firmware, download := some (1, 3) }, bar := { imageWindow := w } }

theorem tWrite_window (w : Tab Byte) : (tWrite w).bar.imageWindow = w := rfl

theorem test_wit_image_write_block :
    let s := tWrite (memWrite [] 0 tBlock)
    let e := tEntry 0x0302 [(20, 4, 0x48674bc7)]
    ready 0x0302 [(16, 4), (20, 4)] tCmd (tWrite []) = some e ∧ (tWrite []).boot.download = some (1, 3) ∧
    fieldAt e 16 4 < 3 ∧ crc32c (windowBlock s) = fieldAt e 20 4 ∧ blockGood (windowBlock s) = true := by
  intro s e
  have hw : windowBlock s = tBlock := windowBlock_memWrite s tBlock (by rw [tBlock, List.length_append, List.length_replicate, leBytes_length]) (tWrite_window _)
  refine ⟨by decide, by decide, by decide, ?_, ?_⟩
  · rw [hw, test_crc_block]
    decide
  · rw [hw, tBlock, ← test_crc_zeros]
    exact blockGood_append _ List.length_replicate

theorem test_wit_activate_preferred :
    let fs := [(16, 1, 1), (17, 1, 1)]
    let s := tState 0x0304 fs
    let e := tEntry 0x0304 fs
    ready 0x0304 [(16, 1), (17, 1)] tCmd s = some e ∧ fieldAt e 17 1 = 1 ∧ fieldAt e 16 1 ≤ 1 ∧
    s.nor.dir.mark (fieldAt e 16 1) ≠ .invalid ∧
    (let s := { s with nor := { copy0 := some (Dir.copy { markB := .invalid }) } }
     ready 0x0304 [(16, 1), (17, 1)] tCmd s = some e ∧ s.nor.dir.mark (fieldAt e 16 1) = .invalid) := by decide +kernel

theorem test_wit_activation :
    (let a : Activation := ⟨1, 0, tCmd, true, false⟩
     let s := { tState 0x0304 [] with
       boot := { service := .firmware, running := some 0, act := some a }
       nor := { copy0 := some (Dir.copy { markB := .unconfirmed, trialB := true }) } }
     s.boot.act = some a ∧ a.paused = true ∧ a.slot ≤ 1 ∧ a.previous = 1 - a.slot ∧ s.nor.dir.mark a.slot = .unconfirmed ∧
     s.nor.dir.trial a.slot = true ∧ s.nor.dir.mark a.previous = .confirmed) ∧
    (let a : Activation := ⟨1, 0, tCmd, false, false⟩
     let s := { tState 0x0304 [] with boot := { service := .firmware, running := some 0, act := some a } }
     s.boot.act = some a ∧ a.paused = false) := by decide +kernel

theorem test_wit_activate_hitless :
    let fs := [(16, 1, 1)]
    let e := tEntry 0x0304 fs
    let s := ({ tState 0x0304 fs with boot := { service := .firmware, running := some 0, staged := some 1 } }).setAttr
      .firmwareSyentRelease 0 0 0xFF00
    ready 0x0304 [(16, 1), (17, 1)] tCmd s = some e ∧ fieldAt e 17 1 = 0 ∧ fieldAt e 16 1 ≤ 1 ∧
    s.boot.staged = some (fieldAt e 16 1) ∧ s.boot.running ≠ some (fieldAt e 16 1) ∧ s.boot.act = none ∧
    fieldAt (s.nor.block (fieldAt e 16 1) 0) 12 2 / 256 = s.attrN .firmwareSyentRelease / 256 := by decide +kernel

theorem test_wit_boot_retry :
    (let s := { tState 0x0306 [] with boot := { service := .rom }, sealed := { failCount := 3 } }
     (ready 0x0306 [] tCmd s).isSome = true ∧ s.boot.recovery = false ∧ s.boot.service ≠ .firmware ∧ s.boot.retry = false ∧
     barAlive s = true) ∧
    (let s := tState 0x0306 []
     (ready 0x0306 [] tCmd s).isSome = true ∧ s.boot.service = .firmware ∧ s.minimal = false) := by decide +kernel

theorem test_wit_alive : barAlive (tPhase .active) = true ∧ barAlive (tPhase .minimal) = true := by decide

theorem test_wit_bar : (let s := { tPhase .active with pcie := { linkUp := true, bar0Ready := true } }
    barAlive s = true ∧ s.pcie.bar0Ready = true ∧ s.pcie.d3hot = false ∧ wbit s.pcie.aer.uncorSeverity 20 = false ∧
    gatedOffset s 0xE000 = true ∧ gatedOffset s 0xFF08 = false ∧ 0xFF08 % 4 = 0 ∧
    wbit 8 3 = true ∧ isW1c 0x0010 = false ∧ (0x1800 ≤ 0x2000 ∧ 0x2000 < 0x2400)) := by
  decide +kernel

theorem test_wit_tick_reads : barAlive (tPhase .active) = true ∧ (tPhase .active).pcie.d3hot = false ∧
    (let s := { tPhase .active with pcie := { d3hot := true } }
     barAlive s = true ∧ s.pcie.d3hot = true) := by decide

theorem test_wit_perf_ctrl : (tPhase .active).clk.ticking = true ∧ ({ tPhase .active with clk := {} }).clk.ticking = false ∧
    (let b : Bar := { freeze := true, snapshotPending := true }
     ({ tPhase .active with bar := b }).clk.ticking = true ∧ b.freeze = true ∧ b.frozen = false ∧ b.snapshotPending = true) ∧
    (let b : Bar := { freeze := true, frozen := true }
     b.freeze = true ∧ b.frozen = true ∧ b.snapshotPending = false) := by decide

theorem test_wit_alarms : wbit ({ tPhase .active with bar := { alarms := 8 } }).bar.alarms 3 = true ∧
    wbit (tPhase .active).bar.alarms 3 = false := by decide

theorem test_wit_session_open : (let s := tPhase .active
    barAlive s = true ∧ (s.sess (3 : Fin 8)).state = .closed ∧ (s.sess (3 : Fin 8)).enable = false ∧
    wbit 3 4 = false ∧ s.power.straps.hostif = false) := by decide

/-- Session 2 in a state, with its registers. -/
def tSess (x : Session) : State := { tPhase .active with sessions := [(2, x)] }

theorem test_wit_sessions :
    (let s := tSess { state := .opened, enable := true, cmdProducer := 250, cmdConsumer := 250, rspProducer := 3 }
     barAlive s = true ∧ (s.sess (2 : Fin 8)).state = .opened ∧ (s.sess (2 : Fin 8)).enable = true ∧ s.canPost = true ∧
     ((250 : Nat) + 512 - 250) % 512 ≤ ((506 : Word).toNat % 512 + 512 - 250) % 512 ∧
     ((506 : Word).toNat % 512 + 512 - 250) % 512 ≤ 256 ∧ 256 < ((507 : Word).toNat % 512 + 512 - 250) % 512 ∧
     ((3 : Word).toNat % 512 + 512 - 0) % 512 ≤ (s.sess (2 : Fin 8)).ringUsed ∧
     (s.sess (2 : Fin 8)).ringUsed < ((4 : Word).toNat % 512 + 512 - 0) % 512) ∧
    (let s := tSess { state := .closing, enable := true }
     (s.sess (2 : Fin 8)).state = .closing ∧ (s.sess (2 : Fin 8)).taken = [] ∧ (s.sess (2 : Fin 8)).hold = []) ∧
    ((tPhase .active).sess (2 : Fin 8)).enable = false ∧ ((tPhase .active).sess (2 : Fin 8)).state = .closed ∧
    wbit 6 0 = false ∧ wbit 6 4 = false ∧ (tPhase .active).power.straps.hostif = false := by
  decide

theorem test_wit_take :
    (let s := { tStateMem 0x0100 [] [(0, 2), (1, 3)] with
       sessions := [(1, { state := .opened, enable := true, onDie := true, cmdProducer := 1, mem := [(0, 2), (1, 3)] })] }
     canTake s (1 : Fin 8) = true ∧ canTake (s.setAttr .firmwareLoadPct 0 0 90) (1 : Fin 8) = true ∧
     ringEntry (s.sess (1 : Fin 8)) none = some (tEntry 0x0302 []) ∧
     cmdInfo (entryOpcode (tEntry 0x0302 [])) = some { cls := .bulk, perm := 2, rom := true } ∧
     s.boot.service = .firmware ∧ ¬ 85 < s.attr .firmwareLoadPct ∧
     85 < (s.setAttr .firmwareLoadPct 0 0 90).attr .firmwareLoadPct) ∧
    (let s := { tPhase .active with
       pcie := { linkUp := true, busMaster := true }, sessions := [(1, { state := .opened, enable := true, cmdProducer := 1 })] }
     canTake s (1 : Fin 8) = true ∧ (s.sess (1 : Fin 8)).onDie = false) := by decide +kernel

theorem test_wit_events : (tState 0x0100 []).boot.service ≠ .rom ∧ receivers (setAlarm 3 (tSess {})) 3 = [] ∧
    ({ tState 0x0100 [] with boot := { service := .rom } }).boot.service = .rom := by decide

theorem test_event_reaches_session_0 :
    ((raise 0x0301 0 noIndex [] (tState 0x0100 [])).sess 0).rspProducer = 1 ∧
    (raise 0x0301 0 noIndex [] (tState 0x0100 [])).bar.eventSeq = 2 := by decide +kernel

theorem test_wit_gates : (let s := { tPhase .active with gates := { relChC2l := [7], stopChC2l := [7], pending := true } }
    s.clk.ticking = true ∧ s.gates.pending = true ∧ barAlive s = true ∧ (1 : Word) ≠ 0 ∧ wbit 1 0 = true ∧ 15 < 16) ∧
    (tPhase .active).gates.pending = false := by decide

theorem test_gate_stop_wins : (gateBoundary { tPhase .active with
    gates := { relChC2l := [7, 8], stopChC2l := [7], pending := true } }).gates.chC2l = [8] := by decide

theorem test_wit_spi : (let s := tPhase .active
    barAlive s = true ∧ bitOf (s.attrN .pinsFault) 12 = false ∧ gatedOffset s 0xFF08 = false ∧ gatedOffset s 0xE000 = true ∧
    ((0xFF : Byte).toNat * 256 + (0x08 : Byte).toNat) % 4 = 0 ∧ ((0xFF : Byte).toNat * 256 + (0x09 : Byte).toNat) % 4 ≠ 0 ∧
    bitOf ((s.setAttr .pinsFault 0 0 4096).attrN .pinsFault) 12 = true ∧ ([1, 2, 3, 4] : List Byte).length = 4) := by
  decide +kernel

theorem test_wit_counters : Attr.eventsLost.row.kind = .u 32 ∧
    5 ∈ perfActive ((tPhase .active).setAttr .perfCtrEvent 5 0 1) := by decide +kernel

theorem test_wit_written : (let s := { tPhase .active with written := [(Attr.thermalThrottle1C.key 0 0, 90)] }
    s.clk.ticking = true ∧ s.written = [(Attr.thermalThrottle1C.key 0 0, 90)] ∧
    s.isDue (Attr.thermalThrottle1C.key 0 0) = true ∧ Attr.thermalThrottle1C.row.term = .nextTick ∧
    Attr.thermalThrottle1C ∉ [.resetRequest, .fecMode, .convTestMode, .fecTxInjectPeriod, .laneIfType, .laneDormant, .perfCtrEvent,
      .perfCtrInstance, .perfCtrThreshold, .mrTiaIndexX, .mrTiaIndexY, .timRefPriority]) ∧
    ({ tPhase .active with written := [(Attr.thermalThrottle1C.key 0 0, 90)], fresh := [Attr.thermalThrottle1C.key 0 0] }).isDue
      (Attr.thermalThrottle1C.key 0 0) = false ∧ State.reset.clk.ticking = false := by decide

/-- Domain 18 at a ratio of a ramp. -/
def tDom (n : Nat) (r : Ramp) : State := { tPhase .active with clk := { domains := [(18, ⟨n, r⟩)] } }

theorem test_wit_ramp : ((tDom 4 .starting).dom (18 : Fin 64)).ramp = .starting ∧ domainExists (tDom 4 .stopping) 18 = true ∧
    ((tDom 4 .stopping).dom (18 : Fin 64)).ramp = .stopping ∧ ((tDom 4 .switching).dom (18 : Fin 64)).ramp = .switching ∧
    (let s := { tPhase .active with clk := { domains := [(1, ⟨16, .switching⟩)] } }
     (s.dom (1 : Fin 64)).ramp = .switching ∧ (1 : Fin 64).val = 1 ∧ (s.dom (1 : Fin 64)).ratio = 16) ∧ ((tDom 1 .idle).dom (18 : Fin 64)).ramp = .idle ∧
    ((tDom 1 .idle).dom 22).ramp = .idle ∧ ((tDom 1 .idle).dom 22).ratio = 0 ∧ domainExists (tDom 1 .idle) 22 = true := by
  decide +kernel

/-- Nothing shown in a tick. -/
def tTick : TickIn := {}

theorem test_wit_tick : barAlive (tPhase .booting) = true ∧ (tPhase .booting).clk.ticking = true ∧
    (let s := { tPhase .booting with clk := {}, power := { phase := .booting, xoGood := true } }
     barAlive s = true ∧ s.clk.ticking = false ∧ s.power.xoGood = true) ∧
    (let s := { tPhase .booting with clk := {} }
     barAlive s = true ∧ s.clk.ticking = false ∧ s.power.xoGood = false) ∧
    barAlive (tPhase .off) = false := by decide

theorem test_wit_tick_stands :
    let s := { tPhase .booting with clk := {}, power := { phase := .booting, xoGood := true } }
    let v := if s.clk.ticking then tickEnd tTick s else tickZero s
    let w := if latchDue v then pmLatch v else v
    let u := portResetEnd (effectBoundary (perfCtrlBoundary (gateBoundary { w with fresh := [] })))
    barAlive s = true ∧ s.power.xoGood = true ∧ requestPending u ≠ 1 ∧ u.attr .powerSealRequest ≠ 1 := by decide +kernel

theorem test_tick_counts : (match exec (.tickBoundary tTick) (tPhase .booting) with
    | .next t => t.tick.toNat | _ => 0) = 6 := by decide +kernel

theorem test_wit_latch :
    (let s := { tPhase .active with timing := { latchOwed := true } }
     latchDue s = true) ∧ latchDue { tPhase .active with clk := {} } = false ∧
    ({ tPhase .active with acc := [(7, 3)] }).acc = [(7, 3)] ∧
    barAlive { tPhase .booting with clk := {} } = true ∧ ({ tPhase .booting with clk := {} }).clk.ticking = false ∧
    (let s := { tPhase .active with timing := { tai := secondUnits - 5 } }
     barAlive s = true ∧ s.clk.ticking = true ∧ edgeAhead s = some 5 ∧ s.timing.ppsDone = false) ∧
    edgeAhead (tPhase .active) = none := by decide +kernel

/-- Core 0 of `line0` in a rotation step, with spare 48. -/
def tRot (r : Rotation) (tick : Nat) : State :=
  (({ tPhase .active with tick := BitVec.ofNat 64 tick }).setAttr .convState 0 0 2).setCore 0 0 { coreReset 0 with rot := r }

theorem test_wit_rotation :
    rotationMay (tRot {} 9) (0 : Fin 2) (0 : Fin 12) = true ∧ rotationMay State.reset (0 : Fin 2) (0 : Fin 12) = false ∧
    (let s := tRot ⟨.shadow 46, 0, 0, 0, 0⟩ 192512
     (s.core (0 : Fin 2) (0 : Fin 8)).rot.phase = .shadow 46 ∧ 46 < 47 ∧
     s.tick.toNat = (s.core (0 : Fin 2) (0 : Fin 8)).rot.start + 4096 * (46 + 1)) ∧
    (let s := tRot ⟨.shadow 47, 0, 0, 0, 0⟩ 196608
     (s.core (0 : Fin 2) (0 : Fin 12)).rot.phase = .shadow 47 ∧ (s.core (0 : Fin 2) (0 : Fin 12)).spare = some 48 ∧
     s.tick.toNat = (s.core (0 : Fin 2) (0 : Fin 12)).rot.start + shadowTicks (0 : Fin 12)) := by decide +kernel

theorem test_wit_solve :
    (let s := tRot ⟨.solve, 0, 5, 0, 0⟩ 9
     (s.core (0 : Fin 2) (0 : Fin 12)).rot.phase = .solve ∧ (s.core (0 : Fin 2) (0 : Fin 12)).spare = some 48 ∧
     fwBackground s = true ∧ solveLate s (s.core (0 : Fin 2) (0 : Fin 12)) = false) ∧
    (let s := tRot ⟨.solve, 0, 5, 0, 0⟩ 9000
     (s.core (0 : Fin 2) (0 : Fin 12)).rot.phase = .solve ∧ (s.core (0 : Fin 2) (0 : Fin 12)).spare = some 48 ∧
     fwBackground s = true ∧ solveLate s (s.core (0 : Fin 2) (0 : Fin 12)) = true) ∧
    fwBackground State.reset = false := by decide +kernel

/-- An element that one selection brings within every limit, and one that none does. -/
def tElement (offset : Int) : List ElementError := [⟨0, 0, offset, 0, 0⟩]

theorem test_wit_confirm :
    (let s := tRot ⟨.confirm, 0, 5, 9, 0⟩ 4105
     (s.core (0 : Fin 2) (0 : Fin 12)).rot.phase = .confirm ∧ (s.core (0 : Fin 2) (0 : Fin 12)).spare = some 48 ∧
     (s.core (0 : Fin 2) (0 : Fin 12)).target (0 : Fin 12) = some 0 ∧
     (s.core (0 : Fin 2) (0 : Fin 12)).rot.confirmStart + 4096 ≤ s.tick.toNat ∧ rotationAllowed s (0 : Fin 2) = true) ∧
    (let s := tRot ⟨.confirm, 0, 5, 9, 0⟩ 4104
     s.tick.toNat ≤ (s.core (0 : Fin 2) (0 : Fin 12)).rot.confirmStart + 4095) ∧
    trimmable 0 0 (tElement 1088) = true ∧ trimmable 0 0 (tElement 1089) = false ∧ trimmable 0 48 [] = false := by
  decide +kernel

/-- The worked example of chapter 06: 63 degrees C between 13 steps at 50 and 22 steps at 80 gives 17 steps. -/
theorem test_trim_example : trimTarget { State.reset with
    factoryTrims := [(4 * 8 + 2, 12), (4 * 8 + 3, 20)]
    convs := [(0, { deltas := [(4 * 8 + 2, 1), (4 * 8 + 3, 2)] })] } 0 4 (63 * 16) = 17 := by decide +kernel

/-- `line0` in service with its capture block enabled. -/
def tConvOn (op : Nat) (fs : List (Nat × Nat × Nat)) : State :=
  let s := (tState op fs).setAttr .clockBlockEnable 0 0 0x300
  { s with clk := { ticking := true, domains := [(18, ⟨1, .idle⟩), (22, ⟨1, .idle⟩)] } }

theorem test_wit_calibrate :
    let fs := [(18, 1, 3)]
    let s := tConvOn 0x0601 fs
    let e := tEntry 0x0601 fs
    let p := fieldAt e 16 1
    ready 0x0601 [(16, 3)] tCmd s = some e ∧ p ≤ 1 ∧ fieldAt e 17 1 ≤ 1 ∧ 1 ≤ fieldAt e 18 1 ∧ fieldAt e 18 1 ≤ 3 ∧
    s.attr .convState p ≠ 4 ∧ s.attr .featherState p = 0 ∧ (s.conv p).fg = none ∧ (s.conv p).cap.armed = none ∧
    gated s (8 + p) = false := by decide +kernel

theorem test_wit_diag :
    let fs := [(20, 4, 4096)]
    let s := (tConvOn 0x0602 fs).setAttr .convTestMode 0 0 1
    let e := tEntry 0x0602 fs
    ready 0x0602 [(16, 3), (20, 4)] tCmd s = some e ∧ fieldAt e 16 1 ≤ 1 ∧ fieldAt e 17 1 ≤ 3 ∧ fieldAt e 18 1 ≤ 4 ∧
    4096 ≤ fieldAt e 20 4 ∧ fieldAt e 20 4 ≤ 4194304 ∧ fieldAt e 20 4 % 4096 = 0 ∧
    s.attr .convTestMode (fieldAt e 16 1) = 1 ∧
    (let t := (tPhase .active).setConv 0 { diags := [⟨tCmd, 0, 0, 4096, 5⟩] }
     (t.conv (0 : Fin 2)).diags = ⟨tCmd, 0, 0, 4096, 5⟩ :: []) := by decide +kernel

theorem test_wit_capture_arm :
    let fs := [(18, 1, 15), (24, 4, 524288)]
    let s := tConvOn 0x0603 fs
    let e := tEntry 0x0603 fs
    let p := fieldAt e 16 1
    let n := fieldAt e 24 4
    ready 0x0603 [(16, 5), (24, 4), (32, 8)] tCmd s = some e ∧ p ≤ 1 ∧ fieldAt e 17 1 ≤ 2 ∧ 1 ≤ fieldAt e 18 1 ∧
    fieldAt e 18 1 ≤ 15 ∧ fieldAt e 19 1 ≤ 3 ∧ fieldAt e 20 1 ≤ 16 ∧ 4096 ≤ n ∧ n ≤ 2097152 ∧ n % 4096 = 0 ∧
    n * maskChannels (fieldAt e 18 1) ≤ 2097152 ∧ (s.conv p).cap.armed = none ∧ gated s (8 + p) = false ∧
    (s.conv p).fg = none ∧ s.attr .convState p ≠ 4 ∧ fieldAt e 19 1 ≠ 1 := by decide +kernel

/-- A capture unit. -/
def tCap (k : Capture) (s : State) : State := s.setConv 0 { cap := k }

/-- It is armed for the host command at point 2, channel XI. -/
def tArmed : CapCfg := ⟨2, 1, 0, 0, 4096, 0⟩

theorem test_wit_capture_trigger :
    let s := tCap { armed := some tArmed } (tConvOn 0x0604 [])
    let e := tEntry 0x0604 []
    ready 0x0604 [(16, 1)] tCmd s = some e ∧ fieldAt e 16 1 ≤ 1 ∧ gated s (8 + fieldAt e 16 1) = false ∧
    (s.conv (fieldAt e 16 1)).cap.armed = some tArmed ∧ tArmed.trigger = 0 := by decide +kernel

theorem test_wit_capture_read :
    let fs := [(24, 4, 64), (28, 4, 1)]
    let s := tCap { bank0 := some ⟨1, 5, 0, 0, 64, []⟩ } (tConvOn 0x0605 fs)
    let e := tEntry 0x0605 fs
    let p := fieldAt e 16 1
    let n := fieldAt e 24 4
    let b : CapBank := ⟨1, 5, 0, 0, 64, []⟩
    ready 0x0605 [(16, 3), (20, 4), (24, 4), (28, 4), (32, 8)] tCmd s = some e ∧ p ≤ 1 ∧ fieldAt e 17 1 ≤ 1 ∧
    fieldAt e 18 1 ≤ 1 ∧ fieldAt e 20 4 % 64 = 0 ∧ n % 64 = 0 ∧ 64 ≤ n ∧ n ≤ 65536 ∧ n ≤ 8192 ∧ fieldAt e 32 8 + n ≤ 8192 ∧
    gated s (8 + p) = false ∧ (s.conv p).cap.bank (fieldAt e 17 1) = some b ∧ fieldAt e 20 4 + n ≤ b.size ∧
    b.seq = fieldAt e 28 4 ∧ b.epoch = s.attrN .lineEpoch p ∧ b.dieId = s.attrN .identityDieId := by decide +kernel

theorem test_wit_capture_disarm :
    let s := tConvOn 0x0606 []
    let e := tEntry 0x0606 []
    ready 0x0606 [(16, 1)] tCmd s = some e ∧ fieldAt e 16 1 ≤ 1 ∧ gated s (8 + fieldAt e 16 1) = false := by decide +kernel

theorem test_wit_capture :
    (let s := tCap { armed := some tArmed, triggered := true } (tPhase .active)
     (s.conv (0 : Fin 2)).cap.armed = some tArmed ∧ (s.conv (0 : Fin 2)).cap.running = none ∧
     (s.conv (0 : Fin 2)).cap.triggered = true ∧ s.clk.ticking = true) ∧
    (let r : CapRun := ⟨0, 5, 0, 0, tArmed, 0, 0, [], []⟩
     let s := tCap { running := some r } (tPhase .active)
     (s.conv (0 : Fin 2)).cap.running = some r ∧ captureWhole s r [] = true ∧ r.bank ≤ 1) ∧
    (let r : CapRun := ⟨0, 6, 0, 0, tArmed, 0, 0, [], []⟩
     let s := tCap { running := some r } (tPhase .active)
     (s.conv (0 : Fin 2)).cap.running = some r ∧ captureWhole s r [] = false) ∧
    (capTrigger 0 (tCap { queued := true, triggered := true } (tPhase .active))).1 = 2 := by decide +kernel

/-- A calibration of `line0` under way. -/
def tFg (rx tx atBoot : Bool) (start : Option Nat) : State :=
  (tPhase .active).setConv 0 { fg := some { full := true, rx := rx, tx := tx, cmd := none, atBoot := atBoot, start := start } }

theorem test_wit_calibration :
    (let j : FgJob := { full := true, rx := true, tx := true, cmd := none, atBoot := true }
     let s := tFg true true true none
     (s.conv (0 : Fin 2)).fg = some j ∧ j.start = none ∧ s.clk.ticking = true ∧ j.rx = true ∧ j.tx = true ∧ j.atBoot = true) ∧
    (let j : FgJob := { full := true, rx := true, tx := false, cmd := none, atBoot := false, start := some 3 }
     let s := tFg true false false (some 3)
     (s.conv (0 : Fin 2)).fg = some j ∧ j.start = some 3 ∧ j.rx = true ∧ j.rxDone = false ∧ j.tx = false) ∧
    (let j : FgJob := { full := true, rx := false, tx := true, cmd := none, atBoot := false, start := some 3 }
     let s := tFg false true false (some 3)
     (s.conv (0 : Fin 2)).fg = some j ∧ j.start = some 3 ∧ j.tx = true ∧ j.txDone = false ∧ j.rx = false) := by
  decide +kernel

theorem test_wit_cell_record :
    let s := { (tPhase .active).setConv 0 { deltas := [(4 * 8 + 2, 3)] } with tick := 16875000000 }
    (4 ∈ trimKeys s (0 : Fin 2)) ∧ s.boot.service = .firmware ∧ movedEnough s (0 : Fin 2) (0 : Fin 12) = true ∧
    (s.core (0 : Fin 2) (0 : Fin 12)).lastWrite + 16875000000 ≤ s.tick.toNat ∧
    movedEnough (tPhase .active) (0 : Fin 2) (0 : Fin 12) = false := by decide +kernel

/-- A millrace of `line0` in a state. -/
def tMr (st : Int) (m : Millrace) : State :=
  (((tPhase .active).setConv 0 { rxIn := true }).setAttr .mrState 0 0 st).setMr 0 m

theorem test_wit_tia :
    tiaDue (((tMr 8 { x := { limitRun := 64, error := -200 } }).setAttr .mrTiaMode 0 0 1).setAttr .mrTiaSteps 0 0 4) (0 : Fin 2)
      false = true ∧ tiaDue State.reset (0 : Fin 2) false = false ∧
    (let s := { tMr 8 { x := { tia := some ⟨4, true, 6⟩ } } with tick := 5000 }
     ((s.mr (0 : Fin 2)).pair false).tia = some ⟨4, true, 6⟩ ∧ (s.conv (0 : Fin 2)).rxIn = true ∧
     320 * 4 + 1000 * s.attrN .mrTiaSettleUs (0 : Fin 2) ≤ 1280 * s.tick.toNat) ∧
    (let s := (tPhase .active).setMr 0 { x := { tia := some ⟨4, true, 6⟩ } }
     ((s.mr (0 : Fin 2)).pair false).tia = some ⟨4, true, 6⟩ ∧ (s.conv (0 : Fin 2)).rxIn = false) := by decide +kernel

theorem test_wit_search :
    (tMr 3 {}).attr .mrState (0 : Fin 2) = 3 ∧ ((tMr 3 {}).mr (0 : Fin 2)).loopCount < 433 ∧ (tMr 2 {}).attr .mrState (0 : Fin 2) < 3 ∧
    (let s := tMr 2 { search := { cands := [0, 100], since := 1 } }
     (s.mr (0 : Fin 2)).search.cands = 0 :: 100 :: [] ∧ s.attr .mrState (0 : Fin 2) = 2 ∧
     (s.mr (0 : Fin 2)).search.since + 4 ≤ s.tick.toNat) ∧
    (let s := tMr 2 { search := { cands := [100], since := 1 } }
     (s.mr (0 : Fin 2)).search.cands = [100] ∧ s.attr .mrState (0 : Fin 2) = 2 ∧
     (s.mr (0 : Fin 2)).search.since + 4 ≤ s.tick.toNat ∧ (s.mr (0 : Fin 2)).search.fine = false) ∧
    (let s := tMr 2 { search := { cands := [100], fine := true, since := 1 } }
     (s.mr (0 : Fin 2)).search.cands = [100] ∧ (s.mr (0 : Fin 2)).search.since + 4 ≤ s.tick.toNat ∧
     (s.mr (0 : Fin 2)).search.fine = true) ∧
    (let s := tMr 8 { retune := some (600, 5) }
     (s.mr (0 : Fin 2)).retune = some (600, 5) ∧ s.attr .mrState (0 : Fin 2) = 8 ∧ 5 ≤ s.tick.toNat) := by decide +kernel

theorem test_wit_frame :
    let f : FrameIn := { mode := some 0, snr := 2000 }
    ∀ st ∈ [5, 6, 7, 8], let s := tMr st {}
      (s.conv (0 : Fin 2)).rxIn = true ∧ s.clk.ticking = true ∧ (s.tx (0 : Fin 2)).announce = none ∧
      (s.mr (0 : Fin 2)).reacquire = none ∧ 5 ≤ s.attr .mrState (0 : Fin 2) ∧ s.attr .mrState (0 : Fin 2) ≤ 8 ∧
      (s.mr (0 : Fin 2)).lockOwed = false ∧ f.mode.map (·.val) = some (rxMode s (0 : Fin 2)) ∧ s.attr .mrState (0 : Fin 2) = st := by
  decide +kernel

/-- A frame received without a sample. -/
def tFrame : RxFrame := { number := 1, stamp := 5, taken := 8640, mode := 0 }

theorem test_wit_equaliser :
    (let s := tMr 8 { rxFrames := [tFrame] }
     6 ≤ s.attr .mrState (0 : Fin 2) ∧ (3 : Fin 16).val < modeSails (rxMode s (0 : Fin 2)) ∧
     updateSource (s.mr (0 : Fin 2)) (9 : Fin 337) = some (tFrame, 7) ∧
     (s.mr (0 : Fin 2)).changes.any (fun n => tFrame.changeBlock (s.attrN .mrRatioWord (0 : Fin 2)) n = some 7) = false ∧
     (Tab.get (0, 0) (s.mr (0 : Fin 2)).errs (3 : Fin 16)).1 = 0) ∧
    (let s := tMr 8 { rxFrames := [tFrame], changes := [5] }
     updateSource (s.mr (0 : Fin 2)) (2 : Fin 337) = some (tFrame, 0) ∧
     (s.mr (0 : Fin 2)).changes.any (fun n => tFrame.changeBlock (s.attrN .mrRatioWord (0 : Fin 2)) n = some 0) = true) ∧
    (let s := tMr 8 { rxFrames := [tFrame], errs := [(3, (10, 10))], taps := [(3, some ⟨0, 0⟩)] }
     updateSource (s.mr (0 : Fin 2)) (9 : Fin 337) = some (tFrame, 7) ∧
     Tab.get (0, 0) (s.mr (0 : Fin 2)).errs (3 : Fin 16) = (10, 10) ∧ 4 * 10 < 41 ∧
     updateSource (s.mr (0 : Fin 2)) (2 : Fin 337) = some (tFrame, 0) ∧
     (s.mr (0 : Fin 2)).changes.any (fun n => tFrame.changeBlock (s.attrN .mrRatioWord (0 : Fin 2)) n = some 0) = false ∧
     Tab.get none (s.mr (0 : Fin 2)).taps (3 : Fin 16) ≠ none ∧ 10 < 11) := by decide +kernel

theorem test_wit_acquisition :
    (let s := (tMr 0 {}).setAttr .mrLosRaw 0 0 0
     s.clk.ticking = true ∧ acqAllowed s (0 : Fin 2) = true ∧ s.attr .mrState (0 : Fin 2) = 0) ∧
    (tMr 4 {}).attr .mrState (0 : Fin 2) = 4 ∧ (-3500000 : Int).natAbs ≤ 3500000 ∧
    (tMr 1 {}).attr .mrState (0 : Fin 2) = 1 ∧ ((tMr 1 {}).mr (0 : Fin 2)).start < (tMr 1 {}).tick.toNat ∧
    ((tMr 1 {}).mr (0 : Fin 2)).x.error.natAbs ≤ 25 ∧ ((tMr 1 {}).mr (0 : Fin 2)).y.error.natAbs ≤ 25 ∧
    (tMr 3 { settled := 16 }).attr .mrState (0 : Fin 2) = 3 ∧ 16 ≤ ((tMr 3 { settled := 16 }).mr (0 : Fin 2)).settled ∧
    (tMr 5 { found := true }).attr .mrState (0 : Fin 2) = 5 ∧ ((tMr 5 { found := true }).mr (0 : Fin 2)).found = true ∧
    (tMr 6 { trained := 4 }).attr .mrState (0 : Fin 2) = 6 ∧ 4 ≤ ((tMr 6 { trained := 4 }).mr (0 : Fin 2)).trained ∧
    (tMr 7 { confirmed := 8 }).attr .mrState (0 : Fin 2) = 7 ∧ 8 ≤ ((tMr 7 { confirmed := 8 }).mr (0 : Fin 2)).confirmed := by
  decide +kernel

theorem test_wit_bounds :
    (let s := tMr 5 {}
     acqBound (rxMode s (0 : Fin 2)) (s.attrN .mrState (0 : Fin 2)) (s.mr (0 : Fin 2)).fineOnly = some 2 ∧
     (s.mr (0 : Fin 2)).start + 2 ≤ s.tick.toNat) ∧
    (let s := tMr 4 {}
     acqBound (rxMode s (0 : Fin 2)) (s.attrN .mrState (0 : Fin 2)) (s.mr (0 : Fin 2)).fineOnly = some 16 ∧
     s.tick.toNat < (s.mr (0 : Fin 2)).start + 16 + 1) ∧
    (let s := tMr 5 { regain := some 5 }
     (s.mr (0 : Fin 2)).regain = some 5 ∧ s.attr .mrState (0 : Fin 2) ≠ 8 ∧ 5 ≤ s.tick.toNat) ∧
    ((tMr 5 {}).mr (0 : Fin 2)).regain = none := by decide +kernel

/-- Table 8 of chapter 07: an error of -4.2 dB steps 8 times from 15 to 23. -/
theorem test_gain_law : ((List.range 12).foldl (fun (r : Int × Bool × Int) _ =>
    let g := gainLaw r.1 r.2.1 r.2.2
    (g.1, g.2, r.2.2 + 50 * (g.1 - r.1))) (15, false, -420)).1 = 23 := by decide +kernel

/-- The coarse and fine counts of Table 3 of chapter 07. -/
theorem test_cd_counts : [0, 2, 3].map (fun m => ((coarseFull m).length, (fineAround m 0).length)) =
    [(51, 41), (51, 41), (41, 41)] := by decide +kernel

/-- The worked example of chapter 07: the ratio word 1 + 2^-18 reads -3,815 ppb. -/
theorem test_ratio : timingPpb 0x100004000000 = -3815 := by decide +kernel

theorem test_wit_reacquire :
    (let s := (tState 0x0701 [(17, 1, 0xFF)]).setAttr .mrState 0 0 8
     let e := tEntry 0x0701 [(17, 1, 0xFF)]
     ready 0x0701 [(16, 2)] tCmd s = some e ∧ fieldAt e 16 1 ≤ 1 ∧ s.attr .mrState (fieldAt e 16 1) ≠ 0 ∧ fieldAt e 17 1 = 0xFF) ∧
    (let s := (tState 0x0701 [(17, 1, 2)]).setAttr .mrState 0 0 8
     let e := tEntry 0x0701 [(17, 1, 2)]
     ready 0x0701 [(16, 2)] tCmd s = some e ∧ s.attr .mrState (fieldAt e 16 1) ≠ 0 ∧ fieldAt e 17 1 ≤ 2) := by decide +kernel

theorem test_wit_mr_table :
    let s := tState 0x0702 [(24, 4, 64)]
    let e := tEntry 0x0702 [(24, 4, 64)]
    ready 0x0702 [(16, 2), (20, 8), (32, 8)] tCmd s = some e ∧ fieldAt e 16 1 ≤ 1 ∧ fieldAt e 17 1 ≤ 2 ∧
    fieldAt e 20 4 % 8 = 0 ∧ fieldAt e 24 4 % 8 = 0 ∧ 8 ≤ fieldAt e 24 4 ∧ fieldAt e 20 4 + fieldAt e 24 4 ≤ 40960 ∧
    fieldAt e 32 8 + fieldAt e 24 4 ≤ 8192 ∧ commitPending s (1 + fieldAt e 16 1) = false := by decide +kernel

theorem test_wit_snapshot :
    let s := tState 0x0703 [(19, 1, 1), (24, 8, 9)]
    let e := tEntry 0x0703 [(19, 1, 1), (24, 8, 9)]
    let p := fieldAt e 16 1
    ready 0x0703 [(16, 4), (24, 8)] tCmd s = some e ∧ p ≤ 1 ∧ fieldAt e 17 1 ≤ 2 ∧ fieldAt e 19 1 ≤ 1 ∧ fieldAt e 17 1 ≠ 2 ∧
    feathered s p = false ∧ inCalibration s p = false ∧ s.tick.toNat < fieldAt e 24 8 ∧
    (snapRequest 0 ⟨0, 0, 6⟩ (tMr 8 { snap := { queued := some ⟨0, 0, 6⟩ } })).1 = 2 := by decide +kernel

theorem test_wit_snapshot_read :
    let fs := [(24, 4, 64), (28, 4, 1)]
    let b : CapBank := ⟨1, 5, 0, 0, 65536, []⟩
    let s := (tState 0x0704 fs).setMr 0 { snap := { bank0 := some b } }
    let e := tEntry 0x0704 fs
    let p := fieldAt e 16 1
    let n := fieldAt e 24 4
    ready 0x0704 [(16, 3), (20, 4), (24, 4), (28, 4), (32, 8)] tCmd s = some e ∧ p ≤ 1 ∧ fieldAt e 17 1 ≤ 1 ∧ fieldAt e 18 1 ≤ 1 ∧
    fieldAt e 20 4 % 64 = 0 ∧ n % 64 = 0 ∧ 64 ≤ n ∧ n ≤ 65536 ∧ fieldAt e 32 8 + n ≤ 8192 ∧
    (s.mr p).snap.bank (fieldAt e 17 1) = some b ∧ fieldAt e 20 4 + n ≤ b.size ∧ b.seq = fieldAt e 28 4 ∧
    b.epoch = s.attrN .lineEpoch p ∧ b.dieId = s.attrN .identityDieId := by decide +kernel

theorem test_wit_snapshot_rows :
    (let s := tMr 2 { snap := { running := some (⟨0, 0, 5⟩, 1, none) } }
     (s.mr (0 : Fin 2)).snap.running = some (⟨0, 0, 5⟩, 1, none) ∧ s.clk.ticking = true ∧ 5 ≤ s.tick.toNat ∧
     1 ≤ s.attr .mrState (0 : Fin 2) ∧ s.attr .mrState (0 : Fin 2) ≤ 4) ∧
    (let s := tMr 8 { snap := { running := some (⟨0, 0, 5⟩, 1, some (5, tFrame)) } }
     (s.mr (0 : Fin 2)).snap.running = some (⟨0, 0, 5⟩, 1, some (5, tFrame)) ∧ 5 ≤ s.attr .mrState (0 : Fin 2)) ∧
    ((tMr 8 {}).mr (0 : Fin 2)).qual.last + 1024 ≤ ({ tMr 8 {} with tick := 1024 }).tick.toNat ∧
    (tMr 8 {}).tick.toNat < ((tMr 8 {}).mr (0 : Fin 2)).qual.last + 1024 ∧
    Attr.mrCfoKhz ∈ needsLock ∧ (tMr 0 {}).attr .mrState 0 ≠ 8 := by decide +kernel

/-- `line0` locked, with a decoder. -/
def tFec (x : Fec) : State := (tMr 8 {}).setFec 0 x

/-- A codeword in a place. -/
def tCw (pl : CwPlace) : Codeword :=
  { id := 0, entry := 1728, low := false, stamp := 1, index := 0, last := false, place := pl, cap := 12 }

theorem test_wit_mode :
    (let s := tState 0x0801 [(17, 1, 2)]
     let e := tEntry 0x0801 [(17, 1, 2)]
     ready 0x0801 [(16, 3)] tCmd s = some e ∧ fieldAt e 18 1 ≤ 1 ∧ fieldAt e 16 1 ≤ 1 ∧ fieldAt e 17 1 ≤ 3 ∧
     portHeld s (fieldAt e 16 1) = false ∧ (s.tx (fieldAt e 16 1)).change = none ∧ modeCuts s (fieldAt e 16 1) 2 = false) ∧
    (let s := (tState 0x0801 [(18, 1, 2)]).setTx 0 { change := some ⟨2, 5, none, false, 0⟩ }
     let e := tEntry 0x0801 [(18, 1, 2)]
     ready 0x0801 [(16, 3)] tCmd s = some e ∧ 2 ≤ fieldAt e 18 1 ∧ fieldAt e 18 1 ≤ 3 ∧ fieldAt e 16 1 ≤ 1 ∧
     portHeld s (fieldAt e 16 1) = false ∧ (s.tx (fieldAt e 16 1)).change = some ⟨2, 5, none, false, 0⟩ ∧
     s.tick.toNat + 1 ≤ 5 + 255) ∧
    (let s := { (tPhase .active).setTx 0 { change := some ⟨2, 0, none, false, 0⟩ } with tick := 256 }
     (s.tx (0 : Fin 2)).change = some ⟨2, 0, none, false, 0⟩ ∧ 0 + 256 ≤ s.tick.toNat) ∧
    ((tPhase .active).tx (0 : Fin 2)).change = none := by decide +kernel

theorem test_wit_tx_table :
    let fs := [(18, 1, 1), (24, 4, 8)]
    let s := tState 0x0802 fs
    let e := tEntry 0x0802 fs
    let b := txTableBit (fieldAt e 16 1) (fieldAt e 18 1)
    ready 0x0802 [(16, 3), (20, 8), (32, 8)] tCmd s = some e ∧ fieldAt e 16 1 ≤ 1 ∧ fieldAt e 18 1 ≤ 1 ∧ fieldAt e 17 1 ≤ 2 ∧
    fieldAt e 20 4 % 8 = 0 ∧ fieldAt e 24 4 % 8 = 0 ∧ 8 ≤ fieldAt e 24 4 ∧
    fieldAt e 20 4 + fieldAt e 24 4 ≤ txTableSize (fieldAt e 18 1) ∧
    areaBad s tCmd.session (fieldAt e 32 8) (fieldAt e 24 4) = false ∧ fieldAt e 24 4 ≤ 8192 ∧ commitPending s b = false := by
  decide +kernel

/-- `line0` locked at tick 6 with a frame that is being received. -/
def tLive : State := { tMr 8 { rxFrames := [tFrame] } with tick := 6 }

theorem test_wit_codeword_entry :
    (let u := hopperTo (0 : Fin 2) (tLive.now 440) tLive
     (u.mr (0 : Fin 2)).sourceOf 5 0 = some tFrame ∧ u.attr .mrState (0 : Fin 2) = 8 ∧
     (tFrame : RxFrame).entryClock 0 ≤ tLive.now 440 ∧
     tLive.now 440 ≤ (tFrame : RxFrame).entryClock 0 + 2 ∧ tLive.now 0 < tLive.now 440) ∧
    (hopperTo (0 : Fin 2) ((tMr 7 {}).now 0) (tMr 7 {})).attr .mrState (0 : Fin 2) ≠ 8 := by decide +kernel

theorem test_wit_codewords :
    (let s := tFec { cws := [tCw (.decode 7 3456)] }
     let u := hopperTo (0 : Fin 2) (s.now 0) s
     let r : CogStop := ⟨7⟩
     ((u.fec (0 : Fin 2)).cws.map (·.id)).Nodup ∧ r ∈ [r] ∧
     (u.fec (0 : Fin 2)).cws.find? (stoppedBy (s.now 0) r) = some (tCw (.decode 7 3456)) ∧
     (u.fec (0 : Fin 2)).cws.any (stoppedBy (s.now 0) ⟨8⟩) = false ∧ tCw (.decode 7 3456) ∈ (u.fec (0 : Fin 2)).cws ∧
     (tCw (.decode 7 3456)).place ≠ .stopped ∧ (tCw (.decode 7 3456)).deadline ≤ s.now 0) ∧
    (let s := tFec { cws := [{ tCw (.loading 7) with loadBy := 100000 }] }
     let u := hopperTo (0 : Fin 2) (s.now 0) s
     ((u.fec (0 : Fin 2)).cws.map (·.id)).Nodup ∧
     (u.fec (0 : Fin 2)).cws.find? (fun w => w.loader = some (7 : Fin 96).val) =
       some { tCw (.loading 7) with loadBy := 100000 } ∧
     (u.fec (0 : Fin 2)).cws.find? (fun w => w.loader = some (8 : Fin 96).val) = none) ∧
    (let w := { tCw (.prefetch 7 false) with loadBy := 100000 }
     let s := tFec { cws := [w, { tCw (.decode 7 3456) with id := 1 }], nextId := 2 }
     let u := hopperTo (0 : Fin 2) (s.now 0) s
     (u.fec (0 : Fin 2)).cws.find? (fun w => w.loader = some (7 : Fin 96).val) = some w ∧ w.place = .prefetch 7 false ∧
     ((s.fec (0 : Fin 2)).cws.map (·.id)).Nodup ∧ (∀ w ∈ (s.fec (0 : Fin 2)).cws, w.id < (s.fec (0 : Fin 2)).nextId)) ∧
    (let s := tFec { cws := [tCw (.queue 0)] }
     let u := hopperTo (0 : Fin 2) (s.now 0) s
     (u.fec (0 : Fin 2)).retries (s.now 0) (7 : Fin 96).val = true) ∧
    (let s := tFec { cws := [tCw (.queue 0)], work := [7], workAt := 8640 }
     (s.fec 0).work = [7] ∧ 7 < 96 ∧ (s.fec 0).inService 7 = true ∧ (s.fec 0).prefetched 7 = false ∧
     (∀ v ∈ (s.fec 0).cws, v.loader.isSome = true → 8640 < v.loadBy) ∧
     (s.fec 0).cws.find? (takeable (8640 / 1728) (7 / 12)) = some (tCw (.queue 0))) ∧
    (let s := tFec { retiring := [(7, 5), (8, 9)] }
     (7, 5) ∈ (s.fec (0 : Fin 2)).retiring ∧ 5 ≤ s.tick.toNat ∧ s.tick.toNat < 9) := by decide +kernel

theorem test_wit_release :
    (let s := tFec { cws := [tCw .stopped] }
     let u := hopperTo (0 : Fin 2) (s.now 0) (sluiceTo (s.now 0) s)
     (u.fec (0 : Fin 2)).nextRelease = some (tCw .stopped) ∧ (tCw .stopped).release ≤ s.now 0 ∧ (tCw .stopped).place = .stopped) ∧
    (let s := tFec {}
     ∀ w, ((hopperTo (0 : Fin 2) (s.now 0) (sluiceTo (s.now 0) s)).fec (0 : Fin 2)).nextRelease = some w → s.now 0 < w.release) ∧
    (tFec {}).attr .fecMode 0 ≠ 1 ∧ ((tFec { hitUntil := some 9 }).fec 0).hitUntil = some 9 := by
  refine ⟨by decide +kernel, fun w h => ?_, by decide +kernel, by decide +kernel⟩
  have e : ((hopperTo (0 : Fin 2) ((tFec {}).now 0) (sluiceTo ((tFec {}).now 0) (tFec {}))).fec (0 : Fin 2)).nextRelease = none := by
    decide +kernel
  rw [e] at h
  cases h

/-- Table 4 of chapter 08: n_l of the levels of 2T4, and the blocks of a frame. -/
theorem test_matcher : (matcherRow 1).levels.map (levelOnes 100) = [24, 27] ∧
    [0, 1, 2, 3].map (fun m => modeCodedBits m / (matcherRow m).coded) = [4536, 13608, 1134, 2268] := by decide +kernel

theorem test_wit_facet : (List.replicate 8192 true).length = 8192 := List.length_replicate

/-- `line0` locked in a feather state. -/
def tFeather (st : Int) (f : Feather) (op : Nat) (fs : List Fld) : State :=
  let s := (((tState op fs).setConv 0 { rxIn := true }).setAttr .mrState 0 0 8).setAttr .featherState 0 0 st
  setFeather 0 f ((s.setAttr .mgmtNodeAddress 0 0 5).setAttr .clockBlockEnable 0 0 0x40)

/-- A GCC-M packet of 12 bytes without its CRC: flags, hops, destination, type. -/
def tGcc (flags hop dst ty : Nat) : List Byte := layFields 12 [(0, 1, flags), (1, 1, hop), (2, 3, dst), (8, 1, ty)]

/-- `line0` to which the channels have brought one packet. -/
def tGccIn (b : List Byte) (fw : Bool) : State :=
  let s := (tFeather 0 {} 0x0A02 []).setAttr .mgmtForwardEnable 0 0 1
  let s := { s with boot := { s.boot with service := if fw then .firmware else .nobody } }
  s.setLine 0 { s.line 0 with gccMIn := { done := [(withCrc b, true)] }, gccUIn := { done := [(withCrc b, true)] } }

theorem test_wit_overhead :
    (let w : HeldCw := { frame := 1, stamp := 5, mode := 0, enter := 0, index := 0, bytes := [], release := 8640 }
     let s := (tFeather 0 {} 0x0100 []).setLine 0 { held := [w] }
     (((sluiceTo (s.now 0) s).line (0 : Fin 2)).held.find? (fun w => w.unparsed && w.stamp = 5 && w.index = 126 * (0 : Fin 4).val &&
       decide (w.release ≤ s.now 0))) = some w) ∧
    (tState 0x0100 []).attrN .lineMode 0 = rxMode (tState 0x0100 []) 0 ∧ rxMode (tState 0x0100 []) 0 ≤ 3 ∧
    (let s := (tState 0x0100 []).setLine 0 { slots := [(0, { psl := ⟨1, 2⟩ })] }
     (Tab.get {} (s.line 0).slots 0).psl.value = 1 ∧ 2 ≤ (Tab.get {} (s.line 0).slots 0).psl.run) := by decide +kernel

theorem test_wit_gcc_in :
    (let b := tGcc 129 1 0 1
     let s := tGccIn b true
     (s.line (0 : Fin 2)).gccMIn.done.head? = some (withCrc b, true) ∧ 12 ≤ b.length ∧ fieldAt b 10 2 + 12 = b.length ∧
     gccLinkLocal b = true ∧ fieldAt b 8 1 = 1) ∧
    (let b := tGcc 129 1 0 0
     let s := tGccIn b true
     (s.line (0 : Fin 2)).gccMIn.done.head? = some (withCrc b, true) ∧ 12 ≤ b.length ∧ fieldAt b 10 2 + 12 = b.length ∧
     gccLinkLocal b = true ∧ fieldAt b 8 1 ≠ 1 ∧ bufferBytes (s.line (0 : Fin 2)).gccMBuf + b.length ≤ 1048576 ∧
     (s.line (0 : Fin 2)).gccUIn.done.head? = some (withCrc b, true) ∧ 1 ≤ b.length ∧
     bufferBytes (s.line (0 : Fin 2)).gccUBuf + b.length ≤ 262144 ∧
     (s.line (0 : Fin 2)).gccMIn.done.head? ≠ some ([], false)) ∧
    (let b := tGcc 1 1 9 0
     let s := tGccIn b true
     (s.line (0 : Fin 2)).gccMIn.done.head? = some (withCrc b, true) ∧ 12 ≤ b.length ∧ fieldAt b 10 2 + 12 = b.length ∧
     gccLinkLocal b = false ∧ ownAddress s ≠ some (gccDst b) ∧ s.attr .mgmtForwardEnable ≠ 0 ∧ s.fwServing = true ∧
     fieldAt b 1 1 ≤ 1) := by decide +kernel

theorem test_wit_gcc_forward :
    (let b := tGcc 1 2 9 0
     let s := tGccIn b true
     (s.line (0 : Fin 2)).gccMIn.done.head? = some (withCrc b, true) ∧ 12 ≤ b.length ∧ fieldAt b 10 2 + 12 = b.length ∧
     gccLinkLocal b = false ∧ ownAddress s ≠ some (gccDst b) ∧ s.attr .mgmtForwardEnable ≠ 0 ∧ s.fwServing = true ∧
     2 ≤ fieldAt b 1 1 ∧ fieldAt b 8 1 ≠ 1 ∧
     gccRoom s (1 - (0 : Fin 2)) false (withCrc (overlay b 1 [BitVec.ofNat 8 (fieldAt b 1 1 - 1)])).length = true) ∧
    (let b := tGcc 1 2 9 0
     let s := tGccIn b false
     (s.line (0 : Fin 2)).gccMIn.done.head? = some (withCrc b, true) ∧ 12 ≤ b.length ∧ fieldAt b 10 2 + 12 = b.length ∧
     gccLinkLocal b = false ∧ ownAddress s ≠ some (gccDst b) ∧ s.attr .mgmtForwardEnable ≠ 0 ∧ s.fwServing = false ∧
     bufferBytes (s.line (0 : Fin 2)).gccMBuf + b.length ≤ 1048576) := by decide +kernel

theorem test_wit_gcc :
    (let b := layFields 12 [(0, 1, 1), (1, 1, 9)]
     let s := tFeather 0 {} 0x0A02 [(18, 2, 12)]
     let s := s.setSess 0 { s.sess 0 with mem := memWrite [] dataBufferBase b }
     let e := tEntry 0x0A02 [(18, 2, 12)]
     ready 0x0A02 [(16, 4), (24, 8)] tCmd s = some e ∧ fieldAt e 16 1 ≤ 1 ∧ fieldAt e 18 2 ≤ 1036 ∧
     areaBad s tCmd.session (fieldAt e 24 8) (fieldAt e 18 2) = false ∧ fieldAt e 17 1 = 0 ∧ 12 ≤ fieldAt e 18 2 ∧
     gccSendBad (readArea s tCmd.session (fieldAt e 24 8) (fieldAt e 18 2) []) = false ∧
     gccRoom s (fieldAt e 16 1) false (fieldAt e 18 2 + 4) = true ∧ ownAddress s ≠ none) ∧
    (let fs := [(17, 1, 1), (18, 2, 12)]
     let s := tFeather 0 {} 0x0A02 fs
     let s := { s with clk := { s.clk with domains := [(21, ⟨1, .idle⟩)] } }
     let e := tEntry 0x0A02 fs
     ready 0x0A02 [(16, 4), (24, 8)] tCmd s = some e ∧ fieldAt e 16 1 ≤ 1 ∧ fieldAt e 18 2 ≤ 1036 ∧
     areaBad s tCmd.session (fieldAt e 24 8) (fieldAt e 18 2) = false ∧ fieldAt e 17 1 = 1 ∧ 1 ≤ fieldAt e 18 2 ∧
     gated s (6 + fieldAt e 16 1) = false ∧ queueBytes (s.line (fieldAt e 16 1)).gcc.u + fieldAt e 18 2 + 4 ≤ 65536) ∧
    (let s := tFeather 0 {} 0x0A03 [(20, 4, 64)]
     let e := tEntry 0x0A03 [(20, 4, 64)]
     ready 0x0A03 [(16, 2), (20, 4), (24, 8)] tCmd s = some e ∧ fieldAt e 16 1 ≤ 1 ∧ fieldAt e 17 1 ≤ 1 ∧ 64 ≤ fieldAt e 20 4 ∧
     fieldAt e 20 4 ≤ 65536 ∧ areaBad s tCmd.session (fieldAt e 24 8) (fieldAt e 20 4) = false ∧ fieldAt e 20 4 ≤ 8192 ∧
     fieldAt e 17 1 ≠ 1) ∧
    (let fs := [(18, 1, 9), (24, 1, 1), (26, 1, 2), (28, 2, 17)]
     let s := (tFeather 0 {} 0x0A04 fs).setAttr .sessionPermission 0 0 2
     let e := tEntry 0x0A04 fs
     ready 0x0A04 [(16, 3), (20, 4), (24, 3), (28, 2)] tCmd s = some e ∧ fieldAt e 16 1 ≤ 1 ∧ fieldAt e 17 1 ≤ 1 ∧
     fieldAt e 18 1 ≠ 0 ∧ fieldAt e 20 4 ≤ 262143 ∧ fieldAt e 24 1 = 1 ∧ fieldAt e 25 1 ≤ 1 ∧ 1 ≤ fieldAt e 26 1 ∧
     fieldAt e 26 1 ≤ 3 ∧ fieldAt e 28 2 < (if fieldAt e 25 1 = 0 then 4096 else 512) ∧
     gccRoom s (fieldAt e 16 1) true 24 = true) := by decide +kernel

theorem test_wit_feather :
    (let s := tFeather 0 {} 0x0A01 []
     let e := tEntry 0x0A01 []
     let p := fieldAt e 16 1
     ready 0x0A01 [(16, 2)] tCmd s = some e ∧ p ≤ 1 ∧ fieldAt e 17 1 = 0 ∧ portActive s p = true ∧ s.attr .mrState p = 8 ∧
     portMember s p (fun _ => true) = false ∧ clockSelected s p = false ∧ (s.conv p).fg = none ∧ s.attr .convTestMode p ≠ 1 ∧
     (s.tx p).change = none) ∧
    (let s := tFeather 4 {} 0x0A01 [(17, 1, 1)]
     let e := tEntry 0x0A01 [(17, 1, 1)]
     let p := fieldAt e 16 1
     ready 0x0A01 [(16, 2)] tCmd s = some e ∧ p ≤ 1 ∧ fieldAt e 17 1 = 1 ∧ portActive s p = false ∧
     s.attr .featherState p ≠ 5) ∧
    (let s := { tFeather 1 {} 0x0100 [] with tick := 78125 }
     s.attr .featherState (0 : Fin 2) = 1 ∧
     (s.line (0 : Fin 2)).feather.start + msTicks (s.attrN .featherTimeoutMs (0 : Fin 2)) ≤ s.tick.toNat) ∧
    (let s := { tFeather 2 {} 0x0100 [] with tick := 64 }
     s.attr .featherState (0 : Fin 2) = 2 ∧ (s.line (0 : Fin 2)).feather.start + 64 ≤ s.tick.toNat) ∧
    (let s := tFeather 3 {} 0x0100 []
     s.attr .featherState (0 : Fin 2) = 3 ∧ (s.line (0 : Fin 2)).feather.written = false ∧ s.fwServing = true) := by
  decide +kernel

theorem test_wit_beacon :
    (let s := { tFeather 4 { wordTick := 1 } 0x0100 [] with tick := 160 }
     s.tick.toNat % 32 = 0 ∧ (s.line (0 : Fin 2)).feather.wordTick ≠ s.tick.toNat ∧ beaconNow s (0 : Fin 2) = some 1 ∧
     opcFlagged s (s.attrN .mrTiaCs (0 : Fin 2)) = false) ∧
    (let s := tFeather 4 { beaconRun := 1 } 0x0100 []
     s.attr .featherState (0 : Fin 2) = 4 ∧ opcFlagged s (s.attrN .mrTiaCs (0 : Fin 2)) = false ∧
     1 ≤ (s.line (0 : Fin 2)).feather.beaconRun ∧ wordDue s (0 : Fin 2) = true ∧ s.tick.toNat % 32 ≠ 0) ∧
    wordDue (tFeather 4 { wordRead := some 5 } 0x0100 []) (0 : Fin 2) = false ∧
    (let s := { tFeather 4 {} 0x0100 [] with tick := 128 }
     s.attr .featherState (0 : Fin 2) = 4 ∧ (s.line (0 : Fin 2)).feather.beaconLost = false ∧
     (s.line (0 : Fin 2)).feather.beaconLast + 128 ≤ s.tick.toNat) ∧
    (let s := tFeather 4 { wake := some .wake } 0x0100 []
     s.attr .featherState (0 : Fin 2) = 4 ∧ (s.line (0 : Fin 2)).feather.wake = some .wake) ∧
    (tFeather 3 {} 0x0100 []).attr .featherState (0 : Fin 2) ≠ 4 ∧
    ((tFeather 3 {} 0x0100 []).line (0 : Fin 2)).feather.wake = none := by decide +kernel

/-- Group 3 in a state: slots 0 and 1 of `line0`, slot 0 of `line1`. -/
def tGroup (x : Group) (op : Nat) (fs : List Fld) : State :=
  (tStateMem op fs (memWrite [] dataBufferBase [2, 0])).setGroup 3 (some x)

/-- Its lists, one member of `line0` out. -/
def tMembers : Group := { cfg := [0, 1, 128], tx := [0, 128], rx := [0, 128] }

theorem test_wit_resize :
    (tGroup tMembers 0x0C01 []).group (4 : Fin 512) = none ∧
    (let x := { tMembers with fail1 := 4 }
     let s := tGroup x 0x0C01 []
     s.group (3 : Fin 512) = some x ∧ x.resize = none ∧ x.born ≤ s.tick.toNat ∧ s.attr .grpAutoResize (3 : Fin 512) = 1 ∧
     128 ∈ x.tx ∧ s.attrN .grpShrinkHoldTicks (3 : Fin 512) ≤ (if memberPort 128 = 0 then x.fail0 else x.fail1) ∧
     0 ∈ x.tx ∧ 0 ∈ x.cfg ∧ 0 ∉ x.toHold ∧ slotGoing s 0 = false ∧
     (if memberPort 0 = 0 then x.fail0 else x.fail1) < s.attrN .grpShrinkHoldTicks (3 : Fin 512)) ∧
    (let x := { tMembers with fit := [(1, 781250)] }
     let s := tGroup x 0x0C01 []
     s.group (3 : Fin 512) = some x ∧ x.resize = none ∧ x.born ≤ s.tick.toNat ∧ 1 ∈ x.cfg ∧ 1 ∉ x.tx ∧ 1 ∉ x.held ∧
     1 ∉ x.toHold ∧ slotGoing s 1 = false ∧ s.attrN .grpRestoreTicks (3 : Fin 512) ≤ Tab.get 0 x.fit 1) ∧
    (let x := { tMembers with resize := some ⟨2, [0, 1], 1, []⟩ }
     let s := tGroup x 0x0C01 []
     s.group (3 : Fin 512) = some x ∧ x.resize = some ⟨2, [0, 1], 1, []⟩ ∧ x.resize.isSome = true ∧ 2 + 3 ≤ s.tick.toNat) := by
  decide +kernel

theorem test_wit_delineation :
    (let pl : StreamPlace := ⟨[0, 128], [0, 0], [0, 0]⟩
     let h := encHeader 0 0 0 false
     let x := { tMembers with rxq := [({ bytes := h, segs := [⟨0, 8, pl⟩] } : Chunk)] }
     let s := tGroup x 0x0C01 []
     let u := sluiceTo (s.now 0) s
     u.groupNow (3 : Fin 512) = some x ∧ x.nextUnit = some (h, [], 0, pl) ∧ x.skipped = 0 ∧ encValid h = true ∧
     x.locked = false) ∧
    (let s := tGroup tMembers 0x0C01 []
     ((sluiceTo (s.now 0) s).groupNow (3 : Fin 512)).bind Group.nextUnit = none) ∧
    encHecOk [0, 0, 0, 0, 0, 0, 0, 1] = false ∧ encValid [0, 0, 0, 0, 0, 0, 0, 1] = false ∧ Group.locked { locked := true } = true := by
  decide +kernel

/-- A request of a form of SY_GROUP_CONFIG for group 3. -/
def tGroupFs (op n : Nat) : List Fld := [(16, 2, 3), (18, 1, op), (20, 2, n)]

theorem test_wit_group_commands :
    (let e := tEntry 0x0C01 (tGroupFs 0 1)
     let s := (tGroup {} 0x0C01 (tGroupFs 0 1)).setGroup 3 none
     ready 0x0C01 [(16, 3), (20, 2), (24, 8)] tCmd s = some e ∧ fieldAt e 18 1 = 0 ∧
     firstFail (groupChecks 0 s tCmd.session e []) = none ∧ addedChecks s ((memberWords s tCmd.session e []).map memberOfWord) = false) ∧
    (let e := tEntry 0x0C01 (tGroupFs 1 0)
     let s := tGroup tMembers 0x0C01 (tGroupFs 1 0)
     ready 0x0C01 [(16, 3), (20, 2), (24, 8)] tCmd s = some e ∧ fieldAt e 18 1 = 1 ∧
     firstFail (groupChecks 1 s tCmd.session e []) = none ∧ channelsOf s (fieldAt e 16 2) = []) ∧
    (let e := tEntry 0x0C01 (tGroupFs 2 1)
     let s := tGroup tMembers 0x0C01 (tGroupFs 2 1)
     let ms := (memberWords s tCmd.session e []).map memberOfWord
     ready 0x0C01 [(16, 3), (20, 2), (24, 8)] tCmd s = some e ∧ fieldAt e 18 1 = 2 ∧
     firstFail (groupChecks 2 s tCmd.session e []) = none ∧ addedChecks s ms = false ∧
     ((s.group (fieldAt e 16 2)).getD {}).cfg.length + ms.length ≤ 256) ∧
    (let e := tEntry 0x0C01 (tGroupFs 3 1)
     let s := tGroup { tMembers with cfg := [0, 1, 2], tx := [0, 2], rx := [0, 2] } 0x0C01 (tGroupFs 3 1)
     let x := (s.group (fieldAt e 16 2)).getD {}
     let ms := (memberWords s tCmd.session e []).map memberOfWord
     ready 0x0C01 [(16, 3), (20, 2), (24, 8)] tCmd s = some e ∧ fieldAt e 18 1 = 3 ∧
     firstFail (groupChecks 3 s tCmd.session e []) = none ∧ (∀ m ∈ ms, m ∈ x.cfg) ∧ nsDiff x.coming ms ≠ []) ∧
    (let e := tEntry 0x0C01 (tGroupFs 4 1)
     let s := tGroup { tMembers with cfg := [0, 1, 2] } 0x0C01 (tGroupFs 4 1)
     let x := (s.group (fieldAt e 16 2)).getD {}
     let ms := (memberWords s tCmd.session e []).map memberOfWord
     ready 0x0C01 [(16, 3), (20, 2), (24, 8)] tCmd s = some e ∧ fieldAt e 18 1 = 4 ∧
     firstFail (groupChecks 4 s tCmd.session e []) = none ∧ (∀ m ∈ ms, m ∈ x.cfg)) ∧
    (let e := tEntry 0x0C01 (tGroupFs 5 1)
     let s := tGroup { tMembers with cfg := [0, 1, 2], tx := [0], rx := [0] } 0x0C01 (tGroupFs 5 1)
     let x := (s.group (fieldAt e 16 2)).getD {}
     let ms := (memberWords s tCmd.session e []).map memberOfWord
     ready 0x0C01 [(16, 3), (20, 2), (24, 8)] tCmd s = some e ∧ fieldAt e 18 1 = 5 ∧
     firstFail (groupChecks 5 s tCmd.session e []) = none ∧
     (∀ m ∈ ms, m ∈ x.cfg ∧ m ∉ x.tx ∧ m ∉ x.rx ∧ m ∉ x.coming)) := by decide +kernel

theorem test_wit_pm_read :
    let fs := [(16, 4, 1), (20, 4, 32), (32, 4, 16), (40, 8, 64)]
    let e := tEntry 0x0B01 fs
    let s := tStateMem 0x0B01 fs (memWrite [] dataBufferBase ([1, 24, 0, 0] ++ asciiBytes "device.house.power.state"))
    let items : List BatchAttr := [⟨false, asciiBytes "device.house.power.state", []⟩]
    ready 0x0B01 (batchNamed ++ [(48, 4)]) tCmd s = some e ∧ 1 ≤ fieldAt e 16 4 ∧ fieldAt e 16 4 ≤ 256 ∧
    areaBad s tCmd.session (fieldAt e 24 8) (fieldAt e 20 4) = false ∧
    areaBad s tCmd.session (fieldAt e 40 8) (fieldAt e 32 4) = false ∧
    parseItems (fieldAt e 16 4) (batchIn s tCmd.session e []) = some items ∧
    (items.map (itemRoom s)).sum ≤ fieldAt e 32 4 ∧ pmIsLatest s e = true ∧ items.length ≤ 4096 := by decide +kernel

/-- Two channels of group 3: class 1 with 20 Gb/s, class 3 with 10 Gb/s. -/
def tChannels : State :=
  [(Attr.chGroup, 1, 3), (.chGroup, 2, 3), (.chClass, 1, 1), (.chClass, 2, 3), (.chCommittedMbps, 1, 20000),
   (.chCommittedMbps, 2, 10000)].foldl (fun s (e : Attr × Nat × Int) => s.setAttr e.1 e.2.1 0 e.2.2) (tState 0x0100 [])

/-- Members of one port fail: capacity 25 Gb/s. The class 3 channel is shed, and comes back with 50 Gb/s (R421). -/
theorem test_shedding : guaranteed tChannels 3 = [1, 2] ∧ shedKey tChannels 1 < shedKey tChannels 2 ∧
    ((evalShedding 3 25000 1 tChannels).chan 1).shed = none ∧ ((evalShedding 3 25000 1 tChannels).chan 2).shed = some 1 ∧
    ((evalShedding 3 50000 6 (evalShedding 3 25000 1 tChannels)).chan 2).shed = none := by decide +kernel

/-- Lane 3, in no interface, in a state. -/
def tLane (st : Int) (x : Lane) (op : Nat) (fs : List Fld) : State :=
  let s := ((tState op fs).setAttr .laneState 3 0 st).setLane 3 x
  { s with clk := { s.clk with domains := [(laneDomain 3, ⟨1, .idle⟩)] }, tick := 100000 }

theorem test_wit_lane_events :
    (let s := tLane 2 {} 0x0100 []
     s.domRuns (laneDomain (3 : Fin 64)) = true ∧ laneState s (3 : Fin 64) = 2 ∧ (s.lane (3 : Fin 64)).woken = none) ∧
    laneState (tLane 4 {} 0x0100 []) (3 : Fin 64) = 4 ∧
    (let s := tLane 5 { attemptStart := 9 } 0x0100 []
     laneState s (3 : Fin 64) = 5 ∧ (s.lane (3 : Fin 64)).retryFrom = none ∧
     (s.lane (3 : Fin 64)).attemptStart + 3907 ≤ s.tick.toNat) ∧
    (let s := tLane 5 { retryFrom := some 4 } 0x0100 []
     laneState s (3 : Fin 64) = 5 ∧ (s.lane (3 : Fin 64)).retryFrom = some 4 ∧ 4 + 78125 ≤ s.tick.toNat) ∧
    (let s := { tLane 4 {} 0x0100 [] with written := [(Attr.key .laneDormant 3 0, 1)] }
     s.clk.ticking = true ∧ s.isDue (Attr.key .laneDormant (3 : Fin 64) 0) = true ∧
     (Attr.key .laneDormant (3 : Fin 64) 0, 1) ∈ s.written) ∧
    (let s := { tLane 1 {} 0x0100 [] with written := [(Attr.key .laneDormant 3 0, 0)] }
     s.clk.ticking = true ∧ s.isDue (Attr.key .laneDormant (3 : Fin 64) 0) = true ∧
     (Attr.key .laneDormant (3 : Fin 64) 0, 0) ∈ s.written ∧ 3 ∈ laneMates s (3 : Fin 64) ∧
     laneState s 3 = 1) ∧
    (tLane 4 {} 0x0100 []).written.all (fun e => e.1 ≠ Attr.key .laneDormant (3 : Fin 64) 0) = true ∧
    (let s := tLane 3 { sweep := some ⟨none, true⟩ } 0x0100 []
     let ls := (laneMates s (3 : Fin 64)).filter (fun k => decide (laneState s k = 3) && (s.lane k).sweep.isSome)
     ls ≠ [] ∧ [(⟨[], 0, []⟩ : SweepResult)].length = ls.length) ∧
    (let s := tLane 3 { sweep := some ⟨none, false⟩ } 0x0100 []
     ∀ k ∈ laneMates s (3 : Fin 64), ∀ j, (s.lane k).sweep = some j → j.writeback = false) := by
  refine ⟨by decide +kernel, by decide +kernel, by decide +kernel, by decide +kernel, by decide +kernel, by decide +kernel,
    by decide +kernel, by decide +kernel, fun k hk j hj => ?_⟩
  have h : laneMates (tLane 3 { sweep := some ⟨none, false⟩ } 0x0100 []) (3 : Fin 64) = [3] := by decide +kernel
  rw [h] at hk
  obtain rfl := List.mem_singleton.1 hk
  have e : ((tLane 3 { sweep := some ⟨none, false⟩ } 0x0100 []).lane 3).sweep = some ⟨none, false⟩ := by decide +kernel
  rw [e] at hj
  cases hj
  rfl

theorem test_wit_lane_commands :
    (let s := tLane 4 {} 0x0D01 [(16, 1, 3)]
     let e := tEntry 0x0D01 [(16, 1, 3)]
     let l := fieldAt e 16 1
     ready 0x0D01 [(16, 2)] tCmd s = some e ∧ l ≤ 63 ∧ fieldAt e 17 1 ≤ 1 ∧ s.attrN .laneIfFirst l = 0xFF ∧
     (∀ k ∈ laneMates s l, 2 ≤ laneState s k ∧ (s.lane k).sweep = none)) ∧
    (let s := (tLane 4 {} 0x0D02 [(18, 1, 1)]).setAttr .sessionPermission 0 0 2
     let e := tEntry 0x0D02 [(18, 1, 1)]
     ready 0x0D02 [(16, 3), (20, 4), (24, 8)] tCmd s = some e ∧ 1 ≤ fieldAt e 18 1 ∧ fieldAt e 17 1 + fieldAt e 18 1 ≤ 64 ∧
     areaBad s tCmd.session (fieldAt e 24 8) (16 * fieldAt e 18 1) = false ∧ fieldAt e 16 1 = 0 ∧
     2 ≤ s.attrN .sessionPermission tCmd.session) ∧
    (let s := tLane 4 {} 0x0D02 [(16, 1, 1), (18, 1, 1)]
     let e := tEntry 0x0D02 [(16, 1, 1), (18, 1, 1)]
     ready 0x0D02 [(16, 3), (20, 4), (24, 8)] tCmd s = some e ∧ 1 ≤ fieldAt e 18 1 ∧ fieldAt e 17 1 + fieldAt e 18 1 ≤ 64 ∧
     areaBad s tCmd.session (fieldAt e 24 8) (16 * fieldAt e 18 1) = false ∧ fieldAt e 16 1 = 1) ∧
    entryBad [1, 5, 3, 0, 0, 0, 40, 0, 0, 0, 0, 0, 0, 50, 0, 0] = false ∧
    entryBad [1, 5, 3, 0, 0, 0, 40, 0, 0, 0, 0, 0, 255, 63, 255, 0] = true := by decide +kernel

theorem test_wit_eye :
    (let fs := [(16, 1, 3), (18, 1, 10), (22, 1, 1), (25, 1, 1)]
     let s := (tLane 4 {} 0x0D03 fs).setAttr .clockBlockEnable 0 0 0x400
     let s := { s with clk := { s.clk with domains := (List.range 16).map (fun k => (26 + k, ⟨1, .idle⟩)) } }
     let e := tEntry 0x0D03 fs
     let l := fieldAt e 16 1
     ready 0x0D03 [(16, 3), (20, 6)] tCmd s = some e ∧ l ≤ 63 ∧ fieldAt e 17 1 ≤ 2 ∧ 10 ≤ fieldAt e 18 1 ∧ fieldAt e 18 1 ≤ 30 ∧
     -32 ≤ fieldInt e 20 1 ∧ fieldInt e 21 1 ≤ 31 ∧ 1 ≤ fieldAt e 22 1 ∧ fieldAt e 22 1 ≤ 64 ∧ -63 ≤ fieldInt e 23 1 ∧
     fieldInt e 24 1 ≤ 63 ∧ 1 ≤ fieldAt e 25 1 ∧ fieldAt e 25 1 ≤ 127 ∧ 1 ≤ scanPoints e ∧ scanPoints e ≤ 4096 ∧
     laneState s l = 4 ∧ (s.lane l).scan = none ∧ (s.lane l).sweep = none ∧ gated s 10 = false ∧
     s.attr .thermalLevel < 2) ∧
    (let j : ScanJob := { cmd := tCmd, points := 1, start := 4, gen := 0 }
     ((tLane 4 { scan := some j } 0x0100 []).lane (3 : Fin 64)).scan = some j ∧ [7].length = j.points ∧ j.cut = false) ∧
    (let fs := [(16, 1, 3), (24, 4, 64)]
     let b : EyeResult := ⟨0, 9, List.replicate 64 0⟩
     let s := (tLane 4 { eye := some b } 0x0D04 fs).setAttr .clockBlockEnable 0 0 0x400
     let s := { s with clk := { s.clk with domains := (List.range 16).map (fun k => (26 + k, ⟨1, .idle⟩)) } }
     let e := tEntry 0x0D04 fs
     let l := fieldAt e 16 1
     let n := fieldAt e 24 4
     ready 0x0D04 [(16, 3), (20, 4), (24, 4), (28, 4), (32, 8)] tCmd s = some e ∧ l ≤ 63 ∧ fieldAt e 17 1 ≤ 1 ∧
     fieldAt e 18 1 ≤ 1 ∧ fieldAt e 20 4 % 64 = 0 ∧ n % 64 = 0 ∧ 64 ≤ n ∧ n ≤ 65536 ∧ n ≤ 8192 ∧
     areaBad s tCmd.session (fieldAt e 32 8) n = false ∧ (s.lane l).eye = some b ∧ fieldAt e 20 4 + n ≤ b.data.length ∧
     b.gen = fieldAt e 28 4 ∧ gated s 10 = false ∧ s.attrN .laneGeneration l ≤ b.gen) := by decide +kernel

theorem test_best_code : bestCode [1, 9, 9, 4] = 1 := by decide +kernel

/-- A 400GBASE-R interface on lanes 0 to 3, in service. -/
def tIface : State :=
  (List.range 4).foldl (fun s l => (s.setAttr .laneIfFirst l 0 0).setAttr .laneState l 0 4)
    ((tState 0x0D05 [(20, 4, 4)]).setAttr .laneIfType 0 0 1)

/-- PCS lane 5 has the marker of IEEE 802.3 Table 119-1. -/
theorem test_markers : (List.range 12).map (fun k => sentBits (marker false 5) |>.drop (10 * k) |>.take 10)
    = (chunks 12 10 (sentBits [0x9A, 0x4A, 0x26, 0xF2, 0x65, 0xB5, 0xD9, 0x4E, 0x12, 0x4F, 0xD1, 0xB1, 0xED, 0xB0, 0x2E])) := by decide +kernel

/-- The generator of RS(544,514). -/
theorem test_generator : rsGenerator.take 4 = [575, 552, 187, 230] ∧ rsGenerator.drop 28 = [834, 523] := by decide +kernel

/-- A frame of so many bytes with a good check sequence. -/
def tEther (n : Nat) : List Byte := let b := List.replicate (n - 4) 0; b ++ leBytes 4 (crc32 b)

theorem test_wit_client : laneCarries tIface (2 : Fin 64) = true ∧ laneCarries (tState 0x0100 []) (2 : Fin 64) = false ∧
    framePayload (frameBlocks (tEther 64)) = tEther 64 ∧
    fcsOk (tEther 64) = true ∧ isEsmc (tEther 64) = false ∧ 64 ≤ (tEther 64).length ∧ (tEther 64).length ≤ 9728 ∧
    framePayload (frameBlocks (tEther 60)) = tEther 60 ∧
    fcsOk (tEther 60) = true ∧ (tEther 60).length < 64 ∧ fcsOk (framePayload []) = false ∧ tIface.attrN .laneIfFirst (2 : Fin 64) < 64 ∧
    tIface.attrN .memFlowDefaultChannel < 4096 ∧ tIface.cipher.exits = [] ∧ (stampQueue tIface 0).length < 8192 ∧
    (let e := tEntry 0x0D05 [(20, 4, 4)]
     ready 0x0D05 [(16, 1), (20, 4), (24, 8)] tCmd tIface = some e ∧ fieldAt e 16 1 ≤ 1 ∧ 1 ≤ fieldAt e 20 4 ∧
     fieldAt e 20 4 ≤ 8192 ∧ fieldAt e 20 4 ≤ 170 ∧ areaBad tIface tCmd.session (fieldAt e 24 8) (48 * fieldAt e 20 4) = false) := by
  decide +kernel

/-- A full queue of timestamp records. -/
theorem test_wit_full_queue :
    8192 ≤ (stampQueue { tState 0x0100 [] with stamps0 := List.replicate 8192 [] } 0).length :=
  Nat.le_of_eq (List.length_replicate).symm

/-- The worked example of chapter 13: P of stream byte 70,001 of a group of 32 members at 3T2, and the egress stamp. -/
theorem test_stamp_example :
    positionTerm (List.range 32) (fun _ => 0) 70001 / 10000000 = 1760515 ∧
    lineEgressStamp { tState 0x0100 [] with timing := { tai := 25000000000000000000 } }
      { tx := List.range 32 } 70001 = 250001696000 := by decide +kernel

/-- Both channels ready, everything filled, and a job. -/
def tMem (m : Memory) (op : Nat) (fs : List Fld) : State :=
  let s := ((tState op fs).setAttr .memDdrState 0 0 2).setAttr .memDdrState 1 0 2
  { s.setAttr .clockBlockEnable 0 0 3 with
    memory := m, clk := { s.clk with domains := [42, 43, 44, 45].map (fun d => (d, ⟨1, .idle⟩)) } }

/-- Every block is filled. -/
def tFull : Memory := { filled := 2 ^ 32768 - 1 }

theorem test_wit_memory_jobs :
    (let s := tMem {} 0x0E01 [(24, 8, 1048576)]
     let e := tEntry 0x0E01 [(24, 8, 1048576)]
     let a := fieldAt e 16 8
     let n := fieldAt e 24 8
     ready 0x0E01 [(16, 8), (24, 8)] tCmd s = some e ∧ a + n ≤ contextBase ∧ a % 1048576 = 0 ∧ n % 1048576 = 0 ∧
     a + n ≤ dramSize ∧ s.memory.fill = none ∧ gated s 0 = false ∧ gated s 1 = false) ∧
    (let s := tMem {} 0x0E02 [(24, 8, 64)]
     let e := tEntry 0x0E02 [(24, 8, 64)]
     let a := fieldAt e 16 8
     let n := fieldAt e 24 8
     ready 0x0E02 [(16, 8), (24, 8)] tCmd s = some e ∧ a % 64 = 0 ∧ n % 64 = 0 ∧ 64 ≤ n ∧ a + n ≤ dramSize ∧
     s.memory.scrub = none ∧ gated s 0 = false ∧ gated s 1 = false) ∧
    (let s := tMem {} 0x0100 []
     s.attr .thermalLevel = 0 ∧ s.power.phase = .active ∧ s.attr .memDdrState (addrChannel (s.attrN .memScrubPosition)) ≠ 3 ∧
     s.memory.scrubAt ≤ s.tick.toNat * 33554432 ∧ isFilled s (s.attrN .memScrubPosition) = false ∧ s.memory.missq = [] ∧
     0 < slotsFree s (addrChannel (s.attrN .memScrubPosition)) 5) ∧
    (let s := tMem { used := [(1, 400)] } 0x0100 []
     slotsFree s (addrChannel (s.attrN .memScrubPosition)) 5 = 0) ∧
    (let s := tMem { filled := 1 } 0x0100 []
     s.attr .thermalLevel = 0 ∧ s.power.phase = .active ∧ s.attr .memDdrState (addrChannel (s.attrN .memScrubPosition)) ≠ 3 ∧
     s.memory.scrubAt ≤ s.tick.toNat * 33554432 ∧ isFilled s (s.attrN .memScrubPosition) = true ∧
     0 < slotsFree s (addrChannel (s.attrN .memScrubPosition)) 5 ∧
     ddrReady s (addrChannel (s.attrN .memScrubPosition)) = true) ∧
    (tMem { scrubAt := 10 ^ 12 } 0x0100 []).tick.toNat * 33554432 < (tMem { scrubAt := 10 ^ 12 } 0x0100 []).memory.scrubAt ∧
    (let j : FillJob := { cmd := tCmd, first := 2, count := 1, room := (8192, 9000) }
     let s := tMem { fill := some j } 0x0100 []
     s.memory.fill = some j ∧ j.allowed = j.count ∧ s.memory.link = [] ∧ ddrReady s 0 = true ∧ ddrReady s 1 = true ∧
     FillJob.allowed { j with room := (8191, 9000) } ≠ j.count) ∧
    (let j : ScrubJob := { cmd := tCmd, start := 0, length := 64, tick := 3, room := (1, 0) }
     let s := tMem { scrub := some j, filled := 1 } 0x0100 []
     let parts := blockSpans j.start j.length (fun b => bitOf s.memory.filled b)
     s.memory.scrub = some j ∧ spanBursts parts 0 ≤ j.room.1 ∧ spanBursts parts 1 ≤ j.room.2 ∧ ddrReady s 0 = true ∧
     ddrReady s 1 = true ∧ 0 < spanBursts parts 0) := by decide +kernel

theorem test_wit_flow_items :
    (let it := layFields 72 [(0, 1, 2), (4, 4, 9)]
     let d := layFields 64 [(0, 1, 3)]
     let s := tMem {} 0x0100 []
     fieldAt it 0 1 = 2 ∧ bitOf (entryMember d) (1 - s.attrN .memFlowCommittedGen) = true ∧ s.attrN .memFlowCommittedGen ≤ 1 ∧
     d.length = 64 ∧ s.memory.link = [] ∧ ddrReady s (addrChannel (flowAddr 9)) = true) ∧
    (let it := layFields 72 [(0, 1, 1), (4, 4, 9)]
     fieldAt it 0 1 = 1 ∧ entryMember (layFields 64 []) = 0 ∧ entryMember (layFields 64 [(0, 1, 3)]) ≠ 0 ∧
     ddrReady State.reset (addrChannel (flowAddr 9)) = false) ∧
    (let s := (tMem { touch := [3], toSettle := [3], filled := 1 } 0x0100 []).setAttr .memFlowSettlePending 0 0 1
     s.attr .memFlowSettlePending = 1 ∧ s.memory.toSettle.Nodup ∧ s.memory.link = [] ∧
     (∀ ch, ch < 2 → (s.memory.toSettle.filter (fun i => i % 2 = ch)).length ≤ slotsFree s ch 4 / 2) ∧
     (∀ i ∈ s.memory.toSettle, ddrReady s (i % 2) = true ∧ isFilled s (flowAddr i) = true)) ∧
    (tMem {} 0x0100 []).attr .memFlowSettlePending ≠ 1 := by decide +kernel

theorem test_wit_flow :
    let fs := [(16, 4, 1), (20, 4, 72), (32, 4, 72), (40, 8, 128)]
    let s := tMem {} 0x0E03 fs
    let s := s.setSess 0 { s.sess 0 with mem := memWrite [] dataBufferBase [5] }
    let e := tEntry 0x0E03 fs
    let n := fieldAt e 16 4
    let l := batchIn s tCmd.session e []
    let ops := (List.range n).map (fun k => fieldAt l (72 * k) 1)
    ready 0x0E03 batchNamed tCmd s = some e ∧ 1 ≤ n ∧ n ≤ 4096 ∧ areaBad s tCmd.session (fieldAt e 24 8) (fieldAt e 20 4) = false ∧
    areaBad s tCmd.session (fieldAt e 40 8) (fieldAt e 32 4) = false ∧ 72 * n ≤ fieldAt e 20 4 ∧ (∀ o ∈ ops, 1 ≤ o ∧ o ≤ 5) ∧
    (ops.map (fun o => if o = 5 then 72 else 8)).sum ≤ fieldAt e 32 4 ∧ gated s 0 = false ∧ gated s 1 = false ∧
    flowReady s (bytesAt l 0 72, {}) = true := by decide +kernel

theorem test_wit_mem_access :
    (let fs := [(20, 4, 1)]
     let s := tMem { filled := 1 } 0x0E04 fs
     let e := tEntry 0x0E04 fs
     let n := fieldAt e 20 4
     let a := fieldAt e 24 8
     ready 0x0E04 [(16, 1), (20, 4), (24, 8), (32, 8)] tCmd s = some e ∧ 1 ≤ n ∧ n ≤ 1024 ∧ a % 64 = 0 ∧
     areaBad s tCmd.session (fieldAt e 32 8) (64 * n) = false ∧ spanGated s a (64 * n) = false ∧ a + 64 * n ≤ dramSize ∧
     fieldAt e 16 1 = 0 ∧ a + 64 * n ≤ contextBase) ∧
    (let fs := [(16, 1, 1), (20, 4, 1), (24, 8, hostBase)]
     let s := tMem { filled := 2 ^ addrBlock hostBase } 0x0E04 fs
     let e := tEntry 0x0E04 fs
     let n := fieldAt e 20 4
     let a := fieldAt e 24 8
     ready 0x0E04 [(16, 1), (20, 4), (24, 8), (32, 8)] tCmd s = some e ∧ 1 ≤ n ∧ n ≤ 1024 ∧ a % 64 = 0 ∧
     areaBad s tCmd.session (fieldAt e 32 8) (64 * n) = false ∧ spanGated s a (64 * n) = false ∧ a + 64 * n ≤ dramSize ∧
     fieldAt e 16 1 = 1 ∧ hostBase ≤ a ∧ (∀ k, k < n → isFilled s (a + 64 * k) = true)) := by decide +kernel

/-- A cached entry of generation 0 whose key is zero, and the packet that waits for it. -/
theorem test_wit_lookup :
    let x : CacheLine := ⟨layFields 64 [(0, 1, 3)], false, 0⟩
    let m : Miss := { pkt := { id := 0, chan := 0, bytes := [], tick := 0, dir := 0, place := 0, stamp := 0 }, key := List.replicate 41 0, h1 := 7, h2 := 6, gen := 0 }
    let s := tMem { missq := [m], cache := [(7, x)] } 0x0100 []
    s.memory.missq = m :: [] ∧ cached s (if m.second then m.h2 else m.h1) = some x ∧ entryMatches x.entry m.key m.gen = true := by
  decide +kernel

/-- Three bytes of device 5 in error, in codewords 0, 3 and 7. -/
theorem test_chipkill : decodeBurst 255 (layFields 80 [(40, 1, 0x80), (43, 1, 0x11), (47, 1, 1)]) = .corrected 5 ∧
    decodeBurst 255 (layFields 80 [(40, 1, 0x80), (51, 1, 0x11)]) = .uncorrectable ∧
    byteAt (layFields 80 [(40, 1, 0x80)]) 40 ≠ 0 := by decide +kernel

/-- The security domains run and the entropy source is in a state. -/
def tCip (ent : Int) (x : Cipher) (op : Nat) (fs : List Fld) : State :=
  let s := (tMem { filled := 2 ^ 2049 - 1 } op fs).setAttr .cipEntropyState 0 0 ent
  { s with clk := { s.clk with domains := [42, 43, 44, 45, 46, 47, 48, 49].map (fun d => (d, ⟨1, .idle⟩)) }, cipher := x, tick := 1048576 }

/-- A client-to-line packet of 64 bytes for SA 9. -/
def tPkt : Pkt := { id := 1, chan := 3, bytes := List.replicate 64 0, tick := 0, dir := 0, sa := 9 }

/-- An encrypt context of channel 3. -/
def tCtx : List Byte := layFields 128 [(0, 1, 1), (2, 1, 1), (12, 2, 3), (24, 8, 1), (32, 8, 9)]

/-- The packet once eligible. -/
def tCip1 : CipPkt := { pkt := tPkt, seq := 0, tick := 0, ctx := tCtx, key := {}, sub := {}, pn := 1, cost := 9, cls := 4 }

/-- Its resident record. -/
def tRes : Resident := ⟨tCtx, {}, {}, 0⟩

theorem test_wit_cipher_entry :
    (let k := { tPkt with dir := 1, bytes := [] }
     let s := tCip 1 { entry := [k] } 0x0100 []
     s.cipher.entry = k :: [] ∧ k.chan < 4096 ∧ s.cipher.settleAt = none ∧ k.dir ≠ 0 ∧ headerBad k.bytes = true) ∧
    (let s := tCip 1 { entry := [tPkt] } 0x0100 []
     s.cipher.entry = tPkt :: [] ∧ tPkt.dir = 0 ∧ s.resident 9 = none ∧ s.cipher.loads.all (fun l => l.sa ≠ 9) = true) ∧
    (let s := tCip 1 { entry := [tPkt], loads := [⟨9, false, []⟩] } 0x0100 []
     s.cipher.entry = tPkt :: [] ∧ s.resident 9 = none ∧ s.cipher.loads.any (fun l => l.sa = 9) = true) ∧
    (let s := tCip 1 { entry := [tPkt], resident := [(9, some tRes)] } 0x0100 []
     s.cipher.entry = tPkt :: [] ∧ s.resident 9 = some tRes ∧ contextFails s tPkt tCtx = none ∧
     4 + ctxHdrLen tCtx ≤ tPkt.bytes.length ∧ tPkt.bytes.length ≤ 9700) ∧
    (let k := { tPkt with bytes := [] }
     let s := tCip 1 { entry := [k], resident := [(9, some tRes)] } 0x0100 []
     s.cipher.entry = k :: [] ∧ s.resident 9 = some tRes ∧ contextFails s k tCtx = none ∧ k.dir = 0 ∧
     k.bytes.length < 4 + ctxHdrLen tCtx) ∧
    (let k := { tPkt with chan := 4 }
     let s := tCip 1 { entry := [k], resident := [(9, some tRes)] } 0x0100 []
     s.cipher.entry = k :: [] ∧ s.resident 9 = some tRes ∧ contextFails s k tCtx = some 4) := by decide +kernel

/-- SA 9 with a context in DRAM whose key stands in a working key slot, and a load of it under way. -/
def tLoad (deleted : Bool) : State :=
  (dramStore (contextAddr 9) (sealCtx tCtx)
    { tCip 1 { loads := [⟨9, deleted, [tPkt]⟩] } 0x0100 [] with memory := tFull }).setSlot 0 (some ⟨[7], false, false⟩)

theorem test_wit_sa_load :
    (let s := tLoad false
     s.cipher.loads.find? (fun l => l.sa = (9 : Fin 1048576).val) = some ⟨9, false, [tPkt]⟩ ∧ s.cipher.loadsDone < 16 ∧
     loadReady s (9 : Fin 1048576) = true ∧ s.cipher.settleAt = none ∧ isFilled s (contextAddr (9 : Fin 1048576)) = true ∧
     isFilled s (wrapAddr (9 : Fin 1048576)) = true ∧ ddrReady s 0 = true ∧ ddrReady s 1 = true ∧
     ctxOk (dramCtx s (9 : Fin 1048576)) = true ∧ ctxServes s (9 : Fin 1048576) (dramCtx s (9 : Fin 1048576)) = true ∧
     (match contextKey s (9 : Fin 1048576) (dramCtx s (9 : Fin 1048576)) (dramBytes s (wrapAddr (9 : Fin 1048576)) 64) with
      | .ok k => decide (k = [7])
      | .error _ => false) = true) ∧
    (let s := tLoad true
     s.cipher.loads.find? (fun l => l.sa = (9 : Fin 1048576).val) = some ⟨9, true, [tPkt]⟩ ∧ s.cipher.loadsDone < 16 ∧
     loadReady s (9 : Fin 1048576) = true) ∧
    (let s := (tLoad false).setAttr .secEpoch 0 0 1
     ctxServes s (9 : Fin 1048576) (dramCtx s (9 : Fin 1048576)) = false) ∧
    (tCip 1 {} 0x0100 []).cipher.loads.all (fun l => l.sa ≠ (9 : Fin 1048576)) = true := by decide +kernel

/-- A cog of wheel 0 runs the packet until clock 100. -/
def tCogs : List (Nat × CipWheel) := [(0, { cogs := [(5, { run := some (tCip1, 100) })] })]

theorem test_wit_wheels :
    (let s := tCip 1 { wheels := tCogs } 0x0100 []
     ((s.wheel ((5 : Fin 96) / 8)).cog ((5 : Fin 96) % 8)).run = some (tCip1, 100) ∧ 100 ≤ s.now 0 ∧ tCip1.pkt.chan < 4096 ∧
     s.cipher.exits = [] ∧ s.clk.ticking = true ∧ s.cipher.settleAt = none ∧
     vaultRuns s = true ∧ s.attr .cipEntropyState = 1 ∧ (s.wheel (3 : Fin 12)).seeded + 65536 ≤ s.tick.toNat ∧
     entropyTest (List.replicate 41 true) = some 0) ∧
    (let s := tCip 1 { wheels := tCogs } 0x0100 []
     let x : ShareCheck := ⟨0, 5, [1], [0], false⟩
     s.domRuns (wheelDomain x.wheel) = true ∧ (s.wheel x.wheel).reset = none ∧ ((s.wheel x.wheel).cog x.cog).run ≠ none ∧
     shareFails x = true ∧ shareFails ⟨0, 5, [1], [0], true⟩ = false) ∧
    (let s := tCip 2 {} 0x0100 []
     vaultRuns s = true ∧ s.attr .cipEntropyState = 2 ∧ (s.wheel (3 : Fin 12)).stopped = false ∧
     (s.wheel (3 : Fin 12)).seeded + 1048576 ≤ s.tick.toNat ∧ s.cipher.entropyTick + 781250 ≤ s.tick.toNat ∧
     s.attr .cipEntropyState ≠ 1) ∧
    (let s := tCip 0 { wheels := [(3, { reset := some ⟨1, []⟩ })] } 0x0100 []
     vaultRuns s = true ∧ s.attr .cipEntropyState = 0 ∧ (s.wheel (3 : Fin 12)).reset = some ⟨1, []⟩) ∧
    State.reset.clk.ticking = false ∧ vaultRuns State.reset = false := by decide +kernel

/-- The worked example of chapter 15: a jumbo frame of 9,000 bytes takes 567 clocks, an eCPRI packet of 512 bytes 37. -/
theorem test_cog_clocks :
    cogClocks { tPkt with bytes := List.replicate 9000 0 } (layFields 128 [(3, 1, 14)]) = 567 ∧
    cogClocks { tPkt with bytes := List.replicate 512 0 } (layFields 128 [(3, 1, 18)]) = 37 := by
  simp only [cogClocks, textLen, clearLen, tPkt, List.length_replicate]
  decide +kernel

/-- The bytes that SY_SA op 0 names. -/
def tSaNamed : List (Nat × Nat) := [(16, 4), (20, 4), (24, 4), (28, 2), (30, 1), (32, 2), (40, 8), (48, 8)]

/-- What SY_SA op 0 meets: an encrypt context for SA 9 with the key of slot 0, over the one that stands there. -/
def tCreate (old : List Byte) : State :=
  let s := (tCip 1 {} 0x0F01 [(18, 1, 1), (20, 4, 9), (32, 2, 3), (40, 8, 1), (48, 8, 5)]).setSlot 0 (some ⟨[7], false, false⟩)
  dramStore (contextAddr 9) old (s.setAttr .sessionPermission 0 0 2)

theorem test_wit_sa_create :
    let s := tCreate []
    let e := tEntry 0x0F01 [(18, 1, 1), (20, 4, 9), (32, 2, 3), (40, 8, 1), (48, 8, 5)]
    let dir := fieldAt e 17 1
    let sa := fieldAt e 20 4
    let n := newContext s e
    ready 0x0F01 tSaNamed tCmd s = some e ∧ fieldAt e 16 1 = 0 ∧ 2 ≤ s.attrN .sessionPermission tCmd.session ∧ dir ≤ 1 ∧
    fieldAt e 18 1 ≤ 7 ∧ fieldAt e 19 1 ≤ 128 ∧ sa ≤ 1048575 ∧ fieldAt e 28 2 ≤ 8191 ∧ fieldAt e 30 1 ≤ 15 ∧
    fieldAt e 32 2 ≤ 4095 ∧ (dir = 0 → fieldAt e 18 1 ≤ 1 ∧ 0 < fieldAt e 40 8 ∧ fieldAt e 40 8 < fieldAt e 48 8 ∧
      s.cipher.encrypts.length < 8192) ∧ dir ≠ 1 ∧ isFilled s (contextAddr sa) = true ∧ vaultLocked s = false ∧
    s.attr .secCtxSweepPending ≠ 1 ∧ s.slot (ctxSlot n) ≠ none := by decide +kernel

/-- The three ends of a create: a context written, one that stands, and a burst that is poisoned. -/
theorem test_wit_sa_create_ends :
    (let s := tCreate []
     let n := newContext s (tEntry 0x0F01 [(18, 1, 1), (20, 4, 9), (32, 2, 3), (40, 8, 1), (48, 8, 5)])
     let r := readCtx 9 s
     r.1.map ctxGood = some false ∧
     (match (createKey 9 n r.2).1 with | .ok k => decide (k = [7]) | .error _ => false) = true ∧
     (writeCtx (fun a d => writeAt a 4 d) 9 n (createKey 9 n r.2).2).1 = true) ∧
    ((readCtx 9 (tCreate (sealCtx tCtx))).1.map ctxGood = some true) ∧
    (let s := tCreate []
     (readCtx 9 { s with memory := { s.memory with link := [(contextAddr 9, { retries := 4 })] } }).1 = none) := by decide +kernel

/-- A valid context of SA 9 in DRAM, of security epoch 0, read and deleted under its epoch and under another. -/
theorem test_wit_sa :
    (let s := dramStore (contextAddr 9) (sealCtx tCtx) (tCip 1 {} 0x0F01 [(3, 1, 5), (16, 1, 2), (20, 4, 9)])
     let e := tEntry 0x0F01 [(3, 1, 5), (16, 1, 2), (20, 4, 9)]
     ready 0x0F01 [(16, 1), (20, 4)] tCmd s = some e ∧ fieldAt e 20 4 ≤ 1048575 ∧
     (readCtx (fieldAt e 20 4) s).1 = some (dramCtx s 9) ∧ ctxGood (dramCtx s 9) = true ∧
     fieldAt e 16 1 = 2 ∧ entryEpochPort e = 5 ∧ entryEpoch e = ctxEpoch (dramCtx s 9) ∧
     ctxForeign s (fieldAt e 20 4) = false) ∧
    (let s := dramStore (contextAddr 9) (sealCtx tCtx) (tCip 1 {} 0x0F01 [(3, 1, 5), (16, 1, 1), (20, 4, 9)])
     let s := s.setAttr .sessionPermission 0 0 2
     let e := tEntry 0x0F01 [(3, 1, 5), (16, 1, 1), (20, 4, 9)]
     ready 0x0F01 [(16, 1), (20, 4)] tCmd s = some e ∧ fieldAt e 20 4 ≤ 1048575 ∧
     (readCtx (fieldAt e 20 4) s).1 = some (dramCtx s 9) ∧
     fieldAt e 16 1 = 1 ∧ 2 ≤ s.attrN .sessionPermission tCmd.session ∧ entryEpochPort e = 5 ∧
     entryEpoch e = ctxEpoch (dramCtx s 9) ∧ ctxForeign s (fieldAt e 20 4) = false) ∧
    (let s := dramStore (contextAddr 9) (sealCtx tCtx) (tCip 1 {} 0x0F01 [(16, 1, 2), (20, 4, 9)])
     let e := tEntry 0x0F01 [(16, 1, 2), (20, 4, 9)]
     ready 0x0F01 [(16, 1), (20, 4)] tCmd s = some e ∧ (readCtx 9 s).1 = some (dramCtx s 9) ∧ entryEpochPort e ≠ 5) ∧
    (let s := tCip 1 {} 0x0F01 [(16, 1, 2), (20, 4, 9)]
     (readCtx 9 { s with memory := {} }).1 = none) := by
  decide +kernel

theorem test_wit_cipher_commands :
    (let s := tCip 1 {} 0x0F02 [(20, 4, 5)]
     let e := tEntry 0x0F02 [(20, 4, 5)]
     ready 0x0F02 [(20, 4), (24, 8)] tCmd s = some e ∧ 1 ≤ fieldAt e 20 4 ∧ fieldAt e 20 4 ≤ 256 ∧
     areaBad s tCmd.session (fieldAt e 24 8) (32 * fieldAt e 20 4) = false) ∧
    (let e := tEntry 0x0F03 [(16, 1, 11)]
     ready 0x0F03 [(16, 1)] tCmd (tCip 1 {} 0x0F03 [(16, 1, 11)]) = some e ∧ fieldAt e 16 1 ≤ 11) ∧
    (let e := tEntry 0x0F03 [(16, 1, 12)]
     ready 0x0F03 [(16, 1)] tCmd (tCip 1 {} 0x0F03 [(16, 1, 12)]) = some e ∧ 11 < fieldAt e 16 1) := by decide +kernel

/-- The vault runs and holds what is given. -/
def tVault (v : Vault) (op : Nat) (fs : List Fld) : State :=
  { (tCip 1 {} op fs).setAttr .clockBlockEnable 0 0 0x803 with vault := v }

/-- A key-encryption root in slot 2. -/
def tRoot : RootKey := { key := [], origin := 1 }

theorem test_wit_roots :
    (let s := tVault {} 0x1001 []
     ready 0x1001 [(16, 1), (17, 1)] tCmd s = some (tEntry 0x1001 []) ∧ fieldAt (tEntry 0x1001 []) 17 1 ≤ 15 ∧
     fieldAt (tEntry 0x1001 []) 16 1 = 0 ∧ vaultRuns s = true ∧ vaultLocked s = false ∧ entropyFailed s = false ∧
     s.root (fieldAt (tEntry 0x1001 []) 17 1) = none) ∧
    (let s := tVault { roots := [(0, some tRoot)] } 0x1001 []
     ready 0x1001 [(16, 1), (17, 1)] tCmd s = some (tEntry 0x1001 []) ∧ vaultRuns s = true ∧ (s.root 0).isSome = true) ∧
    (let fs := [(16, 1, 2)]
     let s := tVault {} 0x1001 fs
     ready 0x1001 [(16, 1), (17, 1)] tCmd s = some (tEntry 0x1001 fs) ∧ vaultRuns s = true ∧ fieldAt (tEntry 0x1001 fs) 16 1 = 2 ∧
     fieldAt (tEntry 0x1001 fs) 17 1 ≤ 15) ∧
    (let fs := [(16, 1, 1), (18, 1, 2)]
     let e := tEntry 0x1001 fs
     let s := tVault { roots := [(2, some tRoot)] } 0x1001 fs
     ready 0x1001 [(16, 1), (17, 1), (18, 1), (20, 40)] tCmd s = some e ∧ fieldAt e 16 1 = 1 ∧ fieldAt e 17 1 ≤ 15 ∧
     fieldAt e 18 1 ≤ 15 ∧ fieldAt e 17 1 ≠ fieldAt e 18 1 ∧ s.root (fieldAt e 17 1) = none ∧
     s.root (fieldAt e 18 1) = some tRoot ∧ vaultLocked s = false ∧ vaultRuns s = true ∧ unwrapFree s = true ∧ s.vault.unwraps = [] ∧
     unwrapFree (updCipher (fun c => { c with loadsDone := 16 }) s) = false) := by decide +kernel

theorem test_wit_key_slots :
    (let fs := [(17, 1, 2)]
     let e := tEntry 0x1002 fs
     let s := tVault { roots := [(2, some tRoot)] } 0x1002 fs
     ready 0x1002 [(16, 1), (17, 1), (18, 1), (20, 2), (24, 40)] tCmd s = some e ∧ fieldAt e 16 1 = 0 ∧ fieldAt e 17 1 ≤ 15 ∧
     fieldAt e 18 1 ≤ 1 ∧ fieldAt e 20 2 ≤ 8191 ∧ s.slot (fieldAt e 20 2) = none ∧ s.root (fieldAt e 17 1) = some tRoot ∧
     vaultLocked s = false ∧ vaultRuns s = true ∧ unwrapFree s = true ∧ s.vault.unwraps = []) ∧
    (let fs := [(16, 1, 1)]
     let e := tEntry 0x1002 fs
     let s := tVault {} 0x1002 fs
     ready 0x1002 [(16, 1), (20, 2)] tCmd s = some e ∧ fieldAt e 16 1 = 1 ∧ fieldAt e 20 2 ≤ 8191 ∧ vaultRuns s = true) ∧
    (let fs := [(16, 1, 2), (17, 1, 2)]
     let e := tEntry 0x1002 fs
     let k : SlotKey := { key := [], exportable := true }
     let s := tVault { roots := [(2, some tRoot)], slots := [(0, some k)] } 0x1002 fs
     ready 0x1002 [(16, 1), (17, 1), (20, 2)] tCmd s = some e ∧ fieldAt e 16 1 = 2 ∧ fieldAt e 17 1 ≤ 15 ∧
     fieldAt e 20 2 ≤ 8191 ∧ s.slot (fieldAt e 20 2) = some k ∧ s.root (fieldAt e 17 1) = some tRoot ∧
     vaultLocked s = false ∧ vaultRuns s = true) ∧
    (let k : SlotKey := { key := [], exportable := true, erasing := true }
     let s := tVault { slots := [(0, some k)], roots := [(1, some { tRoot with erasing := true })] } 0x1001 []
     s.slot 0 = some k ∧ k.erasing = true ∧ loadUnderSlot s 0 = false ∧ s.root 1 = some { tRoot with erasing := true } ∧
     loadUnderRoot s 1 = false) ∧
    (tVault {} 0x1001 []).vault.roots = [] ∧ (tVault {} 0x1001 []).vault.slots = [] := by decide +kernel

theorem test_wit_stores :
    (let fs := [(16, 4, 1), (20, 4, 48), (32, 4, 8), (40, 8, 128)]
     let e := tEntry 0x1003 fs
     let n := fieldAt e 16 4
     let s := tVault {} 0x1003 fs
     ready 0x1003 batchNamed tCmd s = some e ∧ 1 ≤ n ∧ n ≤ 4096 ∧
     areaBad s tCmd.session (fieldAt e 24 8) (fieldAt e 20 4) = false ∧
     areaBad s tCmd.session (fieldAt e 40 8) (fieldAt e 32 4) = false ∧ 48 * n ≤ fieldAt e 20 4 ∧ 8 * n ≤ fieldAt e 32 4 ∧
     vaultRuns s = true ∧ gated s 0 = false ∧ gated s 1 = false) ∧
    (let s := (tVault {} 0x1001 []).setAttr .secCtxSweepPending 0 0 1
     s.fwServing = true ∧ s.attr .secCtxSweepPending = 1 ∧ rebuildNeeds (rebuildTick { s with memory := {} }) = 0 ∧
     0 < rebuildNeeds (rebuildTick { s with memory := { filled := 2 ^ 2048 } })) ∧
    (tVault {} 0x1001 []).attr .secCtxSweepPending ≠ 1 := by decide +kernel

/-- An item with no flag writes the slot it names (R544). -/
theorem test_key_store_filled : isFilled { tVault {} 0x1003 [] with memory := { filled := 2 ^ 2176 } } (wrapAddr 5) = true := by
  decide +kernel

/-- The named bytes of SY_PK. -/
def tPkNamed : List (Nat × Nat) := [(16, 1), (17, 1), (18, 1), (22, 1), (24, 8)]

/-- A loaded private-key slot 0. -/
def tPks : Vault := { pks := [(0, some ⟨[], [], 1⟩)] }

/-- The conditions of a form of SY_PK on an entry hold. -/
def tPkReady (s : State) (op : Nat) (named : List (Nat × Nat)) : Prop :=
  firstFail (pkChecks (fieldAt (tEntry 0x1004 [(16, 1, op)]) 16 1) s tCmd.session (tEntry 0x1004 [(16, 1, op)])) = none ∧
  ready 0x1004 (tPkNamed ++ named) tCmd s = some (tEntry 0x1004 [(16, 1, op)]) ∧ fieldAt (tEntry 0x1004 [(16, 1, op)]) 16 1 = op

theorem test_wit_pk :
    (let s := tVault {} 0x1004 [(16, 1, 0)]
     tPkReady s 0 [] ∧ s.pk (fieldAt (tEntry 0x1004 [(16, 1, 0)]) 17 1) = none ∧ entropyFailed s = false) ∧
    (let s := tVault {} 0x1004 [(16, 1, 1)]
     tPkReady s 1 [] ∧ s.pk (fieldAt (tEntry 0x1004 [(16, 1, 1)]) 17 1) = none) ∧
    (let s := tVault tPks 0x1004 [(16, 1, 2)]
     tPkReady s 2 [] ∧ (s.pk (fieldAt (tEntry 0x1004 [(16, 1, 2)]) 17 1)).isSome = true ∧ entropyFailed s = false) ∧
    (let s := tVault tPks 0x1004 [(16, 1, 4)]
     tPkReady s 4 [] ∧ (s.pk (fieldAt (tEntry 0x1004 [(16, 1, 4)]) 17 1)).isSome = true) ∧
    tPkReady (tVault {} 0x1004 [(16, 1, 5)]) 5 [] ∧
    (let e := tEntry 0x1004 [(16, 1, 3)]
     let s := tVault tPks 0x1004 [(16, 1, 3)]
     tPkReady s 3 [(19, 1), (20, 2)] ∧ fieldAt e 19 1 ≤ 1 ∧ fieldAt e 20 2 ≤ (if fieldAt e 19 1 = 0 then 8191 else 15) ∧
     destLoaded s e = false ∧ (s.pk (fieldAt e 17 1)).isSome = true) := by
  unfold tPkReady
  decide +kernel

theorem test_wit_pk_end :
    (let x : PkOp := { cmd := tCmd, entry := tEntry 0x1004 [(16, 1, 5)], buffer := [], start := some 4 }
     let s := tVault { queue := [x] } 0x1004 []
     s.vault.queue = x :: [] ∧ x.start = some 4 ∧ 4 + pkTicks (fieldAt x.entry 16 1) ≤ s.tick.toNat ∧
     fieldAt x.entry 16 1 = 5 ∧ x.failed = false ∧ vaultRuns s = true) ∧
    (let x : PkOp := { cmd := tCmd, entry := tEntry 0x1004 [(16, 1, 1)], buffer := [], start := some 4 }
     let s := tVault { queue := [x] } 0x1004 []
     s.vault.queue = x :: [] ∧ x.start = some 4 ∧ 4 + pkTicks (fieldAt x.entry 16 1) ≤ s.tick.toNat ∧
     fieldAt x.entry 16 1 = 1 ∧ x.failed = false ∧ vaultRuns s = true ∧ s.pk (fieldAt x.entry 17 1) = none) ∧
    (let x : PkOp := { cmd := tCmd, entry := tEntry 0x1004 [], buffer := [], start := some 1048570 }
     let s := tVault { queue := [x] } 0x1004 []
     s.vault.queue = x :: [] ∧ x.start = some 1048570 ∧ s.tick.toNat < 1048570 + pkTicks (fieldAt x.entry 16 1)) ∧
    (tVault {} 0x1004 []).vault.queue = [] ∧
    scalarBad (List.replicate 48 0) = true ∧ scalarBad (List.replicate 47 0 ++ [1]) = false := by decide +kernel

/-- Awake, with the sealed domain alive. -/
def tTamper (op : Nat) (fs : List Fld) : State :=
  { tVault { roots := [(2, some { key := [], origin := 1 })] } op fs with sealed := { State.reset.sealed with alive := true } }

theorem test_wit_tamper :
    (let s := tTamper 0x1005 []
     tamperSensor s (.light 1 1000) = some 5 ∧ sensorActive s 5 = true ∧ barAlive s = true ∧ s.isCN = false ∧
     s.attrN .secTamperPolicy 5 < 2 ∧ s.attr .secTamperFirst = 0xFF ∧ s.vault.erased = []) ∧
    (let s := (tTamper 0x1005 []).setAttr .secTamperPolicy 5 0 2
     tamperSensor s (.light 1 1000) = some 5 ∧ sensorActive s 5 = true ∧ s.attrN .secTamperPolicy 5 = 2 ∧ barAlive s = true) ∧
    (let s := (tTamper 0x1005 []).setAttr .secTamperFirst 0 0 1
     tamperSensor s (.light 1 1000) = some 5 ∧ sensorActive s 5 = true ∧ s.attr .secTamperFirst ≠ 0xFF) ∧
    tamperSensor (tTamper 0x1005 []) (.light 0 1000) = none ∧ ({ State.reset with fuse := { State.reset.fuse with code := .cn } } : State).isCN = true ∧
    (let s := tTamper 0x1005 []
     let t := { s with vault := { s.vault with erased := [(5, false)] } }
     t.vault.erased = [(5, false)] ∧ t.fwServing = true ∧ t.isCN = false) := by decide +kernel

theorem test_wit_sy_tamper :
    (let fs := [(17, 1, 5), (18, 1, 2)]
     let e := tEntry 0x1005 fs
     ready 0x1005 [(16, 1), (17, 1), (18, 1)] tCmd (tTamper 0x1005 fs) = some e ∧ fieldAt e 16 1 = 0 ∧ fieldAt e 17 1 ≤ 5 ∧
     fieldAt e 18 1 ≤ 2) ∧
    (let fs := [(16, 1, 1)]
     ready 0x1005 [(16, 1)] tCmd (tTamper 0x1005 fs) = some (tEntry 0x1005 fs) ∧ fieldAt (tEntry 0x1005 fs) 16 1 = 1) ∧
    (let fs := [(16, 1, 3)]
     ready 0x1005 [(16, 1)] tCmd (tTamper 0x1005 fs) = some (tEntry 0x1005 fs) ∧ fieldAt (tEntry 0x1005 fs) 16 1 = 3 ∧
     (tTamper 0x1005 fs).attr .secTamperLatch = 0) ∧
    (let fs := [(16, 1, 3)]
     let s := (tTamper 0x1005 fs).setAttr .secTamperLatch 0 0 1
     ready 0x1005 [(16, 1)] tCmd s = some (tEntry 0x1005 fs) ∧ fieldAt (tEntry 0x1005 fs) 16 1 = 3 ∧ s.attr .secTamperLatch ≠ 0) ∧
    (let fs := [(16, 1, 4)]
     ready 0x1005 [(16, 1)] tCmd (tTamper 0x1005 fs) = some (tEntry 0x1005 fs) ∧ fieldAt (tEntry 0x1005 fs) 16 1 = 4) ∧
    (let fs := [(16, 1, 2), (17, 1, 255)]
     let e := tEntry 0x1005 fs
     ready 0x1005 [(16, 1), (17, 1)] tCmd (tTamper 0x1005 fs) = some e ∧ fieldAt e 16 1 = 2 ∧ fieldAt e 17 1 = 255) := by
  decide +kernel

/-- Policy erase of sensor 5: the root is gone and the vault is locked (R558, R559). -/
theorem test_tamper_erase :
    (match exec (.tamperTrip [.light 1 1000]) ((tTamper 0x1005 []).setAttr .secTamperPolicy 5 0 2) with
      | .next t => t.vault.roots.isEmpty && vaultLocked t && decide (t.attrN .secTamperLatch = 32)
      | _ => false) = true := by decide +kernel

/-! ### Standards: FIPS 197 appendix C.3, FIPS 180-4 example for "abc", twice the base point of P-384 -/

theorem test_aes_block :
    aesBlock (beBytes 32 0x000102030405060708090a0b0c0d0e0f101112131415161718191a1b1c1d1e1f)
      (beBytes 16 0x00112233445566778899aabbccddeeff) = beBytes 16 0x8ea2b7ca516745bfeafc49904b496089 := by decide +kernel

theorem test_sha384_abc : sha384 (asciiBytes "abc") =
    beBytes 48 0xcb00753f45a35e8bb5a03d699ac65007272c32ab0eded1631a8b605a43ff5bed8086072ba1e7cc2358baeca134c825a7 := by
  decide +kernel

theorem test_p384_double : ecOnCurve (ecBytes p384g) = true ∧ ecX (ecAdd p384g p384g) =
    0x08D999057BA3D2D969260045C55B97F089025959A6F434D651D207D19FB96E9E4FE0E86EBE0E64F85B96A9C75295DF61 := by
  decide +kernel

/-- Candidate 1 in a state of its monitor, `D53` running. -/
def tRef (r : Ref) (x : Timing) (op : Nat) (fs : List Fld) : State :=
  let s := tState op fs
  { s with timing := { x with refs := [(1, r)] }, clk := { s.clk with domains := [(53, ⟨1, .idle⟩)] }, tick := 4000000 }

/-- A clock on REFIN1 that has no edge for 1 ms, and one that is steady for 100 ms. -/
def tLost : RefLook := { ref := 1, idlePs := 1000000000 }
def tSteady : RefLook := { ref := 1, windows := List.replicate 10 0 }

theorem test_wit_refs :
    (let s := (tRef { good := true } {} 0x0100 []).setAttr .timRefFreqHz 1 0 10000000
     s.domRuns 53 = true ∧ refBad s tLost = true ∧ refBad s tSteady = false ∧ (s.ref tLost.ref).good = true) ∧
    (let s := ((tRef { good := true } {} 0x0100 []).setAttr .timRefFreqHz 1 0 10000000).setAttr .timSelected 0 0 1
     let s := s.setAttr .timState 0 0 2
     s.domRuns 53 = true ∧ refBad s tLost = true ∧ (s.ref tLost.ref).good = true ∧ selectedRef s = tLost.ref ∧
     1 ≤ s.attr .timState ∧ s.attr .timState ≤ 3) ∧
    (let s := (tRef {} {} 0x0100 []).setAttr .timRefFreqHz 1 0 10000000
     refFit s tSteady = true ∧ refFit s tLost = false ∧ (s.ref tSteady.ref).good = false ∧ refPresent s tSteady.ref = true ∧
     s.timing.holdOff = none ∧ s.attr .timRefType (1 : Fin 4) ≠ 1) := by decide +kernel

theorem test_wit_pulses :
    (let s := (tRef { edge := some 4120000000000, edges := 2 } {} 0x0100 []).setAttr .timRefType 1 0 1
     s.attr .timRefType (1 : Fin 4) = 1 ∧ refPresent s (1 : Fin 4) = true ∧ (s.ref (1 : Fin 4)).edge = some 4120000000000 ∧
     4120000000000 + 1000000000000 ≤ s.tick.toNat * 1280000 + 0 + 10000000 ∧
     s.tick.toNat * 1280000 + 0 ≤ 4120000000000 + 1000000000000 + 10000000) ∧
    (let s := (tRef { edge := some 5000000000000 } {} 0x0100 []).setAttr .timRefType 1 0 1
     s.attr .timRefType (1 : Fin 4) = 1 ∧ refPresent s (1 : Fin 4) = true ∧ (s.ref (1 : Fin 4)).edge = some 5000000000000 ∧
     s.tick.toNat * 1280000 + 0 + 10000000 < 5000000000000 + 1000000000000) ∧
    (let s := (tRef { edge := some 7 } {} 0x0100 []).setAttr .timRefType 1 0 1
     s.attr .timRefType (1 : Fin 4) = 1 ∧ refPresent s (1 : Fin 4) = true ∧ (s.ref (1 : Fin 4)).edge = some 7 ∧
     7 + 1000000000000 + 10000000 < s.tick.toNat * 1280000 + 0) ∧
    (let s := (tRef {} {} 0x0100 []).setAttr .timRefType 1 0 1
     s.attr .timRefType (1 : Fin 4) = 1 ∧ refPresent s (1 : Fin 4) = true ∧ (s.ref (1 : Fin 4)).edge = none) := by decide +kernel

theorem test_wit_selection :
    (let s := ((tRef { good := true } {} 0x0100 []).setAttr .timRefPriority 1 0 4).setAttr .timRefQl 1 0 2
     refEligible s 1 = true) ∧
    (let s := (tRef {} { holdOff := some 5 } 0x0100 []).setAttr .timSelected 0 0 1
     s.timing.holdOff = some 5 ∧ 5 ≤ s.tick.toNat ∧ (s.ref (selectedRef s)).good = false ∧ selectedRef s ≠ 255 ∧
     s.attr .timSelectMode = 0 ∧ s.attr .clockPllCoast ≠ 1 ∧ bestRef s = 255) ∧
    (let s := tRef {} { holdOff := some 4000001 } 0x0100 []
     s.timing.holdOff = some 4000001 ∧ s.tick.toNat < 4000001) ∧
    ((tRef { wait := some 5 } {} 0x0100 []).ref (1 : Fin 14)).wait = some 5 ∧
    ((tRef {} {} 0x0100 []).ref (1 : Fin 14)).wait = none ∧
    (let fs := [(16, 1, 1), (17, 1, 1)]
     ready 0x1101 [(16, 1), (17, 1)] tCmd (tRef {} {} 0x1101 fs) = some (tEntry 0x1101 fs) ∧
     fieldAt (tEntry 0x1101 fs) 16 1 = 1 ∧ fieldAt (tEntry 0x1101 fs) 17 1 ≤ 13) ∧
    (let fs := [(16, 1, 3)]
     ready 0x1101 [(16, 1), (17, 1)] tCmd (tRef {} {} 0x1101 fs) = some (tEntry 0x1101 fs) ∧
     fieldAt (tEntry 0x1101 fs) 16 1 = 3) ∧
    (let fs := [(16, 1, 9)]
     ready 0x1101 [(16, 1), (17, 1)] tCmd (tRef {} {} 0x1101 fs) = some (tEntry 0x1101 fs) ∧
     4 < fieldAt (tEntry 0x1101 fs) 16 1) := by decide +kernel

theorem test_wit_esmc :
    (let s := { tIface with timing := { eventOwed := [(0, 9)], esmc := [(0, ⟨some 2, 0⟩)] }, tick := 3906250 }
     let s := s.setAttr .laneIfEsmcTx 0 0 1
     laneCarries s 0 = true ∧ s.attr .laneIfEsmcTx 0 = 1 ∧ ifConfigured s 0 = true ∧ Tab.get 0 s.timing.eventOwed 0 ≠ 0 ∧
     (Tab.get {} s.timing.esmc 0).ql ≠ none ∧ (Tab.get {} s.timing.esmc 0).tick + 3906250 ≤ s.tick.toNat) ∧
    Tab.get 0 tIface.timing.eventOwed 0 = 0 ∧ (Tab.get {} tIface.timing.esmc 0).ql = none ∧
    (let f := esmcPdu 5 2 false
     fcsOk f = true ∧ isEsmc f = true ∧ esmcValid f = true ∧ f.length = 64) ∧
    (let g := overlay (esmcPdu 5 2 false) 24 [9]
     let f := g.take 60 ++ leBytes 4 (crc32 (g.take 60))
     fcsOk f = true ∧ isEsmc f = true ∧ esmcValid f = false) := by decide +kernel

theorem test_wit_day :
    (let s := { tState 0x0100 [] with timing := { dayOwed := true, daySeconds := 72000 } }
     s.timing.dayOwed = true ∧ 72000 ≤ s.timing.daySeconds ∧ 1 ≤ s.attrN .timHoldoverAgeDays) ∧
    (let s := { tState 0x0100 [] with timing := { dayOwed := true, daySeconds := 71999 } }
     s.timing.dayOwed = true ∧ s.timing.daySeconds < 72000) ∧
    (tState 0x0100 []).timing.dayOwed = false := by decide +kernel

/-- The clock and pulse outputs run. -/
def tOut (op : Nat) (fs : List Fld) : State :=
  let s := (tState op fs).setAttr .clockBlockEnable 0 0 0x30
  { s with clk := { s.clk with domains := [(51, ⟨1, .idle⟩), (52, ⟨1, .idle⟩)] } }

theorem test_wit_time :
    (let fs := [(24, 8, 77)]
     let e := tEntry 0x1102 fs
     ready 0x1102 [(16, 1), (24, 8), (32, 2), (34, 5)] tCmd (tOut 0x1102 fs) = some e ∧ fieldAt e 16 1 = 0 ∧
     fieldAt e 32 2 = 0 ∧ fieldAt e 34 5 = 0 ∧ fieldAt e 24 8 < 2 ^ 48) ∧
    (let fs := [(16, 1, 1), (32, 2, 2028), (34, 1, 2), (35, 1, 29)]
     let e := tEntry 0x1102 fs
     ready 0x1102 [(16, 1), (24, 8), (32, 2), (34, 5)] tCmd (tOut 0x1102 fs) = some e ∧ fieldAt e 16 1 = 1 ∧
     fieldAt e 24 8 = 0 ∧ 1970 ≤ fieldAt e 32 2 ∧ fieldAt e 32 2 ≤ 9999) ∧
    (let s := { tOut 0x0100 [] with timing := { tai := secondUnits - 5, sets := [(tCmd, 77)] } }
     edgeAhead s = some 5 ∧ s.timing.ppsDone = false ∧ s.clk.ticking = true ∧ s.timing.sets = [] ++ [(tCmd, 77)]) ∧
    edgeAhead (tOut 0x0100 []) = none ∧
    (let fs := [(16, 8, 12)]
     ready 0x1103 [(16, 8)] tCmd (tOut 0x1103 fs) = some (tEntry 0x1103 fs) ∧
     (fieldInt (tEntry 0x1103 fs) 16 8).natAbs ≤ 500000000000) ∧
    (let s := { tOut 0x0100 [] with timing := { steps := [(tCmd, 12, 5)] } }
     s.timing.steps = [(tCmd, 12, 5)] ∧ 5 ≤ s.tick.toNat) ∧
    (tOut 0x0100 []).timing.steps.all (fun x => decide ((tOut 0x0100 []).tick.toNat < x.2.2)) = true ∧
    ready 0x1104 [] tCmd (tOut 0x1104 []) = some (tEntry 0x1104 []) := by decide +kernel

theorem test_wit_out_align :
    (let fs := [(16, 1, 0), (17, 1, 3)]
     let e := tEntry 0x1105 fs
     let s := tOut 0x1105 fs
     ready 0x1105 [(16, 4), (20, 4), (24, 4), (32, 8)] tCmd s = some e ∧ s.attr .clockPllCoast ≠ 1 ∧ fieldAt e 16 1 = 0 ∧
     fieldAt e 17 1 ≤ 3 ∧ fieldAt e 18 1 = 0 ∧ fieldAt e 19 1 = 0 ∧ fieldAt e 20 4 = 0 ∧ fieldAt e 24 4 = 0 ∧
     fieldAt e 32 8 = 0 ∧ gated s 4 = false) ∧
    (let fs := [(16, 1, 1), (20, 4, 100)]
     let e := tEntry 0x1105 fs
     let s := tOut 0x1105 fs
     ready 0x1105 [(16, 4), (20, 4), (24, 4), (32, 8)] tCmd s = some e ∧ s.attr .clockPllCoast ≠ 1 ∧ fieldAt e 16 1 = 1 ∧
     fieldAt e 17 1 ≤ 1 ∧ 8 ≤ fieldAt e 20 4 ∧ fieldAt e 20 4 ≤ 500000000 ∧ gated s 5 = false ∧ fieldAt e 19 1 = 0 ∧
     fieldAt e 18 1 ≤ 1 ∧ fieldAt e 24 4 = 0 ∧ fieldAt e 32 8 = 0) ∧
    (let fs := [(16, 1, 1), (19, 1, 1), (20, 4, 100), (24, 4, 5)]
     let e := tEntry 0x1105 fs
     let s := tOut 0x1105 fs
     ready 0x1105 [(16, 4), (20, 4), (24, 4), (32, 8)] tCmd s = some e ∧ s.attr .clockPllCoast ≠ 1 ∧ fieldAt e 16 1 = 1 ∧
     fieldAt e 17 1 ≤ 1 ∧ 8 ≤ fieldAt e 20 4 ∧ fieldAt e 20 4 ≤ 500000000 ∧ gated s 5 = false ∧ fieldAt e 19 1 = 1 ∧
     fieldAt e 18 1 = 0 ∧ 1 ≤ fieldAt e 24 4 ∧ fieldAt e 24 4 ≤ 781250 ∧ fieldAt e 20 4 < 1280 * fieldAt e 24 4) ∧
    (tOut 0x0100 []).timing.aligns.all (fun a => !a.inForce) = true := by decide +kernel

/-- A holdover table of two points. -/
def tHot : List Byte := layFields 32 [(0, 4, leNat (asciiBytes "ZHOT")), (4, 1, 1), (5, 1, 2), (20, 4, 9)]

/-- Its state: the data buffer holds it at its start. -/
def tHotState : State :=
  let s := tOut 0x1106 []
  s.setSess 0 { s.sess 0 with mem := memWrite [] dataBufferBase tHot }

theorem test_wit_holdover_table :
    (let s := tHotState
     let e := tEntry 0x1106 []
     let r := readArea s tCmd.session (fieldAt e 24 8) 396 []
     ready 0x1106 [(16, 1), (24, 8)] tCmd s = some e ∧ areaBad s tCmd.session (fieldAt e 24 8) 396 = false ∧
     fieldAt e 16 1 = 0 ∧ fieldAt r 6 2 = 0 ∧ 2 ≤ fieldAt r 5 1 ∧
     fieldAt r 5 1 ≤ 32 ∧ bytesAt r 0 4 = asciiBytes "ZHOT" ∧ fieldAt r 4 1 = 1 ∧ rawsRise (tablePoints r) = true) ∧
    (let fs := [(16, 1, 1)]
     let e := tEntry 0x1106 fs
     let s := tOut 0x1106 fs
     ready 0x1106 [(16, 1), (24, 8)] tCmd s = some e ∧ areaBad s tCmd.session (fieldAt e 24 8) 396 = false ∧
     fieldAt e 16 1 = 1) := by decide +kernel

/-- The worked example of chapter 17: 2028-02-29 08:30:00 with an offset of 37 s, and the dates R596 judges. -/
theorem test_calendar : taiOfDate 37 2028 2 29 8 30 0 = 1835425837 ∧ dateOf 21243 = (2028, 2, 29) ∧
    badDate 2100 2 29 0 0 0 = true ∧ badDate 2000 2 29 0 0 0 = false ∧ badDate 2027 12 31 23 59 60 = false ∧
    badDate 2028 2 28 23 59 60 = true := by decide +kernel

/-- The bezel runs, with channels 4 and 9 enabled; output 2 is faulty in a retry window, output 5 faulty and outside one. -/
def tBezel (b : Bezel) (op : Nat) (fs : List Fld) : State :=
  let s := (((tState op fs).setAttr .clockBlockEnable 0 0 0x38).setAttr .snsEnable 4 0 1).setAttr .snsEnable 9 0 1
  let s := (s.setAttr .pinsFault 0 0 0x24).setAttr .bezelMode 0 0 1
  { s with clk := { s.clk with domains := [(51, ⟨1, .idle⟩), (52, ⟨1, .idle⟩), (59, ⟨1, .idle⟩)] }, bezel := b
           pins := { window := [(2, 1)], next := [(2, 5), (5, 7)] }, tick := 10 }

theorem test_wit_round :
    (let s := { tBezel {} 0x0100 [] with hk := { (tBezel {} 0x0100 []).hk with snap := .running } }
     running s = true ∧ s.hk.snap = .running) ∧
    (tBezel {} 0x0100 []).hk.snap = .idle ∧ running State.reset = false ∧
    (let s := tBezel {} 0x0100 []
     gated s 3 = false ∧ s.bezel.run = none ∧ s.written = [] ∧ s.attr .bezelMode ≠ 0 ∧ s.bezel.queued = false) ∧
    (let s := tBezel { queued := true } 0x0100 []
     gated s 3 = false ∧ s.bezel.run = none ∧ s.written = [] ∧ s.bezel.queued = true) ∧
    (let s := { tBezel { run := some 4, since := 1 } 0x0100 [] with tick := 400000 }
     s.bezel.run = some 4 ∧ gated s 3 = false ∧ s.written = [] ∧
     s.bezel.since * 1280 + senseUs s 4 * 1000 ≤ (s.tick.toNat + 1) * 1280 ∧
     (List.range 12).find? (fun j => decide (4 < j) && decide (s.attr .snsEnable j = 1)) = some 9) ∧
    (let s := tBezel { run := some 4, since := 10 } 0x0100 []
     s.bezel.run = some 4 ∧ (s.tick.toNat + 1) * 1280 < s.bezel.since * 1280 + senseUs s 4 * 1000) := by decide +kernel

theorem test_wit_sense_pins :
    (let s := tBezel {} 0x0100 []
     gated s 3 = false ∧ s.attr .snsShorted (4 : Fin 12) = 0) ∧
    (let s := (tBezel {} 0x0100 []).setAttr .snsShorted 4 0 1
     gated s 3 = false ∧ s.attr .snsShorted (4 : Fin 12) = 1) ∧
    gated State.reset 3 = true ∧
    (let s := tBezel {} 0x1201 []
     ready 0x1201 [] tCmd s = some (tEntry 0x1201 []) ∧ gated s 3 = false ∧ s.attrRead .bezelMode 0 0 = 1 ∧ s.bezel.run = none) ∧
    (let s := tBezel { run := some 4 } 0x1201 []
     ready 0x1201 [] tCmd s = some (tEntry 0x1201 []) ∧ gated s 3 = false ∧ s.attrRead .bezelMode 0 0 = 1 ∧ s.bezel.run ≠ none ∧
     s.bezel.queued = false) ∧
    (let s := tBezel { run := some 4, queued := true } 0x1201 []
     ready 0x1201 [] tCmd s = some (tEntry 0x1201 []) ∧ gated s 3 = false ∧ s.attrRead .bezelMode 0 0 = 1 ∧ s.bezel.run ≠ none ∧
     s.bezel.queued = true) ∧
    (let s := (tBezel {} 0x1201 []).setAttr .bezelMode 0 0 0
     ready 0x1201 [] tCmd s = some (tEntry 0x1201 []) ∧ s.attrRead .bezelMode 0 0 ≠ 1) := by decide +kernel

theorem test_wit_hk_snapshot :
    (let s := tBezel {} 0x1202 []
     ready 0x1202 [] tCmd s = some (tEntry 0x1202 []) ∧ s.hk.snap = .idle) ∧
    (let s := { tBezel {} 0x1202 [] with hk := { State.reset.hk with snap := .waiting } }
     ready 0x1202 [] tCmd s = some (tEntry 0x1202 []) ∧ s.hk.snap ≠ .idle ∧ s.hk.queued = false) ∧
    (let s := { tBezel {} 0x1202 [] with hk := { State.reset.hk with snap := .waiting, queued := true } }
     ready 0x1202 [] tCmd s = some (tEntry 0x1202 []) ∧ s.hk.snap ≠ .idle ∧ s.hk.queued = true) := by decide +kernel

theorem test_wit_outputs :
    (let s := tBezel {} 0x0100 []
     faultDeclared s (4 : Fin 15) { driven := true, mismatches := 16 } = true ∧ outputFaulty s (4 : Fin 15) = false ∧
     faultDeclared s (4 : Fin 15) { driven := true } = false ∧
     faultDeclared s (2 : Fin 15) { driven := true, mismatches := 16 } = true ∧ outputFaulty s (2 : Fin 15) = true) ∧
    (let s := tBezel {} 0x0100 []
     outputFaulty s (5 : Fin 15) = true ∧ Tab.get 0 s.pins.next (5 : Fin 15) ≤ s.tick.toNat ∧ outputHeld s (5 : Fin 15) = false) ∧
    (let s := tBezel {} 0x0100 []
     outputHeld s (2 : Fin 15) = false ∧ windowOver s (2 : Fin 15) = true ∧ windowOver s (5 : Fin 15) = false ∧
     outputHeld s (7 : Fin 15) = true) ∧
    (let fs := [(16, 4, 0x7FFF)]
     ready 0x1203 [(16, 4)] tCmd (tBezel {} 0x1203 fs) = some (tEntry 0x1203 fs) ∧ fieldAt (tEntry 0x1203 fs) 16 4 < 2 ^ 15) ∧
    (let fs := [(16, 4, 0x8000)]
     ready 0x1203 [(16, 4)] tCmd (tBezel {} 0x1203 fs) = some (tEntry 0x1203 fs) ∧ 2 ^ 15 ≤ fieldAt (tEntry 0x1203 fs) 16 4) := by
  decide +kernel

/-- The worked example of chapter 18: 6.8 kΩ against 2 kΩ at 100 µA counts 3,565,158, and shows 212.5 µs of 1,000 µs. -/
theorem test_sense_count :
    senseCount true { x1 := 680, r1 := 200, x2 := 680, r2 := 200 } = some 3565158 ∧
    senseStatus (tBezel {} 0x0100 []) 4 { x1 := 680, r1 := 200, x2 := 680, r2 := 200 } = 0 ∧
    snsoutHigh 1000 3565158 * 128 / 10 / 1000 = 212 := by decide +kernel

/-- A plan in hand or none, and a full window of domain 0. -/
def tTarn (pl : Option TarnPlan) (op : Nat) (fs : List Fld) : State :=
  let s := tState op fs
  { s with tarnish := { doms := [(0, { count := 86400, low := 150, offset := 3 })], plan := pl, startOwed := pl.isNone, writeOwed := true }
           tick := 800000 }

theorem test_wit_tarnish :
    (let s := tTarn none 0x0100 []
     s.tarnish.startOwed = true ∧ s.tarnish.plan = none ∧ s.tarnish.writeOwed = true ∧ fwBackground s = true ∧
     ∀ d, d < 12 → (s.tarn d).history.length ≤ 64) ∧
    (tState 0x0100 []).tarnish.startOwed = false ∧ (tState 0x0100 []).tarnish.writeOwed = false ∧
    (let pl : TarnPlan := { start := 0, phase := 2, next := 0, ready := true }
     let s := tTarn (some pl) 0x0100 []
     s.tarnish.plan = some pl ∧ pl.phase = 2 ∧ pl.ready = true ∧ pl.steps = [] ∧ pl.lows = []) ∧
    (let pl : TarnPlan := { start := 0, next := 0 }
     let s := tTarn (some pl) 0x0100 []
     s.tarnish.plan = some pl ∧ pl.ready = false ∧ pl.steps = []) ∧
    (let x : TarnStep := ⟨0, 0, true⟩
     let pl : TarnPlan := { start := 0, next := 0, steps := [x, x] }
     let s := tTarn (some pl) 0x0100 []
     s.tarnish.plan = some pl ∧ pl.steps = x :: [x] ∧ [x] ≠ [] ∧ pl.next ≤ s.tick.toNat ∧ x.domain < 6) ∧
    (let x : TarnStep := ⟨6, 2, false⟩
     let pl : TarnPlan := { start := 0, next := 0, steps := [x, x] }
     let s := tTarn (some pl) 0x0100 []
     s.tarnish.plan = some pl ∧ pl.steps = x :: [x] ∧ [x] ≠ [] ∧ pl.next ≤ s.tick.toNat ∧ 6 ≤ x.domain ∧ x.domain < 10) ∧
    (tarnRange 0).1 ≤ 3 ∧ 3 ≤ (tarnRange 0).2 ∧
    ready 0x1301 [] tCmd (tTarn none 0x1301 []) = some (tEntry 0x1301 []) := by decide +kernel

theorem test_wit_dump :
    (let s := tState 0x1302 []
     let e := tEntry 0x1302 []
     ready 0x1302 [(16, 1), (24, 8)] tCmd s = some e ∧ fieldAt e 16 1 = 0 ∧
     ¬ (s.attr .sessionPermission tCmd.session = 0 ∧ s.attr .sessionPerfRead tCmd.session = 0) ∧
     areaBad s tCmd.session (fieldAt e 24 8) 2048 = false) ∧
    (let s := tState 0x1302 [(16, 1, 1)]
     let e := tEntry 0x1302 [(16, 1, 1)]
     ready 0x1302 [(16, 1), (24, 8)] tCmd s = some e ∧ fieldAt e 16 1 = 1 ∧ s.perf.snapTaken = false ∧
     ¬ (s.attr .sessionPermission tCmd.session = 0 ∧ s.attr .sessionPerfRead tCmd.session = 0) ∧
     areaBad s tCmd.session (fieldAt e 24 8) 2048 = false) ∧
    (let s := { tState 0x1302 [(16, 1, 1)] with perf := { snapTaken := true } }
     let e := tEntry 0x1302 [(16, 1, 1)]
     ready 0x1302 [(16, 1), (24, 8)] tCmd s = some e ∧ fieldAt e 16 1 = 1 ∧ s.perf.snapTaken = true ∧
     ¬ (s.attr .sessionPermission tCmd.session = 0 ∧ s.attr .sessionPerfRead tCmd.session = 0) ∧
     areaBad s tCmd.session (fieldAt e 24 8) 2048 = false) := by decide +kernel

/-- The worked example of chapter 19: margin 1.50 %, guard 3.00 %, 0.80 % a step: two steps from +3; and 441 days. -/
theorem test_plan_rule : planRule 0 150 300 80 3 = (2, false) ∧ planRule 0 310 300 80 5 = (0, false) ∧
    projectedDays ((tTarn none 0 []).setTarn 0 { offset := 5, history := 4 :: List.replicate 63 5 }) 0 = 441 := by
  decide +kernel

theorem test_wit_invariants : (tState 0x0100 []).clockOk ∧ (tState 0x0100 []).dramOk ∧ State.reset.clockOk ∧
    State.reset.dramOk ∧ (∃ t, step { State.reset with pending := [Instr.powerDown] } = .next t) := by
  refine ⟨fun h => absurd h (by decide), rfl, fun _ => rfl, rfl, _, rfl⟩

/-! Smoke: each check of WellFormed refuses an ill-formed command. -/
theorem test_bad_offset : (Instr.registerWrite 0x1002 ⟨0, 0⟩).wellFormed = false ∧ (Instr.registerWrite 0x10000 ⟨0, 0⟩).wellFormed = false ∧
    (Instr.gateStopWrite 0x2E03 0).wellFormed = false ∧ (Instr.registerWrite 0x1004 ⟨0, 0⟩).wellFormed = true := by decide

theorem test_bad_spi_read : (Instr.spiReadFrame 0x20000 1).wellFormed = false ∧ (Instr.spiReadFrame 8 0).wellFormed = false ∧
    (Instr.spiReadFrame 8 1).wellFormed = true := by decide

theorem test_bad_session : (Instr.syNop ⟨8, 0⟩).wellFormed = false ∧ (Instr.syNop ⟨7, 0⟩).wellFormed = true := by decide

theorem test_bad_session_register : (Instr.sessionConfigWrite 0 0x102 0).wellFormed = false ∧
    (Instr.sessionConfigWrite 0 0x0A 0).wellFormed = false ∧ (Instr.sessionConfigWrite 0 0x08 0).wellFormed = true := by decide

theorem test_bad_entry : (Instr.commandTake 0 (some [0, 0])).wellFormed = false ∧
    (Instr.commandTake 0 (some (List.replicate 64 0))).wellFormed = true := by decide

theorem test_bad_round : (Instr.housekeepingRound ⟨[]⟩).wellFormed = false ∧
    (Instr.housekeepingRound ⟨List.replicate 38 [1]⟩).wellFormed = false ∧
    (Instr.housekeepingRound ⟨List.replicate 38 (List.replicate 16 0)⟩).wellFormed = true := by decide

theorem test_bad_instant : (Instr.refinPulseEdge 0 1280000).wellFormed = false ∧
    (Instr.refinPulseEdge 0 1279999).wellFormed = true := by decide

theorem test_bad_burst : (Instr.flowLookupComplete ⟨0, [1]⟩ ⟨0, []⟩).wellFormed = false ∧
    (Instr.memScrubDone [(0, ⟨0, [1]⟩)]).wellFormed = false ∧ (Instr.flowLookupComplete ⟨0, []⟩ ⟨0, []⟩).wellFormed = true := by decide

theorem test_bad_tick : (Instr.tickBoundary { powers := [(0, 0)] }).wellFormed = false ∧
    (Instr.tickBoundary { faults := [(64, true)] }).wellFormed = false ∧
    (Instr.tickBoundary { pcs := [(64, [1])] }).wellFormed = false ∧
    (Instr.tickBoundary { pps := { margins := [none] } }).wellFormed = false ∧
    (Instr.tickBoundary { refs := [(14, 0, 0)] }).wellFormed = false ∧
    (Instr.tickBoundary { perf := [(256, 0)] }).wellFormed = false ∧
    (Instr.tickBoundary {}).wellFormed = true := by decide

theorem test_bad_margins : (Instr.ppsEdge { margins := [some 0] }).wellFormed = false ∧ (Instr.ppsEdge {}).wellFormed = true := by decide

theorem test_bad_calibration : (Instr.foregroundCalEnd 0 false [{ core := 12 }]).wellFormed = false := by decide

theorem test_bad_quality : (Instr.qualityMeasureUpdate 0 ⟨[], [], 0, 0, 0, 0, 0⟩).wellFormed = false := by decide

theorem test_bad_codeword : (Instr.codewordEntry 0 0 0 504).wellFormed = false ∧ (Instr.codewordEntry 0 0 0 503).wellFormed = true := by
  decide

theorem test_bad_device : (Instr.pcieConfigurationWrite { busMaster := true, maxPayload := 64 } true false false).wellFormed = false ∧
    (Instr.pcieConfigurationWrite { busMaster := true } true false false).wellFormed = true := by decide

theorem test_bad_unit : (Instr.encapsulationUnitRx 0 0 [] [] 0 0).wellFormed = false := by decide

theorem test_bad_sweep : (Instr.laneSweepDone 0 [⟨[], 0, []⟩]).wellFormed = false := by decide
end

section
/-!
PROOFS. The rules of 00_scope that every chapter rests on: the order in which failures are answered (R23) and the wrap of counters (R13).
-/
namespace Sys2Proof

/-! ### Updates of many numbers of a table -/

/-- Updates at other numbers leave a number of a table as it was. -/
theorem Tab.get_foldl_upd_of_notMem {β : Type} [DecidableEq β] (d : β) (f : Nat → β → β) {l : List Nat} {k : Nat}
    (hk : k ∉ l) (t : Tab β) : Tab.get d (l.foldl (fun t n => Tab.upd d t n (f n)) t) k = Tab.get d t k := by
  induction l generalizing t with
  | nil => rfl
  | cons n l ih =>
    obtain ⟨hne, hl⟩ := not_or.1 (mt List.mem_cons.2 hk)
    rw [List.foldl_cons, ih hl, Tab.get_upd, if_neg hne]

/-- Of updates at numbers that differ, each number sees its own and no other. -/
theorem Tab.get_foldl_upd_of_mem {β : Type} [DecidableEq β] (d : β) (f : Nat → β → β) {l : List Nat} {k : Nat}
    (hd : l.Nodup) (hk : k ∈ l) (t : Tab β) :
    Tab.get d (l.foldl (fun t n => Tab.upd d t n (f n)) t) k = f k (Tab.get d t k) := by
  induction l generalizing t with
  | nil => cases hk
  | cons n l ih =>
    obtain ⟨hn, hl⟩ := List.nodup_cons.1 hd
    rw [List.foldl_cons]
    by_cases hkn : k = n
    · subst hkn
      rw [Tab.get_foldl_upd_of_notMem d f hn, Tab.get_upd, if_pos rfl]
    · rw [ih hl ((List.mem_cons.1 hk).resolve_left hkn), Tab.get_upd, if_neg hkn]

end Sys2Proof

namespace Sys2Proof.Machine

/-! ### The first failure (R23) -/

theorem Status.before_eq_or_eq (a b : Status) : a.before b = b ∨ a.before b = a := by
  unfold Status.before
  split
  · exact .inl rfl
  · exact .inr rfl

/-- The kept one of two failures comes after neither. -/
theorem Status.rank_before (a b : Status) : (a.before b).rank = min a.rank b.rank := by
  unfold Status.before
  split <;> omega

/-- Only the six codes that R23 names come before the others. -/
theorem Status.rank_of_unnamed {st : Status}
    (h : st ∉ [Status.eUnknownCmd, .ePermission, .eBadParam, .eRange, .eState, .eStale]) : st.rank = 6 := by
  cases st
  case eUnknownCmd | ePermission | eBadParam | eRange | eState | eStale => simp at h
  all_goals rfl

theorem firstFail_eq_none_iff (l : List (Bool × Status)) : firstFail l = none ↔ ∀ p ∈ l, p.1 = false := by
  induction l with
  | nil => simp
  | cons p t ih =>
    obtain ⟨b, st⟩ := p
    rw [firstFail_cons_eq_none, ih, List.forall_mem_cons]

/-- A condition that holds in front of others: its own failure stands, unless theirs comes before it. -/
theorem firstFail_cons_true_cases {x st : Status} {t : List (Bool × Status)} (h : firstFail ((true, x) :: t) = some st) :
    (firstFail t = none ∧ st = x) ∨ ∃ y, firstFail t = some y ∧ st = x.before y := by
  simp only [firstFail] at h
  split at h
  next ht => exact .inl ⟨ht, (Option.some.inj h).symm⟩
  next y ht => exact .inr ⟨y, ht, (Option.some.inj h).symm⟩

/-- The failure answered is that of a condition that holds. -/
theorem mem_of_firstFail {l : List (Bool × Status)} {st : Status} (h : firstFail l = some st) : (true, st) ∈ l := by
  induction l generalizing st with
  | nil => cases h
  | cons p t ih =>
    obtain ⟨_ | _, x⟩ := p
    · exact List.mem_cons_of_mem _ (ih h)
    · obtain ⟨-, rfl⟩ | ⟨y, hy, rfl⟩ := firstFail_cons_true_cases h
      · exact List.mem_cons_self
      · obtain hk | hk := x.before_eq_or_eq y <;> rw [hk]
        · exact List.mem_cons_of_mem _ (ih hy)
        · exact List.mem_cons_self

/-- No condition that holds comes before the failure answered. -/
theorem firstFail_rank_le {l : List (Bool × Status)} {st st' : Status} (h : firstFail l = some st)
    (hm : (true, st') ∈ l) : st.rank ≤ st'.rank := by
  induction l generalizing st with
  | nil => cases h
  | cons p t ih =>
    obtain ⟨_ | _, x⟩ := p
    · exact ih h ((List.mem_cons.1 hm).resolve_left (by simp))
    · obtain he | ht := List.mem_cons.1 hm <;> obtain ⟨hn, rfl⟩ | ⟨y, hy, rfl⟩ := firstFail_cons_true_cases h
      · exact Nat.le_of_eq (congrArg Status.rank (Prod.mk.inj he).2.symm)
      · rw [(Prod.mk.inj he).2, Status.rank_before]
        exact Nat.min_le_left _ _
      · exact absurd ((firstFail_eq_none_iff t).1 hn _ ht) (by simp)
      · rw [Status.rank_before]
        exact Nat.le_trans (Nat.min_le_right _ _) (ih hy ht)

/-- A served command that may start and whose header or own conditions fail is answered the first failure of them all. -/
theorem serve_firstFail {op : Nat} {form : List Byte → Bool} {named : List (Nat × Nat)}
    {checks : State → Nat → List Byte → List (Bool × Status)} {run : State → CmdRef → List Byte → State × Answer}
    {c : CmdRef} {s : State} {t : Taken} {info : CmdInfo} {st : Status} (ht : findTaken s c = some t)
    (hi : cmdInfo op = some info) (hs : served s c.session = true) (ho : entryOpcode t.entry = op)
    (hf : form t.entry = true) (hm : mayStart s c t = true)
    (hc : firstFail (headerChecks s c.session info named t.entry ++ checks s c.session t.entry) = some st) :
    serve op form named checks run c s = finish c st [] s := by
  simp [serve, ht, hi, hs, ho, hf, hm, mayStart_isRunning hm, hc]

/-- An entry of an opcode that is not defined is answered as it is taken (R136). -/
theorem onTake_undefined {i : Nat} {t : Taken} {s : State} (h : cmdInfo (entryOpcode t.entry) = none) :
    onTake i t s = finish ⟨i, t.id⟩ .eUnknownCmd [] s := by
  simp [onTake, h]

/-! ### Counters (R13) -/

/-- Raising a counter leaves the sum, held to the counter's type. -/
@[simp] theorem State.attr_bump_self (s : State) (a : Attr) (i j : Nat) (n : Int) :
    (s.bump a i j n).attr a i j = a.row.kind.fit (s.attr a i j + n) :=
  s.attr_setAttr_self a i j _

/-- An accumulator wraps at the size of the value it counts for (R386). -/
theorem State.get_count_acc (s : State) (a : Attr) (i j n : Nat) : Tab.get 0 (s.count a i j n).acc (a.key i j) =
    (Tab.get 0 s.acc (a.key i j) + n) % 2 ^ (8 * a.row.kind.size) := by
  rw [State.count_acc, Tab.get_upd, if_pos rfl]

theorem perfActive_nodup (s : State) : (perfActive s).Nodup :=
  List.nodup_range.filter _

/-- A counter that counts takes what it counts in the tick once, and wraps at 48 bits (R638). -/
theorem get_perfCount_live (seen : List (Nat × Nat)) {k : Nat} {s : State} (h : k ∈ perfActive s) :
    Tab.get 0 (perfCount seen s).perf.live k =
      (Tab.get 0 s.perf.live k + perfGain s k (perfShown seen k)) % 2 ^ 48 :=
  Tab.get_foldl_upd_of_mem 0 (fun n v => (v + perfGain s n (perfShown seen n)) % 2 ^ 48) (perfActive_nodup s) h s.perf.live

end Sys2Proof.Machine

namespace Sys2Proof.Proofs
open Sys2Proof Sys2Proof.Machine

/-- Settles O2: by induction on the conditions for the order, and by the service of a command and the taking of an entry. -/
theorem firstFailureByRank : Obligations.FirstFailureByRank := by
  refine ⟨fun l => ⟨firstFail_eq_none_iff l, fun st h => ⟨mem_of_firstFail h, fun _ => firstFail_rank_le h⟩⟩, rfl,
    fun _ => Status.rank_of_unnamed, ?served, fun _ _ _ => onTake_undefined⟩
  intro op form named checks run c s t info st ht hi hs ho hf hm hc
  exact serve_firstFail ht hi hs ho hf hm hc

/-- Settles O33: each counter's update taken modulo its width; the counters that count are each updated once. -/
theorem countersWrap : Obligations.CountersWrap := by
  refine ⟨fun a i j n w s hw => ?unsigned, fun a i j n s => s.get_count_acc a i j n,
    fun seen _ _ => get_perfCount_live seen, by decide⟩
  rw [State.attr_bump_self, hw, AttrKind.fit, wrapU]

end Sys2Proof.Proofs
end

section
/-!
PROOFS. The family of spec/03: an image block written into its slot, the preferred slot of the directory, and SY_BOOT_RETRY with
the warm reset that follows it.
-/
namespace Sys2Proof.Machine

/-! ### What a post leaves as it was -/

theorem Posts.nor {s t : State} (h : Posts s t) : t.nor = s.nor := by rw [h.frame]
theorem Posts.power {s t : State} (h : Posts s t) : t.power = s.power := by rw [h.frame]
theorem Posts.sealed {s t : State} (h : Posts s t) : t.sealed = s.sealed := by rw [h.frame]

/-! ### The directory (R78) -/

/-- A copy that is written carries the check word of its contents. -/
@[simp] theorem dirOf_copy (d : Dir) : dirOf (some d.copy) = some d := by
  simp [dirOf, DirCopy.good, Dir.copy]

/-- A rewrite of the directory takes effect: the copy written, one sequence number up, is the one in use. -/
theorem dirWrite_dir (f : Dir → Dir) (s : State) :
    (dirWrite f s).nor.dir = { f s.nor.dir with seq := s.nor.dir.seq + 1 } := by
  have hlt (n : Nat) : ¬ n + 1 < n := Nat.not_succ_lt_self
  unfold dirWrite Nor.inUse Nor.dir
  cases h0 : dirOf s.nor.copy0 with
  | none => cases h1 : dirOf s.nor.copy1 <;> simp [h1, hlt]
  | some a =>
    cases h1 : dirOf s.nor.copy1 with
    | none => simp [h0]
    | some b => by_cases h : a.seq < b.seq <;> simp [h, h0, h1, hlt]

/-! ### The blocks of an image slot (R77, R80) -/

/-- The blocks of the two slots lie in their slots. -/
theorem norRegion_norBlockAddr {slot b : Nat} (hs : slot ≤ 1) (hb : b < 3072) :
    norRegion (norBlockAddr slot b) = .slot slot := by
  have ha : norBlockAddr slot b = 0x10000 + 0xC00000 * slot + 4096 * b := rfl
  obtain rfl | rfl : slot = 0 ∨ slot = 1 := by omega
  · rw [norRegion, if_neg (by omega), if_neg (by omega), if_pos (by omega)]
  · rw [norRegion, if_neg (by omega), if_neg (by omega), if_neg (by omega), if_pos (by omega)]

/-- Different blocks of the slots lie at different addresses. -/
theorem norBlockAddr_inj {slot b slot' b' : Nat} (hb : b < 3072) (hb' : b' < 3072)
    (h : norBlockAddr slot' b' = norBlockAddr slot b) : (slot', b') = (slot, b) := by
  simp only [norBlockAddr] at h
  obtain ⟨rfl, rfl⟩ : slot' = slot ∧ b' = b := by omega
  rfl

/-- A block that is listed reads as it is listed. -/
theorem Nor.block_of_get {n : Nor} {slot b : Nat} {data : List Byte} (hd : data ≠ [])
    (h : Tab.get [] n.blocks (norBlockAddr slot b) = data) : n.block slot b = data := by
  rw [Nor.block, h, if_neg (by rwa [List.isEmpty_iff])]

/-- A block reads by its entry in the list alone. -/
theorem Nor.block_congr {n m : Nor} {slot b : Nat}
    (h : Tab.get [] n.blocks (norBlockAddr slot b) = Tab.get [] m.blocks (norBlockAddr slot b)) :
    n.block slot b = m.block slot b := by
  rw [Nor.block, h, Nor.block]

theorem norWrite_nor {slot b : Nat} (hs : slot ≤ 1) (hb : b < 3072) (data : List Byte) (s : State) :
    (norWrite slot b data s).nor = { s.nor with blocks := Tab.put [] s.nor.blocks (norBlockAddr slot b) data } := by
  simp [norWrite, norRegion_norBlockAddr hs hb]

/-- A block that is written reads back. -/
theorem norWrite_block_self {slot b : Nat} (hs : slot ≤ 1) (hb : b < 3072) {data : List Byte} (hd : data ≠ []) (s : State) :
    (norWrite slot b data s).nor.block slot b = data :=
  Nor.block_of_get hd (by rw [norWrite_nor hs hb, Tab.get_put, if_pos rfl])

/-- Writing a block leaves the others as they were. -/
theorem norWrite_block_ne {slot b slot' b' : Nat} (hs : slot ≤ 1) (hb : b < 3072) (hb' : b' < 3072)
    (h : (slot', b') ≠ (slot, b)) (data : List Byte) (s : State) :
    (norWrite slot b data s).nor.block slot' b' = s.nor.block slot' b' :=
  Nor.block_congr (by rw [norWrite_nor hs hb, Tab.get_put, if_neg (mt (norBlockAddr_inj hb hb') h)])

/-- The directory lies outside the slots. -/
theorem norWrite_dir {slot b : Nat} (hs : slot ≤ 1) (hb : b < 3072) (data : List Byte) (s : State) :
    (norWrite slot b data s).nor.dir = s.nor.dir := by
  rw [norWrite_nor hs hb]; rfl

theorem windowBlock_ne_nil (s : State) : windowBlock s ≠ [] := by
  simp [windowBlock]

/-! ### The sealed domain outlives a warm reset (R67) -/

/-- A run of steps that keep the sealed domain keeps it. -/
theorem sealed_foldl {α : Type} {f : State → α → State} (hf : ∀ s x, (f s x).sealed = s.sealed) (l : List α) (s : State) :
    (l.foldl f s).sealed = s.sealed := by
  induction l generalizing s with
  | nil => rfl
  | cons x l ih => rw [List.foldl_cons, ih, hf]

@[simp] theorem raise_sealed (code cat index : Nat) (fs : List Fld) (s : State) :
    (raise code cat index fs s).sealed = s.sealed := (raise_posts code cat index fs s).sealed

@[simp] theorem setWheel_sealed (s : State) (w : Nat) (x : CipWheel) : (s.setWheel w x).sealed = s.sealed := rfl

@[simp] theorem queueRecord_sealed (dir : Nat) (r : List Byte) (s : State) : (queueRecord dir r s).sealed = s.sealed := by
  simp [queueRecord, apply_ite State.sealed]

@[simp] theorem stampDiscard_sealed (k : Pkt) (s : State) : (stampDiscard k s).sealed = s.sealed := by
  simp [stampDiscard, apply_ite State.sealed]

@[simp] theorem breakGuarantee_sealed (c cause : Nat) (s : State) : (breakGuarantee c cause s).sealed = s.sealed := by
  simp [breakGuarantee, brokenEvent, apply_ite State.sealed]

@[simp] theorem completion_sealed (k : Pkt) (reason cls flags wheel pn : Nat) (s : State) :
    (completion k reason cls flags wheel pn s).sealed = s.sealed := by
  simp [completion, apply_ite State.sealed]

@[simp] theorem leaveStage_sealed (s : State) (k : Pkt) : (leaveStage s k).sealed = s.sealed := by
  simp [leaveStage, leaveToLine, leaveToClient, apply_ite State.sealed]

@[simp] theorem settleExit_sealed (seq : Nat) (out : Option Pkt) (s : State) : (settleExit seq out s).sealed = s.sealed := by
  simp [settleExit, releaseExits, sealed_foldl leaveStage_sealed]

@[simp] theorem failEarly_sealed (k : Pkt) (reason pn : Nat) (s : State) : (failEarly k reason pn s).sealed = s.sealed := by
  simp [failEarly]

@[simp] theorem failPkt_sealed (reason wheel : Nat) (s : State) (p : CipPkt) :
    (failPkt reason wheel s p).sealed = s.sealed := by
  simp [failPkt]

@[simp] theorem failWheel_sealed (reason w : Nat) (queued : Bool) (s : State) :
    (failWheel reason w queued s).sealed = s.sealed := by
  simp [failWheel, apply_ite State.sealed, sealed_foldl (failPkt_sealed _ _)]

@[simp] theorem flushCipher_sealed (reason : Nat) (s : State) : (flushCipher reason s).2.sealed = s.sealed := by
  simp only [flushCipher]
  rw [sealed_foldl (fun _ _ => failWheel_sealed ..), sealed_foldl (fun _ _ => failEarly_sealed ..),
    sealed_foldl (failPkt_sealed _ _), updCipher_sealed]

@[simp] theorem forceEgress_sealed (s : State) : (forceEgress s).sealed = s.sealed := by
  simp only [forceEgress]
  rw [sealed_foldl]
  intro s l
  simp [apply_ite State.sealed]

/-- Aborting every command posts its answer, and no more. -/
theorem abortAll_posts (s : State) : Posts s (abortAll s) :=
  .ite (.foldl (fun _ _ => .foldl (fun _ _ => finish_posts ..) _ _) _ s) (.refl s)

/-! ### What a warm reset leaves (R64, R67, R71) -/

/-- The hold of thermal level 3 sets the level and its cause bit, and no more. -/
theorem holdThermal_frame (s : State) :
    (holdThermal s).sealed = s.sealed ∧ (holdThermal s).power.phase = s.power.phase ∧ (holdThermal s).tick = s.tick ∧
      (holdThermal s).sessions = s.sessions := by
  unfold holdThermal
  split <;> exact ⟨rfl, rfl, rfl, rfl⟩

/-- After a warm or cold reset the part waits for its clocks, before tick 0 and without sessions; the sealed domain is kept. -/
theorem resetTo_spec (warm : Bool) (causes : Nat) (s : State) :
    (resetTo warm causes s).sealed = s.sealed ∧ (resetTo warm causes s).power.phase = .waitStart ∧
      (resetTo warm causes s).tick = 0 ∧ (resetTo warm causes s).sessions = [] :=
  holdThermal_frame _

/-- A warm reset of a running part is the reset of Table 11 on a state with the same sealed domain, and a count of packets lost. -/
theorem warmReset_eq_resetTo (cause : Nat) {s : State} (h : barAlive s = true) :
    ∃ causes u n, u.sealed = s.sealed ∧ warmReset cause s = (resetTo true causes u).setAttr .cipLastResetAborts 0 0 n := by
  rw [warmReset, running, h]
  refine ⟨_, _, _, ?_, rfl⟩
  dsimp only
  rw [(abortAll_posts _).sealed, flushCipher_sealed, forceEgress_sealed]

/-- A warm reset of a running part keeps the sealed domain and leaves the part waiting for its clocks. -/
theorem warmReset_spec (cause : Nat) {s : State} (h : barAlive s = true) :
    (warmReset cause s).sealed = s.sealed ∧ (warmReset cause s).power.phase = .waitStart ∧ (warmReset cause s).tick = 0 ∧
      (warmReset cause s).sessions = [] := by
  obtain ⟨causes, u, n, hu, hw⟩ := warmReset_eq_resetTo cause h
  rw [hw, ← hu]
  exact resetTo_spec true causes u

/-! ### SY_BOOT_RETRY (R116) -/

/-- The state that a SY_BOOT_RETRY which is accepted is answered in: no failure counted, and a warm reset to follow. -/
def retryAccepted (s : State) : State :=
  { s with sealed := { s.sealed with failCount := 0, lastFailed := none }, boot := { s.boot with retry := true } }

/-- Outside strap recovery and normal firmware SY_BOOT_RETRY is answered OK, and the warm reset follows the answer. -/
theorem syBootRetry_accepted {c : CmdRef} {s : State} {e : List Byte} (h : ready 0x0306 [] c s = some e)
    (hrec : s.boot.recovery = false) (hmin : s.boot.service = .firmware → s.minimal = true) :
    exec (.syBootRetry c) s = .next (warmReset 0 (finish c .ok [] (retryAccepted s))) := by
  show execSyBootRetry c s = _
  rw [execSyBootRetry, serve_ready h rfl (by simpa [hrec] using hmin)]
  simp [answer, retryAccepted, (finish_posts ..).boot]

end Sys2Proof.Machine

namespace Sys2Proof.Proofs
open Sys2Proof Sys2Proof.Machine

/-- Settles O19: the conditions on the download are judged first; a block that passes lies at an address of its own in its slot. -/
theorem imageWriteStoresABlock : Obligations.ImageWriteStoresABlock := by
  refine ⟨fun c s e h hd => ?closed, fun c s e slot n h hd hn => ?beyond, fun c s e slot n h hd hb hn hs hcrc hgood => ?stored⟩
  case closed =>
    exact congrArg Host.Outcome.next (serve_refused h rfl (by simp [hd, firstFail]))
  case beyond =>
    exact congrArg Host.Outcome.next (serve_refused h rfl (by simp [hd, hn, firstFail]))
  case stored =>
    have hb' : fieldAt e 16 4 < 3072 := by omega
    have hrun : exec (.syImageWrite c) s =
        .next (finish c .ok [] (norWrite slot (fieldAt e 16 4) (windowBlock s) s)) := by
      refine congrArg Host.Outcome.next ((serve_ready h rfl ?_).trans ?_)
      · simp [hd, hb]
      · simp [hd, hcrc, hgood, answer]
    refine ⟨_, hrun, ?_⟩
    dsimp only
    rw [(finish_posts ..).nor]
    exact ⟨norWrite_block_self hs hb' (windowBlock_ne_nil s) s, norWrite_dir hs hb' _ s,
      fun _ _ _ hlt hne => norWrite_block_ne hs hb' hlt hne _ s⟩

/-- Settles O20: the mark of the slot is the one condition left to a served command, and the rewritten copy is the one in use. -/
theorem preferredSlotByActivate : Obligations.PreferredSlotByActivate := by
  refine ⟨fun c s e h hm hs hv => ⟨congrArg Host.Outcome.next ?valid, by rw [dirWrite_dir]⟩,
    fun c s e h hm hs hv => ⟨congrArg Host.Outcome.next ?invalid, (finish_posts ..).nor⟩⟩
  case valid => exact serve_ready h (by simp [isPreferredForm, hm]) (by simp [hs, hv])
  case invalid => exact serve_refused h (by simp [isPreferredForm, hm]) (by simp [hs, Nat.not_lt.2 hs, hv, firstFail])

/-- Settles O22: the answer leaves the mark that a retry was accepted, on which the warm reset follows; the reset keeps the sealed
domain. -/
theorem bootRetryRestarts : Obligations.BootRetryRestarts := by
  refine ⟨fun c s e h hrec hmin _ halive => ?accepted, fun c s e h hfw hmin hretry => ?refused⟩
  case accepted =>
    have hpost := finish_posts c .ok [] (retryAccepted s)
    have hrun := syBootRetry_accepted h hrec hmin
    obtain ⟨hsealed, hrest⟩ := warmReset_spec 0 (by rw [barAlive, hpost.power]; exact halive)
    exact ⟨hrun, _, hrun, hsealed.trans hpost.sealed, hrest⟩
  case refused =>
    show execSyBootRetry c s = _
    rw [execSyBootRetry, serve_refused (st := .eState) h rfl (by simp [hfw, hmin, firstFail])]
    simp [(finish_posts ..).boot, hretry]

end Sys2Proof.Proofs
end

section
/-!
PROOFS. The family of spec/04: a write of SESSION_CTRL that opens a closed session.
-/
namespace Sys2Proof.Machine

/-! ### The bits of a register -/

/-- The model's bit test is the library's. -/
theorem wbit_eq_getLsbD (w : Word) (i : Nat) : wbit w i = w.getLsbD i := by
  rw [wbit, bitOf, BitVec.getLsbD, Nat.testBit_eq_decide_div_mod_eq]

theorem wbit_or_one_zero (w : Word) : wbit (w ||| 1) 0 = true := by
  simp [wbit_eq_getLsbD]

theorem wbit_or_one_of_ne_zero (w : Word) {i : Nat} (h : i ≠ 0) : wbit (w ||| 1) i = wbit w i := by
  simp [wbit_eq_getLsbD, h]

/-! ### SESSION_CTRL (R128, R133) -/

/-- What a write of SESSION_CTRL makes of the closed session that it opens: the interrupt enables and the mode as written, and the
indices 0. A mode of 0 is ignored, and marked so, where the SPI target is the only host path (R128). -/
def Session.openedBy (v : Word) (spiOnly : Bool) (x : Session) : Session :=
  { x with
    state := .opened
    enable := true
    onDie := if !wbit v 1 && spiOnly then x.onDie else wbit v 1
    cfgIgnored := x.cfgIgnored || !wbit v 1 && spiOnly
    eventIrq := wbit v 3
    rspIrq := wbit v 2
    cmdProducer := 0
    cmdConsumer := 0
    rspProducer := 0
    rspConsumer := 0 }

/-- Ignoring a write of one session leaves the others as they were. -/
theorem cfgIgnore_sess_ne {i k : Nat} (hk : k ≠ i) (s : State) : (cfgIgnore i s).sess k = s.sess k := by
  simp [cfgIgnore, hk]

/-- A write of SESSION_CTRL with reset_session 0 leaves every other session as it was. -/
theorem sessionCtrlWrite_sess_ne {i k : Nat} (hk : k ≠ i) {v : Word} (hreset : wbit v 4 = false) (s : State) :
    (sessionCtrlWrite i v s).sess k = s.sess k := by
  simp [sessionCtrlWrite, hreset, cfgIgnore_sess_ne hk, hk, apply_ite (State.sess · k)]

/-- A write of SESSION_CTRL with enable 1 and reset_session 0 opens a closed session. -/
theorem sessionCtrlWrite_sess_of_closed {i : Nat} {v : Word} {s : State} (hclosed : (s.sess i).state = .closed)
    (henable : (s.sess i).enable = false) (hopen : wbit v 0 = true) (hreset : wbit v 4 = false) :
    (sessionCtrlWrite i v s).sess i = (s.sess i).openedBy v s.power.straps.hostif := by
  simp only [sessionCtrlWrite, Session.openedBy, State.setSess_power, henable, hopen, hreset]
  cases hspi : !wbit v 1 && s.power.straps.hostif
  case true => simp [cfgIgnore, hclosed]
  case false =>
    by_cases hmode : wbit v 1 = (s.sess i).onDie <;> simp [hmode, hclosed]

end Sys2Proof.Machine

namespace Sys2Proof.Proofs
open Sys2Proof Sys2Proof.Machine

/-- Settles O27: SESSION_OPEN is a write of SESSION_CTRL with bit 0 set and the other bits as given, which opens the closed session. -/
theorem sessionOpensWithIndicesZero : Obligations.SessionOpensWithIndicesZero := by
  intro i v s halive hclosed henable hreset
  have hrun : exec (.sessionOpen i v) s = .next (sessionCtrlWrite i (v ||| 1) s) :=
    congrArg Host.Outcome.next (if_pos halive)
  have hreset' : wbit (v ||| 1) 4 = false := (wbit_or_one_of_ne_zero v (by decide)).trans hreset
  have hself := sessionCtrlWrite_sess_of_closed hclosed henable (wbit_or_one_zero v) hreset'
  refine ⟨_, hrun, ?_⟩
  dsimp only
  rw [hself]
  refine ⟨rfl, rfl, rfl, rfl, rfl, rfl, rfl, rfl, fun hspi => ?mode, fun j hj => sessionCtrlWrite_sess_ne hj hreset' s⟩
  case mode => simpa [Session.openedBy, hspi] using wbit_or_one_of_ne_zero v Nat.one_ne_zero

end Sys2Proof.Proofs
end
